-- ==== Sys2Proof/Word.lean ====
section
/-!
DEFINITION. The plain words of the model: bytes, the numbers that name rooms, kitchens and panels, and a
table of a fixed number of entries. Nothing here takes its meaning from a rule.
-/

namespace Sys2Proof

/-- One byte of an uplink or loop image, or one glyph code. -/
abbrev Byte := BitVec 8

/-- A byte image. -/
abbrev Bytes := List Byte

/-- A room number, 0 to 95 (`00_scope` 6.4). -/
abbrev RoomNo := Fin 96

/-- A kitchen number, 0 to 7. -/
abbrev KitchenNo := Fin 8

/-- An overlay number, 0 to 7. -/
abbrev OverlayNo := Fin 8

/-- The index of a loop address: loop address `a` (1 to 112) has index `a - 1`. -/
abbrev Addr := Fin 112

/-- A booking id. -/
abbrev BookingId := BitVec 16

/-- A badge number. -/
abbrev Badge := BitVec 32

/-- A table of exactly `n` entries. -/
structure Tab (α : Type) (n : Nat) where
  cells : List α
  size  : cells.length = n
  deriving DecidableEq, Repr

namespace Tab

variable {α β : Type} {n : Nat}

/-- The table whose entries are all `a`. -/
def fill (n : Nat) (a : α) : Tab α n := ⟨List.replicate n a, List.length_replicate⟩

/-- The table whose entry `i` is `f i`. -/
def gen (f : Fin n → α) : Tab α n := ⟨List.ofFn f, List.length_ofFn⟩

/-- Entry `i`. -/
def get (t : Tab α n) (i : Fin n) : α := t.cells.get (i.cast t.size.symm)

/-- The table with entry `i` replaced. -/
def set (t : Tab α n) (i : Fin n) (a : α) : Tab α n :=
  ⟨t.cells.set i.val a, by rw [List.length_set]; exact t.size⟩

/-- The table with entry `i` changed by `f`. -/
def upd (t : Tab α n) (i : Fin n) (f : α → α) : Tab α n := t.set i (f (t.get i))

/-- The table with every entry changed by `f`. -/
def map (f : α → β) (t : Tab α n) : Tab β n :=
  ⟨t.cells.map f, by rw [List.length_map]; exact t.size⟩

end Tab

end Sys2Proof
end

