-- ==== Sys2Proof/Syntax.lean ====
section
/-!
DEFINITION. The commands of the part: one constructor of `Instr` for each row of `spec/opcode_table.json`,
with the operands that the row's rule gives it. The table gives its rows no bits and no operand fields, so
the operands are read from the rules and from the byte layouts of chapter 12.

Numbers that arrive in byte fields are plain `Nat`s here; `WellFormed.lean` says which values the fields of
chapter 12 can carry. Times within a loop window are microseconds of the part's own loop timer.
-/

namespace Sys2Proof

/-- Who asked: the Ethernet addresses and the tag of a request frame, as its response needs them
(R165, `12` 12.2). -/
structure Via where
  source      : BitVec 48
  destination : BitVec 48
  tag         : BitVec 16
  deriving DecidableEq, Repr

/-- A received glyph string: its length byte and the glyph bytes of its fixed field (R170). -/
structure GlyphField where
  length : Nat
  cells  : Bytes
  deriving DecidableEq, Repr

/-- The ORDER part of a request: delivery offset, line count, and the eight line positions of item and
quantity (`12` 12.3). -/
structure OrderAsk where
  offset : Nat
  count  : Nat
  lines  : List (Nat × Nat)
  deriving DecidableEq, Repr

/-- The payload of a BOOK (R47, `12` 12.7). -/
structure BookAsk where
  id               : BookingId
  room             : Nat
  joined           : Bool
  cls              : Nat
  attendees        : Nat
  day              : Nat
  minute           : Nat
  duration         : Nat
  cateringRequired : Bool
  title            : Option GlyphField
  order            : Option OrderAsk
  organiser        : Option Badge
  deriving DecidableEq, Repr

/-- The times of a MODIFY: day, start minute and duration together (R47). -/
structure AskTimes where
  day      : Nat
  minute   : Nat
  duration : Nat
  deriving DecidableEq, Repr

/-- The payload of a MODIFY (R47, `12` 12.7): a field that the mask does not name is `none`; a part that is
named as absent is `some none`. -/
structure ModifyAsk where
  id               : BookingId
  times            : Option AskTimes
  room             : Option Nat
  attendees        : Option Nat
  title            : Option (Option GlyphField)
  order            : Option (Option OrderAsk)
  organiser        : Option (Option Badge)
  cateringRequired : Bool
  deriving DecidableEq, Repr

/-- One Ethernet frame at a port: addresses, frame type, the bytes after the type field, and whether its
Ethernet frame check held (R162). -/
structure EthFrame where
  destination : BitVec 48
  source      : BitVec 48
  frameType   : BitVec 16
  body        : Bytes
  checkOk     : Bool
  deriving DecidableEq, Repr

/-- The commands: one constructor per row of the table. -/
inductive Instr where
  /-- REFERENCE_EDGE (R1, R2). -/
  | referenceEdge
  /-- REFERENCE_LOST (R2). -/
  | referenceLost
  /-- DAY_ROLLOVER (R106): the Catering Scheduler takes the oldest rollover delivered to it. -/
  | dayRollover
  /-- GRAIN_SCAN (R42): the Booking Store goes on with the scan of its oldest boundary, for `pieces`
  pieces: each room list is one, the retire list the last. 97 pieces are a whole scan. -/
  | grainScan (pieces : Nat)
  /-- DISPATCH_PASS (R111): as GRAIN_SCAN, a piece being one kitchen. 8 pieces are a whole pass. -/
  | dispatchPass (pieces : Nat)
  /-- ZONE_ROW_RECOMPOSE (R125): as GRAIN_SCAN, a piece being one room. 96 pieces are the whole work. -/
  | zoneRowRecompose (pieces : Nat)
  /-- CLOCK_SET (R8 to R10). -/
  | clockSet (via : Via) (day minute second : Nat) (force : Bool)
  /-- CLOCK_READ (R11). -/
  | clockRead (via : Via)
  /-- UPLINK_FRAME (R162, R164): an Ethernet frame arrives at the uplink port. -/
  | uplinkFrame (frame : EthFrame)
  /-- CASCADE_FRAME (R163): an Ethernet frame arrives at the cascade port. -/
  | cascadeFrame (frame : EthFrame)
  /-- BOOK (R47 to R49): the request as claimed; it joins the admission queue. -/
  | book (via : Via) (ask : BookAsk)
  /-- MODIFY (R47 to R49). -/
  | modify (via : Via) (ask : ModifyAsk)
  /-- CANCEL (R47 to R49). -/
  | cancel (via : Via) (id : BookingId)
  /-- ADMISSION_CHECK (R51): the engine's next check or placement step for the request in flight. -/
  | admissionCheck
  /-- DISPLACEMENT (R73): the Booking Store judges the displacement the engine has asked for. -/
  | displacement
  /-- MOVE_FRAME_POP (R76 to R80): the engine pops the top frame, or goes on with the booking it has
  popped, for at most `work` of its readings; it stops when that booking is placed, released or waits on a
  DISPLACEMENT. -/
  | moveFramePop (work : Nat)
  /-- VACATE (R82, R83): the engine's next reading of the room of the VACATE in flight. -/
  | vacate
  /-- BOOK_NOW (R68): the engine judges the BOOK_NOW in flight. -/
  | bookNow
  /-- EXTEND (R69): the engine judges the EXTEND in flight. -/
  | extend
  /-- END_NOW (R70): the engine judges the END_NOW in flight. -/
  | endNow
  /-- TAP (R94): the Booking Store judges the oldest tap handed to it. -/
  | tap
  /-- ACCEPT (R114): the scheduler judges the oldest pantry call handed to it, an ACCEPT. -/
  | accept
  /-- DELIVERED (R115): the scheduler judges the oldest pantry call handed to it, a DELIVERED. -/
  | delivered
  /-- QUERY (R44). -/
  | query (via : Via) (id : BookingId)
  /-- LIST_ROOM (R45). -/
  | listRoom (via : Via) (room day start : Nat)
  /-- TABLE_READ (R166). -/
  | tableRead (via : Via) (table index : Nat)
  /-- TABLE_WRITE (R167): the field mask and the entry image as the payload carries them. -/
  | tableWrite (via : Via) (table index : Nat) (mask image : Bytes)
  /-- ROOM_STATE_WRITE (R20): a TABLE_WRITE of T1 that names the state. -/
  | roomStateWrite (via : Via) (room code : Nat)
  /-- ALTERNATES_WRITE (R17): a TABLE_WRITE of T1 that names the alternates. -/
  | alternatesWrite (via : Via) (room : Nat) (entries : List Nat)
  /-- CAPACITY_PARTNER_WRITE (R15): a TABLE_WRITE of T1 that names the capacity, the partner or both; the
  partner code FFh is absent. -/
  | capacityPartnerWrite (via : Via) (room : Nat) (capacity partner : Option Nat)
  /-- ROOM_NAME_WRITE (R27). -/
  | roomNameWrite (via : Via) (room : Nat) (name : GlyphField)
  /-- PANEL_KIND_BINDING_WRITE (R143): a TABLE_WRITE of T2 that names the kind, the binding or both. -/
  | panelKindBindingWrite (via : Via) (address : Nat) (kind binding : Option Nat)
  /-- KITCHEN_STATE_WRITE (R103). -/
  | kitchenStateWrite (via : Via) (kitchen code : Nat)
  /-- CAPACITY_PROFILE_WRITE (R104): pairs of slot-of-day and capacity. -/
  | capacityProfileWrite (via : Via) (kitchen : Nat) (slots : List (Nat × Nat))
  /-- OVERLAY_WRITE (R131): pairs of row number and its 48 bytes. -/
  | overlayWrite (via : Via) (overlay : Nat) (rows : List (Nat × Bytes))
  /-- DISPOSITION_WRITE (R153). -/
  | dispositionWrite (via : Via) (cls : Nat) (action level : Option Nat)
  /-- LOOP_SETTINGS_WRITE (R136): windows per cycle, window time and return timeout. -/
  | loopSettingsWrite (via : Via) (windows windowTime timeout : Option Nat)
  /-- SIGNAL_LOSS_LATCH_CLEAR (R137): a write of 1 to the latch of T8. -/
  | signalLossLatchClear (via : Via)
  /-- NOTICE_PEEK (R157). -/
  | noticePeek (via : Via) (queue : Nat)
  /-- NOTICE_TAKE (R157). -/
  | noticeTake (via : Via) (queue count : Nat)
  /-- NOTICE_FLUSH (R158). -/
  | noticeFlush (via : Via) (queue : Nat)
  /-- ALERT_CLEAR (R160): the mask, bit `i` naming class `i`. -/
  | alertClear (via : Via) (mask : BitVec 32)
  /-- COUNTERS_READ (R155). -/
  | countersRead (via : Via) (clear : Bool)
  /-- PANEL_TEXT (R128): the loop address and the bytes of the text units. -/
  | panelText (via : Via) (address : Nat) (units : Bytes)
  /-- PANEL_OVERLAY (R132): the target (1 to 112, or FFh for all panels) and the choice (0 to 7, or FFh for
  NONE). -/
  | panelOverlay (via : Via) (target choice : Nat)
  /-- LOOP_ECHO (R150). -/
  | loopEcho (via : Via)
  /-- PART_RESET (R169): answered; the line reset then falls due. -/
  | partReset (via : Via)
  /-- LINE_RESET (R169): the line reset is carried out; `straps` is what the strap pins read. -/
  | lineReset (straps : Fin 8)
  /-- RESET_LINE_ASSERT (R168). -/
  | resetLineAssert (straps : Fin 8)
  /-- RESET_LINE_RELEASE (R168). -/
  | resetLineRelease (straps : Fin 8)
  /-- POWER_ON_RESET (R168): the power-good line rises. -/
  | powerOnReset (straps : Fin 8)
  /-- POWER_GOOD_FALL (R168). -/
  | powerGoodFall
  /-- HOLD (R154): the oldest hold that the Exception Unit has handed on reaches its owner. -/
  | hold
  /-- SIGNAL_PRESENT (R137). -/
  | signalPresent
  /-- SIGNAL_ABSENT (R137). -/
  | signalAbsent
  /-- WINDOW_OPEN (R138): the window time has elapsed, at `now` microseconds. -/
  | windowOpen (now : Nat)
  /-- OWN_FRAME_SEND (R139): loop-out is free at `now` microseconds. -/
  | ownFrameSend (now : Nat)
  /-- OWN_FRAME_RETURN (R141): a frame comes home at loop-in at `now` microseconds. -/
  | ownFrameReturn (frame : Bytes) (now : Nat)
  /-- RETURN_TIMEOUT (R142): the return timeout of the awaited frame expires. -/
  | returnTimeout
  /-- PANEL_FRAME (R145): a panel's frame arrives at loop-in at `now` microseconds. -/
  | panelFrame (frame : Bytes) (now : Nat)
  /-- CALL (R146): a CALL frame of the panel at loop address `origin`, with its sequence and payload. -/
  | call (origin sequence : Nat) (payload : Bytes)
  /-- LINK_STATE_CHANGE (R162): the receiver of the uplink or the cascade port reports its link. -/
  | linkStateChange (uplink up : Bool)
  /-- KITCHEN_NAME_WRITE (R103). -/
  | kitchenNameWrite (via : Via) (kitchen : Nat) (name : GlyphField)
  deriving DecidableEq, Repr

end Sys2Proof
end

