-- ==== Sys2Proof/Decode.lean ====
section
/-!
DEFINITION. The table's words. Every row of `spec/opcode_table.json` has an empty list of fields and gives
no bits: no word spells a command. (The byte images of the frames that carry requests are read in
`Machine/Operands.lean`.)
-/

namespace Sys2Proof

/-- The command that a word spells by the table's bits: none, since no row gives bits. -/
def decodeTableWord (_nbits _w : Nat) : Option Instr := none

end Sys2Proof
end

