-- ==== Sys2Proof/Config.lean ====
section
/-!
DEFINITION. The constants that the manual fixes for the part, and three free values: moments of the loop's and the
uplink's lines, of which the manual gives the effect and no measure. What it leaves to an input (straps, link states, the loop
signal) is State.
-/

namespace Sys2Proof.Config

/-- Cells of the record pool (R29). -/
def poolCells : Nat := 3072

/-- STORE_LOW is raised when an allocation leaves fewer free cells than this (R31). -/
def storeLowMark : Nat := 64

/-- Places of the admission queue (R49). -/
def queuePlaces : Nat := 16

/-- Frames of the move stack (R74). -/
def stackFrames : Nat := 5

/-- Tickets of one ticket list (R112), and frames of one TICKET list (R149). -/
def ticketPlaces : Nat := 12

/-- Entries of one reply queue (R147). -/
def replyPlaces : Nat := 4

/-- Entries of one notice queue (R156). -/
def noticePlaces : Nat := 32

/-- Grains of a day (R4). -/
def dayGrains : Nat := 288

/-- Days of the horizon, and day-pages of a kitchen (R5, R105). -/
def horizonDays : Nat := 14

/-- The last grain of the clock's range (R4). -/
def lastGrain : Nat := 18874367

/-- The last campus day (R1). -/
def lastDay : Nat := 65535

/-- Reference edges of one second (R1). -/
def edgesPerSecond : Nat := 32768

/-- The longest duration a BOOK or MODIFY is judged with, in minutes (R59). -/
def maxDuration : Nat := 720

/-- The largest load of a slot and the largest capacity (R104, R105). -/
def maxLoad : Nat := 4095

/-- The first booking id of the walk-in range (R35). -/
def walkInBase : BookingId := 0xFF00#16

/-- The Ethernet type of the part's frames (R162). -/
def frameType : BitVec 16 := 0x9A61#16

/-- Calls that one panel may have taken in one window (R146). -/
def callsPerWindow : Nat := 2

/-! ## Free values -/

/-- For how many microseconds the `n`th panel frame that is sent on keeps loop-out. Free: R145 gives the
forwarded frame its place before the own frame that it holds back, and no rate of the line
(notes/assumptions/58.md). -/
opaque forwardTime (n : Nat) : Nat

/-- When a CALL reaches loop-in, with the own frame sent last sent at `sent`. Free: its command carries no moment
(notes/assumptions/21.md). -/
opaque callTime (sent : Nat) : Nat

/-- How many of the responses made last have not begun to leave the uplink port when the `n`th reset reaches it.
Free: R169 has those discarded, and gives no time that a response takes to leave (notes/assumptions/6.md). -/
opaque unsentAtReset (n : Nat) : Nat

end Sys2Proof.Config
end

