-- ==== Sys2Proof/Machine/State.lean ====
section
/-!
DEFINITION. The state of the part as plain data, and its value after reset. One structure for each block of
`00_scope` section 3, the loaded tables as tables, and the queue of commands that wait. What is the model's
own, and not the spec's, is said at its field and listed in INVENTORY.md.
-/

namespace Sys2Proof.Machine

/-! ## Campus clock (chapter 1) -/

/-- The clock state (R3). -/
inductive ClockState where
  | unset | running | halted
  deriving DecidableEq, Repr

/-- The campus clock and its reference monitor (`01` 1.1). -/
structure Clock where
  day       : Nat
  minute    : Nat
  second    : Nat
  subSecond : Nat
  state     : ClockState
  /-- The reference state is PRESENT. -/
  reference : Bool
  deriving DecidableEq, Repr

/-! ## Rooms (chapter 2) -/

inductive RoomState where
  | unconfigured | inService | held | outOfService
  deriving DecidableEq, Repr

inductive CheckInMode where
  | anyTap | organiser
  deriving DecidableEq, Repr

inductive MovePolicy where
  | noDisplace | displaceLower
  deriving DecidableEq, Repr

/-- One entry of the room table T1 (`02` 2.1), and the mark of R26. -/
structure Room where
  state          : RoomState
  name           : Bytes
  capacity       : Nat
  capacityLocked : Bool
  partner        : Option RoomNo
  partnerLocked  : Bool
  setup          : Nat
  turnaround     : Nat
  grace          : Nat
  earlyWindow    : Nat
  checkIn        : CheckInMode
  policy         : MovePolicy
  kitchen        : Option KitchenNo
  alternates     : List RoomNo
  pointer        : Nat
  vacatePending  : Bool
  /-- The alternates have been written since the engine last read them (R26, R18). -/
  altsWritten    : Bool
  deriving DecidableEq, Repr

/-! ## Panels (chapters 8 and 9) -/

inductive PanelKind where
  | unbound | door | pantry
  deriving DecidableEq, Repr

inductive PanelState where
  | unknown | present | absent | muted
  deriving DecidableEq, Repr

/-- The statuses of an answer (R165). -/
inductive Status where
  | done | refused | busy | noRoute | malformed
  deriving DecidableEq, Repr

/-- The reasons of a refusal (`12` 12.2). -/
inductive Reason where
  | noClock | reservedId | duplicateId | unknownId | notLive | roomUnavailable | notPaired | overCapacity
  | past | beyondHorizon | storeFull | orderInService | badItem | orderLate | kitchenFull | alreadyIn
  | conflict | noReference | clockBackward | noFreeRows | loopNotUp | unknownTicket | notOrganiser
  | nothingArmed
  deriving DecidableEq, Repr

/-- The answer to a panel call: status, reason when REFUSED, and the booking id and end grain where the
answer carries them (`09` 9.1). -/
structure CallAnswer where
  status  : Status
  reason  : Option Reason
  booking : Option BookingId
  qe      : Option Nat
  deriving DecidableEq, Repr

/-- The state of a reply entry (R147). -/
inductive ReplyState where
  | waiting
  | ready (answer : CallAnswer)
  | inFlight (answer : CallAnswer)
  deriving DecidableEq, Repr

/-- One entry of a panel's reply queue (R147). `serial` is the model's own name for the call, by which the
answer finds "the entry made for its call". -/
structure ReplyEntry where
  serial   : Nat
  callKind : Nat
  sequence : Nat
  state    : ReplyState
  deriving DecidableEq, Repr

/-- One frame of a panel's TICKET list (R149). `replaced` says that the content was replaced while the frame
awaited its return. -/
structure TicketFrame where
  booking  : BookingId
  kitchen  : KitchenNo
  roomName : Bytes
  qd       : Nat
  load     : Nat
  replaced : Bool
  deriving DecidableEq, Repr

/-- One entry of the panel table T2 with what the Loop Controller holds for its address (`09` 9.7, R146,
R147, R149). -/
structure Panel where
  kind          : PanelKind
  /-- The room of a DOOR panel, the kitchen of a PANTRY panel. -/
  binding       : Nat
  window        : Option Nat
  state         : PanelState
  misses        : Nat
  violations    : Nat
  callsInWindow : Nat
  /-- An ABSENT panel has been sent its one frame of the current window (R139). -/
  served        : Bool
  /-- The table window in use in the current cycle (R143: a write counts from the next cycle start). -/
  cycleWindow   : Option Nat
  replies       : List ReplyEntry
  tickets       : List TicketFrame
  deriving DecidableEq, Repr

/-! ## Menu, kitchens, orders (chapter 7) -/

/-- One entry of the menu table T3 (R102). -/
structure MenuItem where
  name   : Bytes
  weight : Nat
  lead   : Nat
  mask   : BitVec 8
  deriving DecidableEq, Repr

inductive KitchenState where
  | opened | paused
  deriving DecidableEq, Repr

/-- One entry of the kitchen table T4 (R103). -/
structure Kitchen where
  name        : Bytes
  acceptLimit : Nat
  pantry      : Option Addr
  state       : KitchenState
  deriving DecidableEq, Repr

inductive OrderState where
  | placed | dispatched | accepted | delivered | wasted | cancelled
  deriving DecidableEq, Repr

/-- The ORDER part of a record (R33). -/
structure Order where
  kitchen         : KitchenNo
  offset          : Nat
  lines           : List (Nat × Nat)
  load            : Nat
  qd              : Nat
  qx              : Nat
  state           : OrderState
  dispatchPending : Bool
  lateMark        : Bool
  deriving DecidableEq, Repr

/-- One day-page of the load table: its tag and, for each kitchen, 96 loads. For every kitchen the tags are
the same (R105), so the tag stands once. -/
structure Page where
  tag   : Nat
  loads : Tab (Tab Nat 96) 8
  deriving DecidableEq, Repr

/-- One ticket of a kitchen's ticket list (R112). `accepted` is the ticket state ACCEPTED. -/
structure Ticket where
  booking        : BookingId
  roomName       : Bytes
  qd             : Nat
  load           : Nat
  accepted       : Bool
  madeGrain      : Nat
  unacceptedMark : Bool
  deriving DecidableEq, Repr

/-- The Catering Scheduler's own state (`07`): the load table and the ticket lists. -/
structure Catering where
  pages   : Tab Page 14
  tickets : Tab (List Ticket) 8
  deriving DecidableEq, Repr

/-! ## The booking store (chapter 3) -/

inductive Origin where
  | uplink | panel
  deriving DecidableEq, Repr

inductive BookingState where
  | booked | armed | checkedIn | moving | ended | released
  deriving DecidableEq, Repr

inductive EndReason where
  | normal | early | unattended | cancelled
  deriving DecidableEq, Repr

inductive ReleaseReason where
  | cancelled | noShow | unplaced
  deriving DecidableEq, Repr

/-- A booking record (R32, R33) with the pool cells it holds, its base cell first (R29). -/
structure Record where
  id            : BookingId
  room          : RoomNo
  joined        : Bool
  cls           : Nat
  attendees     : Nat
  origin        : Origin
  qs            : Nat
  qe            : Nat
  ss            : Nat
  se            : Nat
  state         : BookingState
  endReason     : Option EndReason
  releaseReason : Option ReleaseReason
  badge         : Option Badge
  retireGrain   : Nat
  title         : Option Bytes
  order         : Option Order
  organiser     : Option Badge
  cells         : List Nat
  deriving DecidableEq, Repr

/-- The Booking Store (`03`). The booking index is the list of records, read by id (R35). -/
structure Store where
  free          : List Nat
  records       : List Record
  lists         : Tab (List BookingId) 96
  retireList    : List BookingId
  walkIn        : Nat
  storeLowArmed : Bool
  deriving DecidableEq, Repr

/-! ## The Admission Engine (chapters 4 and 5) -/

/-- The place kept in a panel's reply queue for the answer to a call (R93, R147). -/
structure ReplyPlace where
  panel  : Addr
  serial : Nat
  deriving DecidableEq, Repr

/-- An entry of the admission queue: kind, origin and payload (R47). -/
inductive Request where
  | book (via : Via) (ask : BookAsk)
  | modify (via : Via) (ask : ModifyAsk)
  | cancel (via : Via) (id : BookingId)
  | bookNow (place : ReplyPlace) (room : RoomNo) (choice : Nat)
  | extend (place : ReplyPlace) (room : RoomNo)
  | endNow (place : ReplyPlace) (room : RoomNo)
  | vacate (room : RoomNo)
  deriving DecidableEq, Repr

/-- A frame of the move stack (R74). -/
structure MoveFrame where
  booking : BookingId
  origin  : RoomNo
  depth   : Nat
  deriving DecidableEq, Repr

/-- The values of an order as it was judged (R108, R110). -/
structure Judged where
  kitchen : KitchenNo
  offset  : Nat
  lines   : List (Nat × Nat)
  load    : Nat
  qd      : Nat
  qx      : Nat
  deriving DecidableEq, Repr

/-- What placing the requester does with its order (R62, step 5; R66, step 4). -/
inductive Settlement where
  /-- The order part is left as it stands, or there is none. -/
  | keep
  /-- The record is left with no ORDER part. -/
  | remove
  /-- The judged order is placed. -/
  | place (order : Judged)
  deriving DecidableEq, Repr

/-- The order result of a BOOK or MODIFY (R63). -/
inductive OrderResult where
  | none | placed | dropped | cancelled
  deriving DecidableEq, Repr

/-- The pass a moving booking is in (R77, R78). -/
inductive Pass where
  | freeSpan | displacing
  deriving DecidableEq, Repr

/-- A moving booking being tried: its frame, the list and pointer read for it (R77), the pass, and how many
positions of the pass have been tried. -/
structure Trial where
  frame      : MoveFrame
  alternates : List RoomNo
  pointer    : Nat
  pass       : Pass
  tried      : Nat
  deriving DecidableEq, Repr

/-- A span computed at a conflict check (R55). -/
structure Span where
  first : Nat
  last  : Nat
  deriving DecidableEq, Repr

/-- What the engine does next for the request in flight. -/
inductive Phase where
  /-- Check step `step` of the kind's rule (R58, R64, R67, R68, R69, R70). -/
  | check (step : Nat)
  /-- R66, step 1: the record of a MODIFY is to be taken out of its lists; then the named bookings, if any,
  are to be displaced. -/
  | take (bookings : List BookingId)
  /-- The requester is to be placed (R62; R66, steps 3 to 5). -/
  | place
  /-- A joined record stands in its room's list and is to be inserted in its partner's (R38). Then its
  placement goes on (R62, step 5; R66, step 6), or, where a booking is named, the CONFLICT refusal that put the
  record of a MODIFY back is given (R73). -/
  | partner (refused : Option BookingId)
  /-- A displacement for the requester is asked of the Booking Store (R73). -/
  | displaceRequester (bookings : List BookingId)
  /-- The move stack is to be served (R76). -/
  | serve
  /-- The next alternate is to be read (R77, R78). -/
  | tryNext (trial : Trial)
  /-- The conflict check in one alternate is to be made again (R73). -/
  | recheck (trial : Trial)
  /-- A displacement for the moving booking is asked of the Booking Store (R78). -/
  | displaceMoving (trial : Trial) (span : Span) (bookings : List BookingId)
  /-- The moving booking is to be placed (R79). -/
  | placeMoving (trial : Trial) (span : Span)
  /-- The room of the VACATE is to be read (R82). -/
  | vacateRead (first : Bool)
  /-- A displacement of one booking of the vacated room is asked of the Booking Store (R82). -/
  | displaceVacated (booking : BookingId)
  deriving DecidableEq, Repr

/-- The figures of R81. -/
structure Figures where
  displaced : Nat
  elsewhere : Nat
  unplaced  : Nat
  overflow  : Bool
  deriving DecidableEq, Repr

/-- The request in flight (R50): the entry, the results of the checks made so far, and the move stack, top
frame first. -/
structure Flight where
  request     : Request
  phase       : Phase
  clamped     : Bool
  duration    : Nat
  cls         : Nat
  qs          : Nat
  qe          : Nat
  span        : Span
  settlement  : Settlement
  orderResult : OrderResult
  /-- The record of a MODIFY as step 1 of R66 found it. -/
  taken       : Option Record
  /-- The requester's record as it was placed (R63). -/
  placed      : Option Record
  figures     : Figures
  stack       : List MoveFrame
  deriving DecidableEq, Repr

/-- The Admission Engine: IDLE exactly when nothing is in flight (R50). -/
structure Engine where
  queue    : List Request
  inFlight : Option Flight
  deriving DecidableEq, Repr

/-! ## Faces (chapter 8) -/

inductive Attr where
  | normal | inverse | accent
  deriving DecidableEq, Repr

/-- One cell of a face row. -/
structure FaceCell where
  glyph : Byte
  attr  : Attr
  deriving DecidableEq, Repr

/-- One row of 24 cells. -/
abbrev Row := Tab FaceCell 24

/-- Eight rows. -/
abbrev Rows := Tab Row 8

inductive TextMode where
  | run | stack
  deriving DecidableEq, Repr

/-- The free-area state of a face (`08` 8.5). -/
structure FreeArea where
  top    : Nat
  bottom : Nat
  left   : Nat
  right  : Nat
  row    : Nat
  cell   : Nat
  mode   : TextMode
  attr   : Attr
  level  : Nat
  deriving DecidableEq, Repr

/-- One face: its own rows, the row marks, the free area, and the overlay choices (R121, R126, R132). -/
structure Face where
  own      : Rows
  dirty    : Tab Bool 8
  inFlight : Tab Bool 8
  area     : FreeArea
  server   : Option OverlayNo
  auto     : Option OverlayNo
  deriving DecidableEq, Repr

/-- The Face Composer: the faces and the room-changed marks (R121, R125). -/
structure Composer where
  faces     : Tab Face 112
  roomMarks : Tab Bool 96
  deriving DecidableEq, Repr

/-! ## The panel loop (chapter 9) -/

inductive LoopState where
  | down | syncing | up | broken
  deriving DecidableEq, Repr

/-- Loop settings: windows per cycle, window time and return timeout in ms (`09` 9.2). -/
structure LoopSettings where
  windows    : Nat
  windowTime : Nat
  timeout    : Nat
  deriving DecidableEq, Repr

/-- What the own frame on the ring carries (R140). -/
inductive Carried where
  | beacon
  | face (panel : Addr) (row : Fin 8)
  | reply (panel : Addr) (serial : Nat)
  | ticket (panel : Addr) (booking : BookingId)
  | echo (via : Via)
  deriving DecidableEq, Repr

/-- The awaited-return record (R140). -/
structure Awaited where
  carried  : Carried
  sequence : Nat
  /-- Send time, in microseconds. -/
  sentAt   : Nat
  stale    : Bool
  deriving DecidableEq, Repr

/-- The echo state (R150). -/
inductive EchoState where
  | none
  | waiting (via : Via)
  | inFlight (via : Via)
  deriving DecidableEq, Repr

/-- The Loop Controller's own state (`09`). -/
structure Loop where
  state         : LoopState
  /-- The receiver last reported the signal PRESENT. -/
  signal        : Bool
  lossLatch     : Bool
  active        : LoopSettings
  currentWindow : Nat
  cycleCount    : Nat
  /-- The next window to open is the first of a cycle's run: no window has been opened since the loop left
  DOWN (R137). -/
  fresh         : Bool
  /-- When the current window was opened, in microseconds. -/
  openedAt      : Nat
  /-- The address last served in the current round (R139); 0 before the first. -/
  cursor        : Nat
  sequence      : Nat
  misses        : Nat
  checkFailures : Nat
  strays        : Nat
  awaited       : Option Awaited
  /-- The payload of the beacon that is due and not yet sent, while loop-out or an own frame that awaits its return
  holds it back (R138, R145). -/
  held          : Option Bytes
  echo          : EchoState
  deriving DecidableEq, Repr

/-! ## Exceptions (chapter 10) -/

inductive ExcClass where
  | noShowRelease | unplaced | chainOverflow | walkIn | vacateIncomplete | cateringDropped | cateringWaste
  | cateringRedirect | ticketUnaccepted | ticketLate | capacityBelowLoad | panelSilent | panelReturned
  | panelMuted | windowViolation | rogueFrame | callOverrun | loopBreak | loopSignalLost | clockStopped
  | clockJump | storeLow
  deriving DecidableEq, Repr

inductive Action where
  | count | notify | notifyAlert | hold
  deriving DecidableEq, Repr

inductive Level where
  | advisory | degraded | fatal
  deriving DecidableEq, Repr

/-- One entry of the disposition table T7 (`10` 10.2). -/
structure Disposition where
  action : Action
  level  : Level
  deriving DecidableEq, Repr

/-- The subject of an occurrence. A panel address may be 0, the part's own. -/
inductive Subject where
  | booking (id : BookingId)
  | room (room : RoomNo)
  | kitchen (kitchen : KitchenNo)
  | panel (address : Nat)
  | none
  deriving DecidableEq, Repr

/-- A notice entry (`10` 10.5). -/
structure Notice where
  cls     : ExcClass
  subject : Subject
  detail  : BitVec 32
  stamp   : Nat
  deriving DecidableEq, Repr

/-- What a hold closes (R154). -/
inductive HoldTarget where
  | room (room : RoomNo)
  | kitchen (kitchen : KitchenNo)
  deriving DecidableEq, Repr

/-- The Exception Unit (`10`). `holds` are the holds handed on and not yet arrived (R152, step 4). -/
structure Exceptions where
  counters : Tab Nat 22
  latches  : Tab Bool 22
  queues   : Tab (List Notice) 4
  lost     : Tab Nat 4
  holds    : List HoldTarget
  deriving DecidableEq, Repr

/-! ## Ports (chapter 11) -/

/-- The ports, the reset lines and what has left the part. The three lists of frames are the model's own
record of what the part has sent, oldest first; nothing in the part reads them. -/
structure Ports where
  node          : Fin 8
  uplinkUp      : Bool
  cascadeUp     : Bool
  uplinkDrops   : Nat
  cascadeDrops  : Nat
  powerGood     : Bool
  resetAsserted : Bool
  /-- A PART_RESET has been answered and its line reset is being carried out (R169). -/
  resetDue      : Bool
  uplinkOut     : List EthFrame
  /-- How many responses stand last in `uplinkOut` of which nothing says that they have left: those made since
  the last frame sent on from the cascade port (R163) and the last answer to a PART_RESET (R169). -/
  unsent        : Nat
  /-- How many resets have reached the uplink port: the model's own count, for the free value of R169. -/
  resets        : Nat
  cascadeOut    : List EthFrame
  loopOut       : List Bytes
  /-- Until when a frame being sent on keeps loop-out, in microseconds (R145). -/
  loopBusyUntil : Nat
  /-- How many frames have been sent on: the model's own count, for the free value of R145. -/
  forwards      : Nat
  deriving DecidableEq, Repr

/-! ## Deliveries between blocks -/

/-- A tap handed to the Booking Store (R93). -/
structure Tap where
  place : ReplyPlace
  room  : RoomNo
  badge : Badge
  deriving DecidableEq, Repr

/-- A pantry call handed to the Catering Scheduler (R114, R115). -/
structure PantryCall where
  place     : ReplyPlace
  kitchen   : KitchenNo
  booking   : BookingId
  delivered : Bool
  deriving DecidableEq, Repr

/-- A day rollover: the new day and the crossing count (R7). -/
structure Rollover where
  day      : Nat
  crossing : Nat
  deriving DecidableEq, Repr

/-- A boundary being worked on: its grain, and how many pieces of the work are done. -/
structure Walk where
  grain : Nat
  next  : Nat
  deriving DecidableEq, Repr

/-- What one block has handed to another and the other has not yet taken, oldest first. -/
structure Deliveries where
  storeBoundaries    : List Nat
  cateringBoundaries : List Nat
  faceBoundaries     : List Nat
  scan               : Option Walk
  pass               : Option Walk
  recompose          : Option Walk
  rollovers          : List Rollover
  taps               : List Tap
  pantryCalls        : List PantryCall
  /-- The model's own number for the next call taken. -/
  nextSerial         : Nat
  deriving DecidableEq, Repr

/-- The whole part. -/
structure State where
  clock        : Clock
  rooms        : Tab Room 96
  panels       : Tab Panel 112
  menu         : Tab MenuItem 256
  kitchens     : Tab Kitchen 8
  profile      : Tab (Tab Nat 96) 8
  overlays     : Tab Rows 8
  dispositions : Tab Disposition 22
  settings     : LoopSettings
  store        : Store
  engine       : Engine
  catering     : Catering
  composer     : Composer
  loop         : Loop
  exceptions   : Exceptions
  ports        : Ports
  deliveries   : Deliveries
  /-- The commands that wait, first in, first out. -/
  pending      : List Instr
  deriving DecidableEq, Repr

/-- Why the machine would stop with a fault: the spec gives the part none, so there is no reason, and no
command ends in a fault. -/
inductive Fault where
  deriving DecidableEq, Repr

/-- Why a command would have no meaning. -/
inductive Refusal where
  /-- Raised by no meaning: it stands for an arm of `exec` without a meaning, and there is none. Safe. -/
  | notModelled (mnemonic : String)
  deriving DecidableEq, Repr

/-! ## The state after the power-on reset -/

/-- A blank cell: glyph 20h, NORMAL (R121). -/
def blankCell : FaceCell := ⟨0x20#8, .normal⟩

/-- A blank row. -/
def blankRow : Row := Tab.fill 24 blankCell

/-- Eight blank rows. -/
def blankRows : Rows := Tab.fill 8 blankRow

/-- The free-area values after either reset (`08` 8.5). -/
def freshArea : FreeArea :=
  { top := 4, bottom := 7, left := 0, right := 23, row := 4, cell := 0, mode := .run, attr := .normal,
    level := 15 }

/-- A face after the power-on reset: blank, wholly dirty (R134). -/
def freshFace : Face :=
  { own := blankRows, dirty := Tab.fill 8 true, inFlight := Tab.fill 8 false, area := freshArea,
    server := none, auto := none }

/-- A room entry at its power-on values (`02` 2.1, R14). -/
def freshRoom : Room :=
  { state := .unconfigured, name := [], capacity := 0, capacityLocked := false, partner := none,
    partnerLocked := false, setup := 0, turnaround := 0, grace := 0, earlyWindow := 1, checkIn := .anyTap,
    policy := .noDisplace, kitchen := none, alternates := [], pointer := 0, vacatePending := false,
    altsWritten := false }

/-- A panel entry at its power-on values (`09` 9.7, R151). -/
def freshPanel : Panel :=
  { kind := .unbound, binding := 0, window := none, state := .unknown, misses := 0, violations := 0,
    callsInWindow := 0, served := false, cycleWindow := none, replies := [], tickets := [] }

/-- A menu entry at its power-on values (R102). -/
def freshItem : MenuItem := { name := [], weight := 0, lead := 0, mask := 0#8 }

/-- A kitchen entry at its power-on values (R103). -/
def freshKitchen : Kitchen := { name := [], acceptLimit := 6, pantry := none, state := .opened }

/-- The default disposition of each class (`10` 10.1), in class order. -/
def defaultDispositions : Tab Disposition 22 :=
  ⟨[⟨.notify, .advisory⟩, ⟨.notify, .advisory⟩, ⟨.notifyAlert, .degraded⟩, ⟨.notify, .advisory⟩,
    ⟨.notify, .advisory⟩, ⟨.notify, .advisory⟩, ⟨.notify, .advisory⟩, ⟨.notify, .advisory⟩,
    ⟨.notify, .advisory⟩, ⟨.notify, .advisory⟩, ⟨.notify, .advisory⟩, ⟨.notify, .advisory⟩,
    ⟨.notify, .advisory⟩, ⟨.notify, .advisory⟩, ⟨.count, .advisory⟩, ⟨.count, .advisory⟩,
    ⟨.notify, .advisory⟩, ⟨.notifyAlert, .degraded⟩, ⟨.notifyAlert, .degraded⟩,
    ⟨.notifyAlert, .fatal⟩, ⟨.notify, .advisory⟩, ⟨.notify, .advisory⟩], rfl⟩

/-- The loop settings at their defaults (`09` 9.2). -/
def defaultSettings : LoopSettings := { windows := 8, windowTime := 20, timeout := 3 }

/-- A day-page with no load. -/
def emptyPage (tag : Nat) : Page := { tag := tag, loads := Tab.fill 8 (Tab.fill 96 0) }

/-- The Booking Store after either reset (R46). -/
def emptyStore : Store :=
  { free := List.range Config.poolCells, records := [], lists := Tab.fill 96 [], retireList := [],
    walkIn := 0, storeLowArmed := true }

/-- The Admission Engine after either reset (R52, R87). -/
def idleEngine : Engine := { queue := [], inFlight := none }

/-- No delivery under way. -/
def noDeliveries : Deliveries :=
  { storeBoundaries := [], cateringBoundaries := [], faceBoundaries := [], scan := none, pass := none,
    recompose := none, rollovers := [], taps := [], pantryCalls := [], nextSerial := 0 }

/-- The clock after the power-on reset (R12). -/
def unsetClock : Clock :=
  { day := 0, minute := 0, second := 0, subSecond := 0, state := .unset, reference := false }

/-- The Loop Controller after the power-on reset, with no signal on the loop (R151). -/
def downLoop : Loop :=
  { state := .down, signal := false, lossLatch := false, active := defaultSettings, currentWindow := 0,
    cycleCount := 0, fresh := true, openedAt := 0, cursor := 0, sequence := 0, misses := 0,
    checkFailures := 0, strays := 0, awaited := none, held := none, echo := .none }

/-- The Exception Unit after the power-on reset (R161). -/
def clearExceptions : Exceptions :=
  { counters := Tab.fill 22 0, latches := Tab.fill 22 false, queues := Tab.fill 4 [], lost := Tab.fill 4 0,
    holds := [] }

/-- The ports after the power-on reset, with straps that read 0 and both links down (R168). -/
def freshPorts : Ports :=
  { node := 0, uplinkUp := false, cascadeUp := false, uplinkDrops := 0, cascadeDrops := 0,
    powerGood := true, resetAsserted := false, resetDue := false, uplinkOut := [], unsent := 0,
    resets := 0, cascadeOut := [], loopOut := [], loopBusyUntil := 0, forwards := 0 }

/-- The part right after the power-on reset (R12, R14, R46, R52, R87, R102 to R104, R120, R131, R134, R151,
R161, R168). DESIGN CHOICE, unsafe: the straps read 0, the links are DOWN and the loop signal is ABSENT
(notes/assumptions/1.md). -/
def State.reset : State :=
  { clock := unsetClock
    rooms := Tab.fill 96 freshRoom
    panels := Tab.fill 112 freshPanel
    menu := Tab.fill 256 freshItem
    kitchens := Tab.fill 8 freshKitchen
    profile := Tab.fill 8 (Tab.fill 96 0)
    overlays := Tab.fill 8 blankRows
    dispositions := defaultDispositions
    settings := defaultSettings
    store := emptyStore
    engine := idleEngine
    catering := { pages := Tab.gen fun i => emptyPage i.val, tickets := Tab.fill 8 [] }
    composer := { faces := Tab.fill 112 freshFace, roomMarks := Tab.fill 96 false }
    loop := downLoop
    exceptions := clearExceptions
    ports := freshPorts
    deliveries := noDeliveries
    pending := [] }

end Sys2Proof.Machine
end

