-- ==== Sys2Proof/Machine/Operands.lean ====
section
/-!
DEFINITION. The byte images of chapter 12, read and written: numbers, glyph strings, the check word, the
uplink envelope, the request payloads, the loop frame and the text units. Table and record images are in
`Machine/Images.lean`.
-/

namespace Sys2Proof.Machine

/-! ## Numbers and glyph strings (R170) -/

/-- One byte. -/
def byte (n : Nat) : Byte := BitVec.ofNat 8 n

/-- Two bytes, most significant first. -/
def word16 (n : Nat) : Bytes := [byte (n / 256), byte n]

/-- Four bytes, most significant first. -/
def word32 (n : Nat) : Bytes := [byte (n / 16777216), byte (n / 65536), byte (n / 256), byte n]

/-- An optional one-byte field: FFh when absent. -/
def optByte : Option Nat → Byte
  | none => 0xFF#8
  | some n => byte n

/-- A one-byte code FFh stands for an absent field. -/
def absentCode : Nat := 255

/-- A glyph string in a field of `size` glyph bytes: the length byte, the glyphs, 20h beyond them. -/
def glyphField (size : Nat) (g : Bytes) : Bytes :=
  byte g.length :: (g ++ List.replicate (size - g.length) 0x20#8)

/-- Bits, least significant first, as a number. -/
def bits : List Bool → Nat
  | [] => 0
  | b :: bs => (if b then 1 else 0) + 2 * bits bs

/-- Byte `i` of an image as a number; 0 beyond its end. -/
def byteAt (b : Bytes) (i : Nat) : Nat := (b.getD i 0#8).toNat

/-- The 16-bit number at offset `i`. -/
def word16At (b : Bytes) (i : Nat) : Nat := byteAt b i * 256 + byteAt b (i + 1)

/-- The 32-bit number at offset `i`. -/
def word32At (b : Bytes) (i : Nat) : Nat := word16At b i * 65536 + word16At b (i + 2)

/-- The `n` bytes from offset `i`. -/
def slice (b : Bytes) (i n : Nat) : Bytes := (b.drop i).take n

/-- The glyph string at offset `i`, in a field of `size` glyph bytes. -/
def glyphsAt (b : Bytes) (i size : Nat) : GlyphField :=
  { length := byteAt b i, cells := slice b (i + 1) size }

/-- The glyphs of a received field that is `size` bytes long: no more than the length byte counts, and no
more than the field holds. -/
def glyphsOf (size : Nat) (g : GlyphField) : Bytes := g.cells.take (min g.length size)

/-- A field mask or result mask of `n` bytes: bit `i` counts from the least significant bit of the last
byte (`12` 12.2). -/
def maskBytes (n m : Nat) : Bytes :=
  match n with
  | 0 => []
  | n + 1 => maskBytes n (m / 256) ++ [byte m]

/-- The number whose bits a mask names. -/
def maskNumber (b : Bytes) : Nat := b.foldl (fun m x => m * 256 + x.toNat) 0

/-! ## The check word (R171) -/

/-- One bit into the cyclic check register: generator x^16 + x^12 + x^5 + 1. -/
def checkBit (r : BitVec 16) (b : Bool) : BitVec 16 :=
  if r.msb == b then r <<< 1 else (r <<< 1) ^^^ 0x1021#16

/-- One byte into the check register, most significant bit first. -/
def checkByte (r : BitVec 16) (b : Byte) : BitVec 16 :=
  [b.getLsbD 7, b.getLsbD 6, b.getLsbD 5, b.getLsbD 4, b.getLsbD 3, b.getLsbD 2, b.getLsbD 1,
    b.getLsbD 0].foldl checkBit r

/-- The check word over some bytes: the register starts at FFFFh and is not inverted. -/
def checkWord (b : Bytes) : BitVec 16 := b.foldl checkByte 0xFFFF#16

/-- The bytes followed by their check word, high byte first. -/
def withCheck (b : Bytes) : Bytes := b ++ word16 (checkWord b).toNat

/-! ## Codes -/

/-- Status codes (`12` 12.2). -/
def Status.code : Status → Nat
  | .done => 0 | .refused => 1 | .busy => 2 | .noRoute => 3 | .malformed => 4

/-- Reason codes (`12` 12.2). -/
def Reason.code : Reason → Nat
  | .noClock => 0x01 | .reservedId => 0x02 | .duplicateId => 0x03 | .unknownId => 0x04
  | .notLive => 0x05 | .roomUnavailable => 0x06 | .notPaired => 0x07 | .overCapacity => 0x08
  | .past => 0x09 | .beyondHorizon => 0x0A | .storeFull => 0x0B | .orderInService => 0x0C
  | .badItem => 0x0D | .orderLate => 0x0E | .kitchenFull => 0x0F | .alreadyIn => 0x10
  | .conflict => 0x11 | .noReference => 0x12 | .clockBackward => 0x13 | .noFreeRows => 0x14
  | .loopNotUp => 0x15 | .unknownTicket => 0x16 | .notOrganiser => 0x17 | .nothingArmed => 0x18

/-- The request kinds (`12` 12.2). -/
inductive Kind where
  | book | modify | cancel | query | listRoom | tableRead | tableWrite | noticePeek | noticeTake
  | noticeFlush | clockSet | clockRead | panelText | panelOverlay | alertClear | countersRead | loopEcho
  | partReset
  deriving DecidableEq, Repr

/-- The code of a request kind. -/
def Kind.code : Kind → Nat
  | .book => 0x01 | .modify => 0x02 | .cancel => 0x03 | .query => 0x04 | .listRoom => 0x05
  | .tableRead => 0x06 | .tableWrite => 0x07 | .noticePeek => 0x08 | .noticeTake => 0x09
  | .noticeFlush => 0x0A | .clockSet => 0x0B | .clockRead => 0x0C | .panelText => 0x0D
  | .panelOverlay => 0x0E | .alertClear => 0x0F | .countersRead => 0x10 | .loopEcho => 0x11
  | .partReset => 0x12

/-! ## The uplink envelope (`12` 12.2, R172) -/

/-- A request envelope that has passed the checks of R162, but for its direction. -/
structure Envelope where
  version   : Nat
  direction : Nat
  target    : Nat
  kind      : Nat
  tag       : BitVec 16
  payload   : Bytes
  deriving DecidableEq, Repr

/-- Read an envelope from the bytes after the type field: refused when too short for its header, payload
length and check word, or when the check word does not match (R162, R172). -/
def readEnvelope (b : Bytes) : Option Envelope :=
  let n := word16At b 6
  if b.length < 8 + n + 2 then none
  else if (checkWord (b.take (8 + n))).toNat ≠ word16At b (8 + n) then none
  else some
    { version := byteAt b 0, direction := byteAt b 1, target := byteAt b 2, kind := byteAt b 3,
      tag := BitVec.ofNat 16 (word16At b 4), payload := slice b 8 n }

/-- The bytes of a response after the type field. -/
def responseBytes (node kind : Nat) (tag : BitVec 16) (status : Status) (reason : Option Reason)
    (attention : Byte) (contents : Bytes) : Bytes :=
  withCheck ([0x01#8, 0x01#8, byte node, byte kind] ++ word16 tag.toNat ++ word16 (4 + contents.length) ++
    [byte status.code, optByte (reason.map Reason.code), attention, 0x00#8] ++ contents)

/-- The bytes of a request after the type field. -/
def requestBytes (target kind : Nat) (tag : BitVec 16) (payload : Bytes) : Bytes :=
  withCheck ([0x01#8, 0x00#8, byte target, byte kind] ++ word16 tag.toNat ++ word16 payload.length ++ payload)

/-! ## Request payloads (`12` 12.7) -/

/-- Bit `i` of byte `j`. -/
def bitAt (b : Bytes) (j i : Nat) : Bool := (b.getD j 0#8).getLsbD i

/-- The eight line positions at offset 78. -/
def linesAt (b : Bytes) : List (Nat × Nat) :=
  [0, 1, 2, 3, 4, 5, 6, 7].map fun i => (byteAt b (78 + 2 * i), byteAt b (79 + 2 * i))

/-- The ORDER part of a BOOK or MODIFY payload. -/
def orderAskAt (b : Bytes) : OrderAsk := { offset := byteAt b 64, count := byteAt b 67, lines := linesAt b }

/-- The payload of a BOOK. -/
def readBook (b : Bytes) : BookAsk :=
  { id := BitVec.ofNat 16 (word16At b 0), room := byteAt b 2, joined := bitAt b 3 0, cls := byteAt b 4,
    attendees := word16At b 6, day := word16At b 8, minute := word16At b 10, duration := word16At b 12,
    cateringRequired := bitAt b 3 5,
    title := if bitAt b 3 1 then some (glyphsAt b 38 24) else none,
    order := if bitAt b 3 2 then some (orderAskAt b) else none,
    organiser := if bitAt b 3 3 then some (BitVec.ofNat 32 (word32At b 34)) else none }

/-- The payload of a MODIFY: byte 5 is the field mask, and a named part whose flag bit is clear is given as
absent. -/
def readModify (b : Bytes) : ModifyAsk :=
  { id := BitVec.ofNat 16 (word16At b 0),
    times := if bitAt b 5 0 then
      some { day := word16At b 8, minute := word16At b 10, duration := word16At b 12 } else none,
    room := if bitAt b 5 1 then some (byteAt b 2) else none,
    attendees := if bitAt b 5 2 then some (word16At b 6) else none,
    title := if bitAt b 5 3 then
      some (if bitAt b 3 1 then some (glyphsAt b 38 24) else none) else none,
    order := if bitAt b 5 4 then some (if bitAt b 3 2 then some (orderAskAt b) else none) else none,
    organiser := if bitAt b 5 5 then
      some (if bitAt b 3 3 then some (BitVec.ofNat 32 (word32At b 34)) else none) else none,
    cateringRequired := bitAt b 3 5 }

/-- The size of a table's entry image (`12` 12.8). -/
def imageSize : Nat → Nat
  | 0 => 10 | 1 => 46 | 2 => 6 | 3 => 20 | 4 => 20 | 5 => 192 | 6 => 384 | 7 => 2 | 8 => 12
  | _ => 0

/-- The request that a kind code and a payload spell, as the command it hands to its block; none for a code
that names no request or a payload too short for its kind (R164, R172). -/
def readRequest (via : Via) (kind : Nat) (p : Bytes) : Option Instr :=
  match kind with
  | 0x01 => if p.length < 94 then none else some (.book via (readBook p))
  | 0x02 => if p.length < 94 then none else some (.modify via (readModify p))
  | 0x03 => if p.length < 2 then none else some (.cancel via (BitVec.ofNat 16 (word16At p 0)))
  | 0x04 => if p.length < 2 then none else some (.query via (BitVec.ofNat 16 (word16At p 0)))
  | 0x05 => if p.length < 6 then none
      else some (.listRoom via (byteAt p 0) (word16At p 2) (word16At p 4))
  | 0x06 => if p.length < 3 then none else some (.tableRead via (byteAt p 0) (word16At p 1))
  | 0x07 =>
      let n := byteAt p 3
      if p.length < 4 + n + imageSize (byteAt p 0) ∨ n = 0 ∨ 12 < n then none
      else some (.tableWrite via (byteAt p 0) (word16At p 1) (slice p 4 n)
        (slice p (4 + n) (imageSize (byteAt p 0))))
  | 0x08 => if p.length < 1 then none else some (.noticePeek via (byteAt p 0))
  | 0x09 => if p.length < 2 then none else some (.noticeTake via (byteAt p 0) (byteAt p 1))
  | 0x0A => if p.length < 1 then none else some (.noticeFlush via (byteAt p 0))
  | 0x0B => if p.length < 6 then none
      else some (.clockSet via (word16At p 0) (word16At p 2) (byteAt p 4) (bitAt p 5 0))
  | 0x0C => some (.clockRead via)
  | 0x0D => if p.length < 1 then none else some (.panelText via (byteAt p 0) (p.drop 1))
  | 0x0E => if p.length < 2 then none else some (.panelOverlay via (byteAt p 0) (byteAt p 1))
  | 0x0F => if p.length < 4 then none else some (.alertClear via (BitVec.ofNat 32 (word32At p 0)))
  | 0x10 => if p.length < 1 then none else some (.countersRead via (bitAt p 0 0))
  | 0x11 => some (.loopEcho via)
  | 0x12 => some (.partReset via)
  | _ => none

/-! ## Loop frames (`12` 12.5, R135, R171, R172) -/

/-- A loop frame as its bytes give it; `flags` is byte 3. -/
structure LoopFrame where
  destination : Nat
  origin      : Nat
  kind        : Nat
  flags       : Byte
  payload     : Bytes
  deriving DecidableEq, Repr

namespace LoopFrame

/-- The sequence, bits 0 to 3 of byte 3. -/
def sequence (f : LoopFrame) : Nat := f.flags.toNat % 16

/-- The seen mark, bit 6. -/
def seen (f : LoopFrame) : Bool := f.flags.getLsbD 6

/-- The taken mark, bit 7. -/
def taken (f : LoopFrame) : Bool := f.flags.getLsbD 7

/-- The bytes of the frame, check word included. -/
def bytes (f : LoopFrame) : Bytes :=
  withCheck ([byte f.destination, byte f.origin, byte f.kind, f.flags, byte f.payload.length] ++ f.payload)

/-- The frame with its seen mark set, sent on as it came otherwise (R145). -/
def withSeen (f : LoopFrame) : LoopFrame := { f with flags := f.flags ||| 0x40#8 }

end LoopFrame

/-- The loop kinds (`12` 12.5). -/
def beaconKind : Nat := 1
def faceKind : Nat := 2
def ticketKind : Nat := 3
def replyKind : Nat := 4
def echoKind : Nat := 5
def callKind : Nat := 6

/-- Call kinds (`12` 12.5). -/
def tapCall : Nat := 1
def bookNowCall : Nat := 2
def extendCall : Nat := 3
def endNowCall : Nat := 4
def acceptCall : Nat := 5
def deliveredCall : Nat := 6

/-- The payload length that a loop kind requires (R172); a code that names no kind requires none. -/
def requiredPayload (kind : Nat) (payload : Bytes) : Nat :=
  match kind with
  | 1 => 10 + byteAt payload 9
  | 2 => 50
  | 3 => 33
  | 4 => 10
  | 6 =>
    match byteAt payload 0 with
    | 1 => 5
    | 2 => 2
    | 5 => 3
    | 6 => 3
    | _ => 1
  | _ => 0

/-- Read a loop frame: refused, as a check failure, when it is shorter than its fields, when its check word
does not match (R135), or when its payload is too short for its kind (R172). -/
def readLoop (b : Bytes) : Option LoopFrame :=
  let n := byteAt b 4
  let payload := slice b 5 n
  if b.length < 5 + n + 2 then none
  else if (checkWord (b.take (5 + n))).toNat ≠ word16At b (5 + n) then none
  else if payload.length < requiredPayload (byteAt b 2) payload then none
  else some
    { destination := byteAt b 0, origin := byteAt b 1, kind := byteAt b 2, flags := b.getD 3 0#8,
      payload := payload }

/-! ## Text units (`12` 12.5, R128) -/

/-- A unit of a PANEL_TEXT. Code operands are kept as they came. -/
inductive TextUnit where
  | window (top bottom left right : Nat)
  | cursor (row cell : Nat)
  | mode (code : Nat)
  | glyphs (g : Bytes)
  | attr (code : Nat)
  | clear
  | level
  | levelValue (v : Nat)
  | finish
  deriving DecidableEq, Repr

/-- The units of a payload, or none where R128's form fails on one: a kind not named, a unit cut short, or a
GLYPHS unit of no glyph or of more than 48. `fuel` bounds the number of units. -/
def readUnits : (fuel : Nat) → Bytes → Option (List TextUnit)
  | _, [] => some []
  | 0, _ :: _ => none
  | fuel + 1, k :: rest =>
    let unit (n : Nat) (u : TextUnit) : Option (List TextUnit) :=
      if rest.length < n then none else (readUnits fuel (rest.drop n)).map (u :: ·)
    match k.toNat with
    | 1 => unit 4 (.window (byteAt rest 0) (byteAt rest 1) (byteAt rest 2) (byteAt rest 3))
    | 2 => unit 2 (.cursor (byteAt rest 0) (byteAt rest 1))
    | 3 => unit 1 (.mode (byteAt rest 0))
    | 4 =>
      let n := byteAt rest 0
      if rest.length < 1 ∨ n = 0 ∨ 48 < n then none else unit (1 + n) (.glyphs (slice rest 1 n))
    | 5 => unit 1 (.attr (byteAt rest 0))
    | 6 => unit 0 .clear
    | 7 => unit 0 .level
    | 8 => unit 1 (.levelValue (byteAt rest 0))
    | 9 => unit 0 .finish
    | _ => none

/-- The units of a PANEL_TEXT payload after its address. -/
def readText (b : Bytes) : Option (List TextUnit) := readUnits b.length b

end Sys2Proof.Machine
end

