-- ==== Sys2Proof/Machine/Flags.lean ====
section
/-!
DEFINITION. What is read off the state and stored nowhere: the current grain and the horizon (R4, R5), the
clock-valid flag (R3), the alert lines (R159), the attention summary (R165), and the numbers of the
exception classes (`10` 10.1).
-/

namespace Sys2Proof.Machine

/-! ## Grains (R4, R5) -/

/-- The grain of a day and minute (R4). -/
def grainOf (day minute : Nat) : Nat := day * Config.dayGrains + minute / 5

/-- The current grain of a clock. -/
def Clock.grain (c : Clock) : Nat := grainOf c.day c.minute

/-- The current grain. -/
def State.grain (s : State) : Nat := s.clock.grain

/-- H0, the first grain of the current day. -/
def Clock.firstGrain (c : Clock) : Nat := c.day * Config.dayGrains

/-- The horizon end (R5). -/
def Clock.horizonEnd (c : Clock) : Nat :=
  min (c.firstGrain + Config.horizonDays * Config.dayGrains) Config.lastGrain

/-- The slot-of-day of a grain (R4). -/
def slotOfDay (g : Nat) : Nat := g % Config.dayGrains / 3

/-- The slot-of-day as an index. -/
def slotIndex (g : Nat) : Fin 96 := ⟨slotOfDay g, by unfold slotOfDay Config.dayGrains; omega⟩

/-- The campus day of a grain. -/
def dayOf (g : Nat) : Nat := g / Config.dayGrains

/-- The clock is valid exactly while it is RUNNING (R3). -/
def Clock.valid (c : Clock) : Bool := c.state == .running

/-! ## Exception classes -/

/-- The number of a class (`10` 10.1). -/
def ExcClass.number : ExcClass → Fin 22
  | .noShowRelease => 0 | .unplaced => 1 | .chainOverflow => 2 | .walkIn => 3 | .vacateIncomplete => 4
  | .cateringDropped => 5 | .cateringWaste => 6 | .cateringRedirect => 7 | .ticketUnaccepted => 8
  | .ticketLate => 9 | .capacityBelowLoad => 10 | .panelSilent => 11 | .panelReturned => 12
  | .panelMuted => 13 | .windowViolation => 14 | .rogueFrame => 15 | .callOverrun => 16 | .loopBreak => 17
  | .loopSignalLost => 18 | .clockStopped => 19 | .clockJump => 20 | .storeLow => 21

/-- The notice queue of a class: 0 BOOKING, 1 CATERING, 2 LOOP, 3 SYSTEM. -/
def ExcClass.queue : ExcClass → Fin 4
  | .noShowRelease | .unplaced | .chainOverflow | .walkIn | .vacateIncomplete => 0
  | .cateringDropped | .cateringWaste | .cateringRedirect | .ticketUnaccepted | .ticketLate
  | .capacityBelowLoad => 1
  | .panelSilent | .panelReturned | .panelMuted | .windowViolation | .rogueFrame | .callOverrun
  | .loopBreak | .loopSignalLost => 2
  | .clockStopped | .clockJump | .storeLow => 3

/-! ## Alert lines and the attention summary -/

/-- An alert line is asserted exactly when a class of its level has its latch set (R159). -/
def lineAsserted (s : State) (l : Level) : Bool :=
  (List.finRange 22).any fun i => s.exceptions.latches.get i && (s.dispositions.get i).level == l

/-- A queue's non-empty flag (R156). -/
def queueFlag (s : State) (q : Fin 4) : Bool := !(s.exceptions.queues.get q).isEmpty

/-- The attention summary byte (R165, `12` 12.2). -/
def attention (s : State) : Byte :=
  byte (bits [queueFlag s 0, queueFlag s 1, queueFlag s 2, queueFlag s 3, lineAsserted s .advisory,
    lineAsserted s .degraded, lineAsserted s .fatal, s.clock.valid])

end Sys2Proof.Machine
end

