-- ==== Sys2Proof/Machine/Ops.lean ====
section
/-!
DEFINITION. The operations that every block shares: taking frames only while the part is neither unpowered
nor in reset, raising an exception occurrence (R152 to R156), answering an uplink request (R165), answering
a panel call (R147), and the marks for the Face Composer.
-/

namespace Sys2Proof.Machine

/-! ## Number conversions -/

/-- A room number, where it is one. -/
def roomNo? (n : Nat) : Option RoomNo := if h : n < 96 then some ⟨n, h⟩ else none

/-- A kitchen or overlay number, where it is one. -/
def kitchenNo? (n : Nat) : Option KitchenNo := if h : n < 8 then some ⟨n, h⟩ else none

/-- The index of a loop address 1 to 112. -/
def addr? (n : Nat) : Option Addr := if h : n - 1 < 112 ∧ 0 < n then some ⟨n - 1, h.1⟩ else none

/-- The loop address of an index. -/
def address (a : Addr) : Nat := a.val + 1

/-- A notice queue number, where it is one. -/
def queueNo? (n : Nat) : Option (Fin 4) := if h : n < 4 then some ⟨n, h⟩ else none

/-- A class number, where it is one. -/
def classNo? (n : Nat) : Option (Fin 22) := if h : n < 22 then some ⟨n, h⟩ else none

/-- A menu item number, where it is one. -/
def itemNo? (n : Nat) : Option (Fin 256) := if h : n < 256 then some ⟨n, h⟩ else none

/-! ## Power and reset (R168, R169) -/

/-- The part takes frames at its ports: power is good, the reset line is not asserted, and no line reset is
being carried out. -/
def State.taking (s : State) : Bool := s.ports.powerGood && !s.ports.resetAsserted && !s.ports.resetDue

/-- What a claimed request does, where the part takes frames. -/
def whenTaking (s : State) (f : State → State) : State := if s.taking then f s else s

/-- What an internal step does, while power is good. -/
def whenPowered (s : State) (f : State → State) : State := if s.ports.powerGood then f s else s

/-! ## Bindings -/

/-- The room a DOOR panel is bound to. -/
def Panel.room? (p : Panel) : Option RoomNo := if p.kind == .door then roomNo? p.binding else none

/-- The kitchen a PANTRY panel is bound to. -/
def Panel.kitchen? (p : Panel) : Option KitchenNo := if p.kind == .pantry then kitchenNo? p.binding else none

/-! ## Raising an exception occurrence (R152) -/

/-- What the HOLD action closes, by the kind of subject (R154). `room` is the room handed over with a booking
subject. -/
def holdTarget (s : State) (subject : Subject) (room : Option RoomNo) : Option HoldTarget :=
  match subject with
  | .booking _ => room.map .room
  | .kitchen k => some (.kitchen k)
  | .panel n =>
    match addr? n with
    | none => none
    | some a =>
      match (s.panels.get a).room?, (s.panels.get a).kitchen? with
      | some r, _ => some (.room r)
      | none, some k => some (.kitchen k)
      | none, none => none
  | .room _ | .none => none

/-- Offer a notice to its queue: it joins the tail, or is counted lost (R156). -/
def Exceptions.offer (e : Exceptions) (n : Notice) : Exceptions :=
  let q := n.cls.queue
  if (e.queues.get q).length < Config.noticePlaces then
    { e with queues := e.queues.upd q (· ++ [n]) }
  else { e with lost := e.lost.upd q fun c => min (c + 1) 255 }

/-- Step 1 of R152: the class counter rises by 1, to 65535 at most (R155). -/
def Exceptions.counted (e : Exceptions) (c : ExcClass) : Exceptions :=
  { e with counters := e.counters.upd c.number fun k => min (k + 1) 65535 }

/-- An occurrence reaches the Exception Unit: counted, noticed, latched, and its hold handed on (R152). -/
def raise (c : ExcClass) (subject : Subject) (room : Option RoomNo) (detail : BitVec 32) (s : State) :
    State :=
  let d := s.dispositions.get c.number
  let n : Notice := { cls := c, subject := subject, detail := detail, stamp := s.grain }
  let e := s.exceptions.counted c
  let e := if d.action == .count then e else e.offer n
  let e := if d.action == .notifyAlert || d.action == .hold then
    { e with latches := e.latches.set c.number true } else e
  let e := if d.action == .hold then { e with holds := e.holds ++ (holdTarget s subject room).toList } else e
  { s with exceptions := e }

/-! ## Answers -/

/-- What an answer carries. -/
structure Answer where
  status   : Status
  reason   : Option Reason
  contents : Bytes
  deriving DecidableEq, Repr

/-- DONE with contents. -/
def Answer.done (contents : Bytes) : Answer := ⟨.done, none, contents⟩

/-- REFUSED with a reason and no more. -/
def Answer.refused (r : Reason) : Answer := ⟨.refused, some r, []⟩

/-- MALFORMED. -/
def Answer.malformed : Answer := ⟨.malformed, none, []⟩

/-- BUSY. -/
def Answer.busy : Answer := ⟨.busy, none, []⟩

/-- The response frame that answers a request of kind code `kind` with what the part holds now (R165, `12`
12.2). -/
def responseFrame (s : State) (via : Via) (kind : Nat) (a : Answer) : EthFrame :=
  { destination := via.source, source := via.destination, frameType := Config.frameType,
    body := responseBytes s.ports.node.val kind via.tag a.status a.reason (attention s) a.contents,
    checkOk := true }

/-- The response leaves the uplink port, or is discarded where the link is DOWN (R165). -/
def respondCode (via : Via) (kind : Nat) (a : Answer) (s : State) : State :=
  if s.ports.uplinkUp then
    { s with ports := { s.ports with
        uplinkOut := s.ports.uplinkOut ++ [responseFrame s via kind a], unsent := s.ports.unsent + 1 } }
  else s

/-- The response to a request of a named kind. -/
def respond (via : Via) (kind : Kind) (a : Answer) (s : State) : State := respondCode via kind.code a s

/-- A block's answer is written into the entry made for its call, which becomes READY, or is discarded where
that entry is gone (R147). -/
def answerCall (p : ReplyPlace) (a : CallAnswer) (s : State) : State :=
  { s with panels := s.panels.upd p.panel fun q =>
      { q with replies := q.replies.map fun e =>
          if e.serial == p.serial then { e with state := .ready a } else e } }

/-- A panel answer with a status, and no reason, id or end grain. -/
def CallAnswer.bare (st : Status) : CallAnswer := ⟨st, none, none, none⟩

/-- A refused panel answer that may name a booking. -/
def CallAnswer.refused (r : Reason) (id : Option BookingId) : CallAnswer := ⟨.refused, some r, id, none⟩

/-- A DONE panel answer with the booking id and its end grain. -/
def CallAnswer.doneFor (id : BookingId) (qe : Nat) : CallAnswer := ⟨.done, none, some id, some qe⟩

/-! ## Records and lists, as read -/

/-- A lookup in the booking index (R35). -/
def Store.find (st : Store) (id : BookingId) : Option Record := st.records.find? fun r => r.id == id

/-- A lookup in the booking index of the part. -/
def State.record? (s : State) (id : BookingId) : Option Record := s.store.find id

/-- The records of a room list, in list order. -/
def State.listed (s : State) (r : RoomNo) : List Record := (s.store.lists.get r).filterMap s.store.find

/-- The mutual partner of a room (R16). -/
def partnerOf (s : State) (r : RoomNo) : Option RoomNo :=
  match (s.rooms.get r).partner with
  | none => none
  | some q => if (s.rooms.get q).partner == some r then some q else none

/-- The room lists a record stands in while it is live: its room's, and its partner's when joined (R37). -/
def listRooms (s : State) (r : Record) : List RoomNo :=
  r.room :: (if r.joined then ((s.rooms.get r.room).partner).toList else [])

/-- The record is replaced in the store. -/
def putRecord (r : Record) (s : State) : State :=
  { s with store := { s.store with records := s.store.records.map fun q => if q.id == r.id then r else q } }

/-- The record with an id is changed by `f`. -/
def updRecord (id : BookingId) (f : Record → Record) (s : State) : State :=
  { s with store := { s.store with records := s.store.records.map fun q => if q.id == id then f q else q } }

/-! ## Ordered lists -/

/-- `a` inserted before the first element that satisfies `stop`, or at the end. -/
def insertWhere {α : Type} (stop : α → Bool) (a : α) : List α → List α
  | [] => [a]
  | b :: bs => if stop b then a :: b :: bs else b :: insertWhere stop a bs

/-- A list put in order by `before`, elements that stand level keeping their order. -/
def sortBy {α : Type} (before : α → α → Bool) (l : List α) : List α :=
  l.foldl (fun acc a => insertWhere (fun b => before a b) a acc) []

/-- An occurrence with a booking as its subject: the record's room field is handed over with it (R152). -/
def raiseFor (c : ExcClass) (r : Record) (detail : Nat) (s : State) : State :=
  raise c (.booking r.id) (some r.room) (BitVec.ofNat 32 detail) s

/-! ## Marks -/

/-- A room is marked changed for the Face Composer (R125). -/
def markRoom (r : RoomNo) (s : State) : State :=
  { s with composer := { s.composer with roomMarks := s.composer.roomMarks.set r true } }

/-- The rooms of a list are marked changed, in turn. -/
def markRooms (rs : List RoomNo) (s : State) : State := rs.foldl (fun s r => markRoom r s) s

/-- The rooms whose list holds a record are marked changed (R38). -/
def markRecord (r : Record) (s : State) : State := markRooms (listRooms s r) s

end Sys2Proof.Machine
end

