-- ==== Sys2Proof/Machine/Faces.lean ====
section
/-!
DEFINITION. The Face Composer (chapter 8): the rows composed for door and pantry panels, the row marks, the
overlay choices, and the recomposition that a grain boundary, a kitchen change, a panel table write or a
reset makes.
-/

namespace Sys2Proof.Machine

/-! ## Rows -/

/-- The row with cell `i` replaced; a cell beyond 23 is none of the row's. -/
def rowPut (row : Row) (i : Nat) (c : FaceCell) : Row :=
  ⟨row.cells.set i c, by rw [List.length_set]; exact row.size⟩

/-- The row with glyphs written from cell `i` on. -/
def rowText (row : Row) (i : Nat) (a : Attr) : Bytes → Row
  | [] => row
  | g :: gs => rowText (rowPut row i ⟨g, a⟩) (i + 1) a gs

/-- The eight rows from four zone rows and four free rows. -/
def joinRows (a b c d : Row) (own : Rows) : Rows :=
  ((((own.set 0 a).set 1 b).set 2 c).set 3 d)

/-- A decimal digit. -/
def digit (n : Nat) : Byte := byte (0x30 + n % 10)

/-- A hexadecimal digit. -/
def hexDigit (n : Nat) : Byte := if n % 16 < 10 then byte (0x30 + n % 16) else byte (0x37 + n % 16)

/-- A grain as hh:mm (R124). -/
def clockText (q : Nat) : Bytes :=
  let m := 5 * (q % Config.dayGrains)
  [digit (m / 60 / 10), digit (m / 60), 0x3A#8, digit (m % 60 / 10), digit (m % 60)]

/-- A booking id as four hexadecimal digits (R127). -/
def idText (id : BookingId) : Bytes :=
  let n := id.toNat
  [hexDigit (n / 4096), hexDigit (n / 256), hexDigit (n / 16), hexDigit n]

/-- A number below 10000 in decimal, without leading zeros. -/
def decimalText (n : Nat) : Bytes :=
  if n < 10 then [digit n]
  else if n < 100 then [digit (n / 10), digit n]
  else if n < 1000 then [digit (n / 100), digit (n / 10), digit n]
  else [digit (n / 1000), digit (n / 100), digit (n / 10), digit n]

/-- The words of R123, R124 and R127, in the glyph codes of R121. -/
def wordClosed : Bytes := [0x43#8, 0x4C#8, 0x4F#8, 0x53#8, 0x45#8, 0x44#8]
def wordHeld : Bytes := [0x48#8, 0x45#8, 0x4C#8, 0x44#8]
def wordJoined : Bytes := [0x4A#8, 0x4F#8, 0x49#8, 0x4E#8, 0x45#8, 0x44#8]
def wordInUse : Bytes := [0x49#8, 0x4E#8, 0x20#8, 0x55#8, 0x53#8, 0x45#8]
def wordCheckIn : Bytes := [0x43#8, 0x48#8, 0x45#8, 0x43#8, 0x4B#8, 0x20#8, 0x49#8, 0x4E#8]
def wordSoon : Bytes := [0x53#8, 0x4F#8, 0x4F#8, 0x4E#8]
def wordFree : Bytes := [0x46#8, 0x52#8, 0x45#8, 0x45#8]
def wordNext : Bytes := [0x4E#8, 0x45#8, 0x58#8, 0x54#8]
def wordPaused : Bytes := [0x50#8, 0x41#8, 0x55#8, 0x53#8, 0x45#8, 0x44#8]

/-! ## Door panels: zone rows (R122 to R124) -/

/-- The current booking of a room list (R122). -/
def currentBooking (l : List Record) : Option Record :=
  match l.find? fun r => r.state == .checkedIn with
  | some r => some r
  | none => l.find? fun r => r.state == .armed

/-- The next booking of a room list (R122). -/
def nextBooking (l : List Record) : Option Record :=
  l.find? fun r => (r.state == .booked || r.state == .armed) &&
    (currentBooking l).map (·.id) != some r.id

/-- The status word of a room and its attribute (R123). -/
def statusWord (state : RoomState) (r : RoomNo) (l : List Record) (g : Nat) : Bytes × Attr :=
  match state with
  | .outOfService | .unconfigured => (wordClosed, .accent)
  | .held => (wordHeld, .accent)
  | .inService =>
    match currentBooking l with
    | some b =>
      if b.joined && b.room != r then (wordJoined, .inverse)
      else if b.state == .checkedIn then (wordInUse, .inverse)
      else (wordCheckIn, .inverse)
    | none =>
      match nextBooking l with
      | some b => if b.ss ≤ g + 2 then (wordSoon, .accent) else (wordFree, .normal)
      | none => (wordFree, .normal)

/-- Row 0 of a door face: the name and the status word (R124). The cells of 16 to 23 left of a status word shorter than
8 glyphs are blank and NORMAL, which is DESIGN CHOICE (notes/assumptions/55.md). -/
def zoneRow0 (s : State) (r : RoomNo) (g : Nat) : Row :=
  let w := statusWord (s.rooms.get r).state r (s.listed r) g
  rowText (rowText blankRow 0 .normal ((s.rooms.get r).name.take 15)) (24 - w.1.length) w.2 w.1

/-- Row 1: the current booking's title, or a dash (R124). -/
def zoneRow1 (s : State) (r : RoomNo) : Row :=
  match (currentBooking (s.listed r)).bind (·.title) with
  | some t => rowText blankRow 0 .normal t
  | none => rowText blankRow 0 .normal [0x2D#8]

/-- Row 2: the current booking's times (R124). -/
def zoneRow2 (s : State) (r : RoomNo) : Row :=
  match currentBooking (s.listed r) with
  | some b => rowText blankRow 0 .normal (clockText b.qs ++ [0x2D#8] ++ clockText b.qe)
  | none => blankRow

/-- Row 3: the next booking (R124). -/
def zoneRow3 (s : State) (r : RoomNo) : Row :=
  match nextBooking (s.listed r) with
  | some b =>
    rowText (rowText (rowText blankRow 0 .accent wordNext) 5 .normal (clockText b.qs)) 11 .normal
      ((b.title.getD []).take 13)
  | none => blankRow

/-- A face's own rows with all four zone rows composed (R124). -/
def zoneRows (s : State) (r : RoomNo) (g : Nat) (own : Rows) : Rows :=
  joinRows (zoneRow0 s r g) (zoneRow1 s r) (zoneRow2 s r) (zoneRow3 s r) own

/-! ## Pantry panels (R127) -/

/-- Row 0 of a pantry face. -/
def pantryRow0 (s : State) (k : KitchenNo) : Row :=
  let e := s.kitchens.get k
  let n := (s.catering.tickets.get k).length
  let row := rowText blankRow 0 .normal (e.name.take 16)
  let row := if e.state == .paused then rowText row 16 .accent wordPaused else row
  if n < 10 then rowText row 23 .normal [digit n] else rowText row 22 .normal [digit (n / 10), digit n]

/-- The attribute of a ticket's cells. -/
def ticketAttr (t : Ticket) : Attr :=
  if t.accepted then .normal else if t.unacceptedMark then .accent else .inverse

/-- The row of one ticket (R127). The cells of 11 to 18 after a room name shorter than 8 glyphs, and those of 20 to 23
left of a load below 1000, are blank and NORMAL, which is DESIGN CHOICE (notes/assumptions/56.md). -/
def ticketRow (t : Ticket) : Row :=
  let a := ticketAttr t
  let load := decimalText t.load
  rowText (rowText (rowText (rowText blankRow 0 a (clockText t.qd)) 6 a (idText t.booking)) 11 a
    (t.roomName.take 8)) (24 - load.length) a load

/-- The rows of a pantry face: the kitchen, then its first seven tickets. -/
def pantryRows (s : State) (k : KitchenNo) : Rows :=
  Tab.gen fun i => if i.val = 0 then pantryRow0 s k
    else match (s.catering.tickets.get k)[i.val - 1]? with
      | some t => ticketRow t
      | none => blankRow

/-! ## Overlay selection and row marks (R126, R132) -/

/-- The overlay selection of a face. -/
inductive Selection where
  | none
  | auto (k : OverlayNo)
  | server (k : OverlayNo)
  deriving DecidableEq, Repr

/-- The selection derived from a face's two choices: the server's takes precedence (R132). -/
def Face.selection (f : Face) : Selection :=
  match f.server, f.auto with
  | some k, _ => .server k
  | Option.none, some k => .auto k
  | Option.none, Option.none => .none

/-- The rows a face shows (R121). -/
def shownRows (overlays : Tab Rows 8) (f : Face) : Rows :=
  match f.selection with
  | .none => f.own
  | .auto k | .server k => overlays.get k

/-- The face with new own rows: each row whose shown content changes is marked dirty (R126). -/
def Face.withOwn (f : Face) (rows : Rows) : Face :=
  { f with
    own := rows
    dirty := Tab.gen fun i => f.dirty.get i || (decide (f.selection = .none) && decide (f.own.get i ≠ rows.get i)) }

/-- The whole-face mark (R126). -/
def Face.wholeMark (f : Face) : Face := { f with dirty := Tab.fill 8 true }

/-- The face with its overlay choices changed; a change of its selection makes a whole-face mark (R132). -/
def Face.withChoices (f : Face) (server auto : Option OverlayNo) : Face :=
  let f' := { f with server := server, auto := auto }
  if f'.selection = f.selection then f' else f'.wholeMark

/-- The automatic choice of a panel's face, from its bound room's state (R132). -/
def autoChoice (s : State) (a : Addr) : Option OverlayNo :=
  match (s.panels.get a).room? with
  | none => none
  | some r =>
    match (s.rooms.get r).state with
    | .outOfService => some 0
    | .held => some 1
    | _ => none

/-! ## Changes of faces -/

/-- Face `a` is changed by `f`. -/
def updFace (a : Addr) (f : Face → Face) (s : State) : State :=
  { s with composer := { s.composer with faces := s.composer.faces.upd a f } }

/-- Every face is changed, each by its address. -/
def updFaces (f : Addr → Face → Face) (s : State) : State :=
  { s with composer := { s.composer with faces := Tab.gen fun a => f a (s.composer.faces.get a) } }

/-- The automatic choices of the door panels bound to a room, or to its partner, are re-evaluated (R27,
R132). -/
def evaluateOverlays (r : RoomNo) (s : State) : State :=
  updFaces (fun a f =>
    if (s.panels.get a).room? = some r ∨
        ((s.panels.get a).room? ≠ none ∧ (s.panels.get a).room? = (s.rooms.get r).partner) then
      f.withChoices f.server (autoChoice s a)
    else f) s

/-- A room's state has changed: it is marked, and its overlays re-evaluated (R27). -/
def roomStateChanged (r : RoomNo) (s : State) : State := evaluateOverlays r (markRoom r s)

/-- A kitchen is marked changed: every pantry face bound to it is recomposed at once (R127). -/
def kitchenChanged (k : KitchenNo) (s : State) : State :=
  updFaces (fun a f => if (s.panels.get a).kitchen? = some k then f.withOwn (pantryRows s k) else f) s

/-- The composer's work for one room at a boundary (R125): all four zone rows where the room's mark is set,
which is then clear, and row 0 where it is not. -/
def recomposeRoom (r : RoomNo) (g : Nat) (s : State) : State :=
  let marked := s.composer.roomMarks.get r
  let s' := updFaces (fun a f =>
    if (s.panels.get a).room? = some r then
      f.withOwn (if marked then zoneRows s r g f.own else f.own.set 0 (zoneRow0 s r g))
    else f) s
  { s' with composer := { s'.composer with roomMarks := s'.composer.roomMarks.set r false } }

/-- A face's own rows composed from its panel's kind and binding, with blank free rows (R133, R134). -/
def composedRows (s : State) (a : Addr) : Rows :=
  match (s.panels.get a).room?, (s.panels.get a).kitchen? with
  | some r, _ => zoneRows s r s.grain blankRows
  | none, some k => pantryRows s k
  | none, none => blankRows

/-- A face with the fresh values of R133: free area, blank free rows, no server choice, the automatic choice
re-evaluated, own rows composed, and a whole-face mark. The in-flight marks stand. -/
def refreshFace (a : Addr) (s : State) : State :=
  updFace a (fun f => { f with own := composedRows s a, dirty := Tab.fill 8 true, area := freshArea,
                               server := none, auto := autoChoice s a }) s

/-- The Face Composer after a reset (R134), from the tables and lists as the reset leaves them. -/
def resetComposer (s : State) : State :=
  { s with composer :=
    { faces := Tab.gen fun a =>
        { freshFace with own := composedRows s a, auto := autoChoice s a }
      roomMarks := Tab.fill 96 false } }

end Sys2Proof.Machine
end

