-- ==== Sys2Proof/Machine/Catering.lean ====
section
/-!
DEFINITION. The Catering Scheduler (chapter 7): the load table, the judgement of an order, its placement,
dispatch, release and move, the ticket lists and the handing over of TICKET frames (R149), and pantry calls.
-/

namespace Sys2Proof.Machine

/-! ## The load table (R105) -/

/-- The page of a day. -/
def pageIndex (day : Nat) : Fin 14 := ⟨day % 14, by omega⟩

/-- The load of a kitchen at a slot-of-day of a day: 0 where the page carries another day. -/
def Catering.loadAt (c : Catering) (k : KitchenNo) (day : Nat) (slot : Fin 96) : Nat :=
  let p := c.pages.get (pageIndex day)
  if p.tag = day then (p.loads.get k).get slot else 0

/-- The page of a grain's day still carries that day. -/
def Catering.carries (c : Catering) (g : Nat) : Bool := (c.pages.get (pageIndex (dayOf g))).tag == dayOf g

/-- The load of a kitchen in the slot of grain `qd` is changed by `f`, where the page carries the day. -/
def Catering.changeLoad (c : Catering) (k : KitchenNo) (qd : Nat) (f : Nat → Nat) : Catering :=
  if c.carries qd then
    { c with pages := c.pages.upd (pageIndex (dayOf qd)) fun p =>
        { p with loads := p.loads.upd k fun row => row.upd (slotIndex qd) f } }
  else c

/-- A load is added (R110, R117). -/
def addLoad (k : KitchenNo) (qd load : Nat) (s : State) : State :=
  { s with catering := s.catering.changeLoad k qd (· + load) }

/-- A load is subtracted, where the page still carries the order's day (R105). -/
def subtractLoad (k : KitchenNo) (qd load : Nat) (s : State) : State :=
  { s with catering := s.catering.changeLoad k qd (· - load) }

/-- A counted order: in any state but CANCELLED (R105). -/
def Order.counted (o : Order) : Bool := o.state != .cancelled

/-- An order with a ticket in its kitchen's list (R112). -/
def Order.ticketed (o : Order) : Bool := o.state == .dispatched || o.state == .accepted

/-! ## Judging an order (R108, R109) -/

/-- The weight of an item: 0 where it does not exist. -/
def weightOf (s : State) (item : Nat) : Nat :=
  match itemNo? item with
  | some i => (s.menu.get i).weight
  | none => 0

/-- The lead of an item. -/
def leadOf (s : State) (item : Nat) : Nat :=
  match itemNo? item with
  | some i => (s.menu.get i).lead
  | none => 0

/-- Kitchen `k` can prepare an item. -/
def prepares (s : State) (k : KitchenNo) (item : Nat) : Bool :=
  match itemNo? item with
  | some i => (s.menu.get i).mask.getLsbD k.val
  | none => false

/-- The load of an order (R108). -/
def orderLoad (s : State) (lines : List (Nat × Nat)) : Nat :=
  (lines.map fun l => l.2 * weightOf s l.1).sum

/-- The largest lead among an order's items (R108). -/
def orderLead (s : State) (lines : List (Nat × Nat)) : Nat :=
  (lines.map fun l => leadOf s l.1).foldl max 0

/-- Step 7's kitchen load, leaving out the record's own PLACED order where one is given (R109). -/
def loadWithout (s : State) (k : KitchenNo) (qd : Nat) (own : Option Order) : Nat :=
  let l := s.catering.loadAt k (dayOf qd) (slotIndex qd)
  match own with
  | some o =>
    if o.state = .placed ∧ o.kitchen = k ∧ o.qd / 3 = qd / 3 then l - o.load else l
  | none => l

/-- Steps 4 to 7 of R109 for kitchen `k`. -/
def kitchenTakes (s : State) (k : KitchenNo) (lines : List (Nat × Nat)) (load qd : Nat)
    (own : Option Order) : Bool :=
  (s.kitchens.get k).state == .opened && lines.all (fun l => prepares s k l.1) &&
    decide (load ≤ Config.maxLoad) &&
    decide (loadWithout s k qd own + load ≤ (s.profile.get k).get (slotIndex qd))

/-- The answer of a judgement (R60). -/
inductive Judgement where
  | fits (j : Judged)
  | badItem
  | orderLate
  | kitchenFull
  deriving DecidableEq, Repr

/-- An order with delivery grain `qd` and dispatch grain `qx` is judged against the serving kitchen of a room (R109),
with its load as the menu gives it now (R108); `late` is step 2. -/
def judgeAt (s : State) (kitchen : Option KitchenNo) (offset : Nat) (lines : List (Nat × Nat)) (qd qx : Nat)
    (late : Bool) (own : Option Order) : Judgement :=
  let load := orderLoad s lines
  if lines.any fun l => weightOf s l.1 == 0 then .badItem
  else if late then .orderLate
  else match kitchen with
    | none => .kitchenFull
    | some k =>
      if kitchenTakes s k lines load qd own then
        .fits { kitchen := k, offset := offset, lines := lines, load := load, qd := qd, qx := qx }
      else .kitchenFull

/-- An order is judged for a booking that starts at `qs`: its Qd and Qx are computed from that (R108, R109). -/
def judgeOrder (s : State) (kitchen : Option KitchenNo) (offset : Nat) (lines : List (Nat × Nat)) (qs : Nat)
    (own : Option Order) : Judgement :=
  let lead := orderLead s lines
  judgeAt s kitchen offset lines (qs - offset) (qs - offset - lead) (decide (qs < s.grain + offset + lead)) own

/-- A record's own order is judged at an unchanged start: it keeps its Qd and Qx, which a change of the room does not
compute anew (R108). -/
def judgeKept (s : State) (kitchen : Option KitchenNo) (o : Order) : Judgement :=
  judgeAt s kitchen o.offset o.lines o.qd o.qx (decide (o.qx < s.grain)) (some o)

/-! ## TICKET frames handed over (R149) -/

/-- A kitchen's list holds a ticket for a booking. -/
def hasTicket (s : State) (k : KitchenNo) (id : BookingId) : Bool :=
  (s.catering.tickets.get k).any fun t => t.booking == id

/-- The TICKET frame for a booking is the one awaiting return at panel `a`. -/
def ticketInFlight (s : State) (a : Addr) (id : BookingId) : Bool :=
  match s.loop.awaited with
  | some w => !w.stale && decide (w.carried = .ticket a id)
  | none => false

/-- A frame joins a TICKET list: in place of the frame for its booking, at the tail, or, with 12 frames
standing, after those without a ticket any more are dropped; else it is dropped (R149). -/
def joinTickets (s : State) (a : Addr) (f : TicketFrame) (l : List TicketFrame) : List TicketFrame :=
  if l.any fun e => e.booking == f.booking then
    l.map fun e => if e.booking == f.booking then
      { f with replaced := e.replaced || ticketInFlight s a f.booking } else e
  else if l.length < Config.ticketPlaces then l ++ [f]
  else
    let kept := l.filter fun e => ticketInFlight s a e.booking || hasTicket s e.kitchen e.booking
    if kept.length < Config.ticketPlaces then kept ++ [f] else kept

/-- The scheduler hands a TICKET frame to the Loop Controller for the kitchen's pantry panel (R112, R149). -/
def handTicket (k : KitchenNo) (t : Ticket) (s : State) : State :=
  match (s.kitchens.get k).pantry with
  | none => s
  | some a =>
    if (s.panels.get a).kind = .pantry then
      { s with panels := s.panels.upd a fun p =>
          { p with tickets := joinTickets s a { booking := t.booking, kitchen := k, roomName := t.roomName,
                                                qd := t.qd, load := t.load, replaced := false } p.tickets } }
    else s

/-! ## Tickets (R112) -/

/-- A kitchen's ticket list is changed, and the kitchen marked changed. -/
def changeTickets (k : KitchenNo) (f : List Ticket → List Ticket) (s : State) : State :=
  kitchenChanged k { s with catering := { s.catering with tickets := s.catering.tickets.upd k f } }

/-- A ticket for a booking is removed from a kitchen's list, where one stands there. -/
def removeTicket (k : KitchenNo) (id : BookingId) (s : State) : State :=
  if hasTicket s k id then changeTickets k (fun l => l.filter fun t => t.booking != id) s else s

/-- The order of a record is changed. -/
def updOrder (id : BookingId) (f : Order → Order) (s : State) : State :=
  updRecord id (fun r => { r with order := r.order.map f }) s

/-- A dispatch: the order becomes DISPATCHED, its ticket is made and a TICKET frame handed over (R112). -/
def dispatchOrder (k : KitchenNo) (g : Nat) (r : Record) (o : Order) (s : State) : State :=
  let t : Ticket := { booking := r.id, roomName := (s.rooms.get r.room).name, qd := o.qd, load := o.load,
                      accepted := false, madeGrain := g, unacceptedMark := false }
  let s := updOrder r.id (fun o => { o with state := .dispatched, dispatchPending := false }) s
  let s := changeTickets k (insertWhere (fun u => decide (o.qd < u.qd)) t) s
  handTicket k t s

/-! ## The dispatch pass (R111, R113) -/

/-- The order in which a pass considers orders: dispatch grain, delivery grain, booking id. -/
def dueBefore (a b : Record × Order) : Bool :=
  decide (a.2.qx < b.2.qx) ||
    (a.2.qx == b.2.qx && (decide (a.2.qd < b.2.qd) || (a.2.qd == b.2.qd && decide (a.1.id < b.1.id))))

/-- A kitchen's PLACED orders due at `g`, MOVING bookings passed over, in the order of R111. -/
def dueOrders (s : State) (k : KitchenNo) (g : Nat) : List BookingId :=
  let due := s.store.records.filterMap fun r =>
    match r.order with
    | some o =>
      if o.state = .placed ∧ o.kitchen = k ∧ o.qx ≤ g ∧ r.state ≠ .moving then some (r, o) else none
    | none => none
  (sortBy dueBefore due).map fun p => p.1.id

/-- One order of a pass: judged for lateness, then dispatched or left pending (R111, R113). -/
def considerOrder (k : KitchenNo) (g : Nat) (s : State) (id : BookingId) : State :=
  match s.record? id with
  | none => s
  | some r =>
    match r.order with
    | none => s
    | some o =>
      let s := if o.qd ≤ g ∧ ¬ o.lateMark then
          updOrder id (fun o => { o with lateMark := true }) (raiseFor .ticketLate r k.val s)
        else s
      if (s.catering.tickets.get k).length < Config.ticketPlaces then dispatchOrder k g r o s
      else updOrder id (fun o => { o with dispatchPending := true }) s

/-- A NEW ticket whose accept limit has run out is marked, and TICKET_UNACCEPTED raised (R113). -/
def judgeTicket (k : KitchenNo) (g : Nat) (s : State) (t : Ticket) : State :=
  if ¬ t.accepted ∧ ¬ t.unacceptedMark ∧ t.madeGrain + (s.kitchens.get k).acceptLimit ≤ g then
    let s := changeTickets k
      (fun l => l.map fun u => if u.booking == t.booking then { u with unacceptedMark := true } else u) s
    match s.record? t.booking with
    | some r => raiseFor .ticketUnaccepted r k.val s
    | none => s
  else s

/-- The pass's work on one kitchen (R111): its due orders, then its tickets. -/
def passKitchen (k : KitchenNo) (g : Nat) (s : State) : State :=
  let s := (dueOrders s k g).foldl (considerOrder k g) s
  (s.catering.tickets.get k).foldl (judgeTicket k g) s

/-! ## Release, move, retirement and placement of orders -/

/-- The order of a released booking, or of a cancelled CHECKED_IN one (R116). -/
def releaseOrder (id : BookingId) (s : State) : State :=
  match s.record? id with
  | none => s
  | some r =>
    match r.order with
    | none => s
    | some o =>
      match o.state with
      | .placed =>
        subtractLoad o.kitchen o.qd o.load
          (updOrder id (fun o => { o with state := .cancelled, dispatchPending := false }) s)
      | .dispatched | .accepted =>
        raiseFor .cateringWaste r o.kitchen.val
          (removeTicket o.kitchen id (updOrder id (fun o => { o with state := .wasted }) s))
      | .delivered | .wasted | .cancelled => s

/-- A ticket is renamed for the room its booking has moved to, and handed over again (R117). -/
def renameTicket (k : KitchenNo) (id : BookingId) (name : Bytes) (s : State) : State :=
  let s := changeTickets k
    (fun l => l.map fun t => if t.booking == id then { t with roomName := name } else t) s
  match (s.catering.tickets.get k).find? fun t => t.booking == id with
  | some t => handTicket k t s
  | none => s

/-- The order of a booking placed in an alternate is settled (R117). -/
def settleMove (id : BookingId) (alternate : RoomNo) (s : State) : State :=
  match s.record? id with
  | none => s
  | some r =>
    match r.order with
    | none => s
    | some o =>
      let kitchen := (s.rooms.get alternate).kitchen
      match o.state with
      | .placed =>
        if kitchen = some o.kitchen then s
        else
          let s := subtractLoad o.kitchen o.qd o.load s
          match kitchen with
          | some k =>
            if kitchenTakes s k o.lines o.load o.qd none then
              addLoad k o.qd o.load (updOrder id
                (fun o => { o with kitchen := k, dispatchPending := false, lateMark := false }) s)
            else raiseFor .cateringDropped r 0 (updOrder id (fun o => { o with state := .cancelled }) s)
          | none => raiseFor .cateringDropped r 0 (updOrder id (fun o => { o with state := .cancelled }) s)
      | .dispatched | .accepted =>
        let s := renameTicket o.kitchen id (s.rooms.get alternate).name s
        if kitchen = some o.kitchen then s else raiseFor .cateringRedirect r alternate.val s
      | .delivered | .wasted | .cancelled => s

/-- The scheduler is told of a retirement: any ticket still standing is removed, and the load of a counted
order subtracted (R118). -/
def retireOrder (id : BookingId) (o : Order) (s : State) : State :=
  let s := removeTicket o.kitchen id s
  if o.counted then subtractLoad o.kitchen o.qd o.load s else s

/-- The order part written for a judged order (R110). -/
def Judged.order (j : Judged) (state : OrderState) : Order :=
  { kitchen := j.kitchen, offset := j.offset, lines := j.lines, load := j.load, qd := j.qd, qx := j.qx,
    state := state, dispatchPending := false, lateMark := false }

/-- A judged order is placed with its booking: PLACED with its load added, or CANCELLED where its page does not carry
its day (R110): the page has been realigned since the judgement, or, as is DEDUCED, the rollover that will bring it
the last day of the horizon still waits (notes/assumptions/53.md). -/
def placeOrder (id : BookingId) (j : Judged) (s : State) : State :=
  if s.catering.carries j.qd then
    addLoad j.kitchen j.qd j.load (updRecord id (fun r => { r with order := some (j.order .placed) }) s)
  else
    let s := updRecord id (fun r => { r with order := some (j.order .cancelled) }) s
    match s.record? id with
    | some r => raiseFor .cateringDropped r 1 s
    | none => s

/-! ## Pantry calls (R114, R115) -/

/-- The order that a pantry call of kitchen `k` names, in one of the given states. -/
def calledOrder (s : State) (k : KitchenNo) (id : BookingId) (p : Order → Bool) : Option Order :=
  match s.record? id with
  | none => none
  | some r =>
    match r.order with
    | some o => if p o && o.kitchen == k then some o else none
    | none => none

/-- A DONE answer to a pantry call, with the id. -/
def CallAnswer.doneTicket (id : BookingId) : CallAnswer := ⟨.done, none, some id, none⟩

/-- An ACCEPT is judged and applied (R114). -/
def acceptTicket (c : PantryCall) (s : State) : State :=
  match calledOrder s c.kitchen c.booking fun o => o.state == .dispatched with
  | some o =>
    answerCall c.place (.doneTicket c.booking) (changeTickets o.kitchen
      (fun l => l.map fun t => if t.booking == c.booking then { t with accepted := true } else t)
      (updOrder c.booking (fun o => { o with state := .accepted }) s))
  | none => answerCall c.place (.refused .unknownTicket (some c.booking)) s

/-- A DELIVERED is judged and applied (R115). -/
def deliverTicket (c : PantryCall) (s : State) : State :=
  match calledOrder s c.kitchen c.booking Order.ticketed with
  | some o =>
    answerCall c.place (.doneTicket c.booking)
      (removeTicket o.kitchen c.booking (updOrder c.booking (fun o => { o with state := .delivered }) s))
  | none => answerCall c.place (.refused .unknownTicket (some c.booking)) s

end Sys2Proof.Machine
end

