-- ==== Sys2Proof/Machine/Queue.lean ====
section
/-!
DEFINITION. The admission queue (R49, R50) and the VACATE trigger (R23, R24). The place that an entry leaves
free is given to a room that waits with its vacate-pending flag at the engine's next step, so that a request
arriving at that moment may take it first, as R24 allows.
-/

namespace Sys2Proof.Machine

/-- The figures at the start of an admission (R81). -/
def noFigures : Figures := { displaced := 0, elsewhere := 0, unplaced := 0, overflow := false }

/-- Where the engine begins with an entry. -/
def firstPhase : Request → Phase
  | .vacate _ => .vacateRead true
  | _ => .check 1

/-- An entry just taken from the head of the queue. -/
def newFlight (r : Request) : Flight :=
  { request := r, phase := firstPhase r, clamped := false, duration := 0, cls := 0, qs := 0, qe := 0,
    span := ⟨0, 0⟩, settlement := .keep, orderResult := .none, taken := none, placed := none,
    figures := noFigures, stack := [] }

/-- An IDLE engine takes the entry at the head of the queue, if there is one (R50). -/
def Engine.wake (e : Engine) : Engine :=
  match e.inFlight, e.queue with
  | none, r :: rest => { queue := rest, inFlight := some (newFlight r) }
  | _, _ => e

/-- The admission queue holds all the entries it can (R49). -/
def queueFull (s : State) : Bool := decide (Config.queuePlaces ≤ s.engine.queue.length)

/-- An entry joins the tail; an IDLE engine takes it at once (R49, R50). -/
def joinQueue (r : Request) (s : State) : State :=
  { s with engine := { s.engine with queue := s.engine.queue ++ [r] }.wake }

/-- The admission in flight has ended: the engine takes its next entry or becomes IDLE (R50). -/
def endFlight (s : State) : State :=
  { s with engine := { s.engine with inFlight := none }.wake }

/-- The flight in hand is replaced. -/
def setFlight (f : Flight) (s : State) : State := { s with engine := { s.engine with inFlight := some f } }

/-- A VACATE for the room stands in the queue or is in flight (R23). -/
def vacateKnown (s : State) (r : RoomNo) : Bool :=
  s.engine.queue.contains (.vacate r) ||
    match s.engine.inFlight with
    | some f => f.request == .vacate r
    | none => false

/-- A room's vacate-pending flag is written. -/
def setPending (r : RoomNo) (b : Bool) (s : State) : State :=
  { s with rooms := s.rooms.upd r fun e => { e with vacatePending := b } }

/-- The VACATE trigger of a room fires: its VACATE joins the queue, or waits as the vacate-pending flag; a
second one is not asked for (R23). DESIGN CHOICE (notes/assumptions/10.md): where a place is free and a pending room
has not taken it yet (R24), the VACATE newly triggered takes it, and the pending room the next. -/
def triggerVacate (r : RoomNo) (s : State) : State :=
  if vacateKnown s r || (s.rooms.get r).vacatePending then s
  else if queueFull s then setPending r true s
  else joinQueue (.vacate r) s

/-- The pending room with the lowest room number. -/
def pendingRoom (s : State) : Option RoomNo :=
  (List.finRange 96).find? fun r => (s.rooms.get r).vacatePending

/-- A free place is taken by the pending room with the lowest number (R24). -/
def queuePendingVacate (s : State) : State :=
  if queueFull s then s
  else match pendingRoom s with
    | some r => joinQueue (.vacate r) (setPending r false s)
    | none => s

end Sys2Proof.Machine
end

