-- ==== Sys2Proof/Machine/Store.lean ====
section
/-!
DEFINITION. The Booking Store (chapter 3): the record pool, the room lists, span edits, release and
retirement, and the QUERY and LIST_ROOM answers are built from what stands here.
-/

namespace Sys2Proof.Machine

/-! ## The record pool (R29 to R31) -/

/-- The free count (R29). -/
def freeCount (s : State) : Nat := s.store.free.length

/-- The cells of an order part (R29). -/
def orderCells (lines : Nat) : Nat := if lines ≤ 4 then 1 else 2

/-- The cells a record with these parts holds (R29): `order` is the number of lines. -/
def cellCount (title : Bool) (order : Option Nat) (organiser : Bool) : Nat :=
  1 + (if title then 2 else 0) + (order.map orderCells).getD 0 + (if organiser then 1 else 0)

/-- The cells a record's parts ask for. -/
def Record.cellsNeeded (r : Record) : Nat :=
  cellCount r.title.isSome (r.order.map fun o => o.lines.length) r.organiser.isSome

/-- `n` cells are taken from the head of the free-cell list, and STORE_LOW judged (R30, R31). The cells taken
are the first `n` of the list as it stood. -/
def allocate (n : Nat) (s : State) : State :=
  let free := s.store.free.drop n
  let s := { s with store := { s.store with free := free } }
  if n ≠ 0 ∧ s.store.storeLowArmed ∧ free.length < Config.storeLowMark then
    raise .storeLow .none none (BitVec.ofNat 32 free.length)
      { s with store := { s.store with storeLowArmed := false } }
  else s

/-- Cells are appended to the free-cell list in ascending number, and the STORE_LOW arm judged (R29, R31). -/
def freeCells (cells : List Nat) (s : State) : State :=
  let free := s.store.free ++ sortBy (fun a b => decide (a < b)) cells
  { s with store := { s.store with
      free := free
      storeLowArmed := s.store.storeLowArmed || decide (Config.storeLowMark ≤ free.length) } }

/-! ## Room lists (R37, R38) -/

/-- The record with an id has a span that begins after `ss`. -/
def beginsAfter (st : Store) (ss : Nat) (id : BookingId) : Bool :=
  match st.find id with
  | some r => decide (ss < r.ss)
  | none => false

/-- A record is inserted into one room's list at the place its Ss gives, and the room marked (R38). -/
def insertInto (room : RoomNo) (r : Record) (s : State) : State :=
  markRoom room { s with store := { s.store with
    lists := s.store.lists.upd room (insertWhere (beginsAfter s.store r.ss) r.id) } }

/-- A record is removed from one room's list, and the room marked where it stood there (R38). -/
def removeFrom (room : RoomNo) (id : BookingId) (s : State) : State :=
  if (s.store.lists.get room).contains id then
    markRoom room { s with store := { s.store with
      lists := s.store.lists.upd room fun l => l.filter fun x => x != id } }
  else s

/-- A BOOKED record has been inserted into a room's list: where the room is OUT_OF_SERVICE, its VACATE trigger
fires (R23). -/
def triggerOnInsert (state : BookingState) (room : RoomNo) (s : State) : State :=
  if state = .booked ∧ (s.rooms.get room).state = .outOfService then triggerVacate room s else s

/-- A record is inserted into one room's list at the request of the engine, with what R23 has it trigger. -/
def placeInto (room : RoomNo) (r : Record) (s : State) : State :=
  triggerOnInsert r.state room (insertInto room r s)

/-- A record is inserted into its room's list, the first of a joined record's two lists (R38). -/
def insertRecord (r : Record) (s : State) : State := placeInto r.room r s

/-- The room whose list a joined record is inserted into second (R38). -/
def besideRoom (s : State) (r : Record) : Option RoomNo :=
  if r.joined then (s.rooms.get r.room).partner else none

/-- A joined record is inserted into its partner's list, where it still stands in its room's (R38): the grain scan
may have released or retired it in between, and it then stands in no list (R37). That nothing is inserted any more is
DEDUCED (notes/assumptions/57.md). -/
def insertBeside (id : BookingId) (s : State) : State :=
  match s.record? id with
  | none => s
  | some r =>
    match besideRoom s r with
    | some q => if (s.store.lists.get r.room).contains id then placeInto q r s else s
    | none => s

/-- A record is removed from its partner's list, when joined, and then from its room's (R38). Every rule that
removes a record has it done whole, in one step of the store: R66 ("in the same step"), R67 ("in one step"), R43
and R42 ("taken whole"). -/
def removeRecord (r : Record) (s : State) : State :=
  (listRooms s r).reverse.foldl (fun s room => removeFrom room r.id s) s

/-! ## The retire grain (R40) -/

/-- The retire grain of a record. -/
def retireGrainOf (r : Record) : Nat :=
  match r.order with
  | some o => if o.counted then max r.se (3 * (o.qd / 3 + 1)) else r.se
  | none => r.se

/-- The retire grain is computed anew. -/
def Record.regrained (r : Record) : Record := { r with retireGrain := retireGrainOf r }

/-- The retire grain of a stored record is computed anew. -/
def recomputeRetire (id : BookingId) (s : State) : State := updRecord id Record.regrained s

/-! ## Retirement and release (R39, R41, R43) -/

/-- Retirement: lists, order, cells, index, in that order (R43). -/
def retire (id : BookingId) (s : State) : State :=
  match s.record? id with
  | none => s
  | some r =>
    let s := removeRecord r s
    let s := { s with store := { s.store with retireList := s.store.retireList.filter fun x => x != id } }
    let s := match r.order with
      | some o => retireOrder id o s
      | none => s
    let s := freeCells r.cells s
    { s with store := { s.store with records := s.store.records.filter fun q => q.id != id } }

/-- The record with an id retires after grain `g`. -/
def retiresAfter (st : Store) (g : Nat) (id : BookingId) : Bool :=
  match st.find id with
  | some r => decide (g < r.retireGrain)
  | none => false

/-- A released record joins the retire list where its order is counted, and retires at once where it has none
that is (R39, step 4, R41). -/
def joinRetireList (id : BookingId) (s : State) : State :=
  match s.record? id with
  | none => s
  | some r =>
    if (r.order.map Order.counted).getD false then
      { s with store := { s.store with
        retireList := insertWhere (retiresAfter s.store r.retireGrain) id s.store.retireList } }
    else retire id s

/-- The release of a record up to its retire grain: out of its lists, RELEASED with its reason, its order
handed to the scheduler (R39, steps 1 to 4). -/
def releaseRecord (id : BookingId) (reason : ReleaseReason) (s : State) : State :=
  match s.record? id with
  | none => s
  | some r =>
    let s := removeRecord r s
    let s := updRecord id (fun r => { r with state := .released, releaseReason := some reason }) s
    recomputeRetire id (releaseOrder id s)

/-- Release of a record with a reason (R39). -/
def release (id : BookingId) (reason : ReleaseReason) (s : State) : State :=
  joinRetireList id (releaseRecord id reason s)

/-! ## Span edits and endings (R34, R39) -/

/-- The early end at grain `g`: Qe and Se earlier, where `g + 1` is below Qe (R34). -/
def Record.earlyEnd (g : Nat) (r : Record) : Record :=
  if g + 1 < r.qe then { r with qe := g + 1, se := max (g + 1 + (r.se - r.qe)) (r.ss + 1) } else r

/-- The extension by one service slot (R34, R69). -/
def Record.extended (r : Record) : Record := { r with qe := r.qe + 3, se := r.qe + 3 + (r.se - r.qe) }

/-- A record is edited in place, its retire grain computed anew, and the rooms of its lists marked. -/
def editRecord (r : Record) (f : Record → Record) (s : State) : State :=
  markRecord r (updRecord r.id (fun q => (f q).regrained) s)

/-- The state ENDED with a reason. -/
def Record.endedWith (reason : EndReason) (r : Record) : Record :=
  { r with state := .ended, endReason := some reason }

/-! ## Conflicts (R55, R57) -/

/-- The span of a booking in a room (R55). -/
def spanIn (e : Room) (qs qe : Nat) : Span := ⟨qs - e.setup, qe + e.turnaround⟩

/-- A record's span conflicts with a span (R57). -/
def conflicts (sp : Span) (r : Record) : Bool := decide (sp.first < r.se) && decide (r.ss < sp.last)

/-- The records of a room's list that conflict with a span, one id left out, in list order (R57). -/
def conflictsIn (s : State) (room : RoomNo) (sp : Span) (own : Option BookingId) : List Record :=
  (s.listed room).filter fun r => conflicts sp r && own != some r.id

end Sys2Proof.Machine
end

