-- ==== Sys2Proof/Machine/Attendance.lean ====
section
/-!
DEFINITION. Attendance (chapter 6): the grain scan's work on one record, one room list and the retire list
(R42, R88 to R92), the check-in tap (R93 to R97), and the meanings of GRAIN_SCAN and TAP.
-/

namespace Sys2Proof.Machine

/-! ## The grain scan -/

/-- Arming, where it is due (R88). -/
def armDue (g : Nat) (id : BookingId) (s : State) : State :=
  match s.record? id with
  | none => s
  | some r =>
    if r.state = .booked ∧ r.qs ≤ g + (s.rooms.get r.room).earlyWindow then
      markRecord r (updRecord id (fun r => { r with state := .armed }) s)
    else s

/-- No-show release or unattended end of an ARMED record, where due (R89, R90). -/
def absenceDue (g : Nat) (id : BookingId) (s : State) : State :=
  match s.record? id with
  | none => s
  | some r =>
    let grace := (s.rooms.get r.room).grace
    if r.state = .armed then
      if grace = 0 then
        if r.qe ≤ g then
          markRecord r (updRecord id (Record.endedWith .unattended) s)
        else s
      else if min (r.qs + grace) r.qe ≤ g then
        raiseFor .noShowRelease r r.room.val (release id .noShow s)
      else s
    else s

/-- The normal end of a CHECKED_IN record, where due (R90). -/
def endDue (g : Nat) (id : BookingId) (s : State) : State :=
  match s.record? id with
  | none => s
  | some r =>
    if r.state = .checkedIn ∧ r.qe ≤ g then
      markRecord r (updRecord id (Record.endedWith .normal) s)
    else s

/-- Retirement, where due (R42). -/
def retireDue (g : Nat) (id : BookingId) (s : State) : State :=
  match s.record? id with
  | none => s
  | some r =>
    if (r.state = .ended ∨ r.state = .released) ∧ r.retireGrain ≤ g then retire id s else s

/-- The scan meets a record: every transition due at `g`, in turn, then retirement (R91, R42). -/
def scanRecord (g : Nat) (s : State) (id : BookingId) : State :=
  retireDue g id (endDue g id (absenceDue g id (armDue g id s)))

/-- The scan's work on one room list (R42). -/
def scanList (r : RoomNo) (g : Nat) (s : State) : State := (s.store.lists.get r).foldl (scanRecord g) s

/-- The scan's work on the retire list: from its head, to the first whose retire grain is greater (R42). -/
def scanRetireList (g : Nat) (s : State) : State :=
  (s.store.retireList.takeWhile fun id => !retiresAfter s.store g id).foldl (fun s id => retire id s) s

/-- The scan in hand is replaced. -/
def setScan (w : Option Walk) (s : State) : State :=
  { s with deliveries := { s.deliveries with scan := w } }

/-- The oldest boundary delivered to the store begins a scan, where none is under way, in any clock state (R6; DESIGN
CHOICE for one raised before the clock halted, notes/assumptions/61.md). -/
def beginScan (s : State) : State :=
  match s.deliveries.scan, s.deliveries.storeBoundaries with
  | none, g :: rest =>
    { s with deliveries := { s.deliveries with scan := some ⟨g, 0⟩, storeBoundaries := rest } }
  | _, _ => s

/-- One piece of a scan: the next room list, or the retire list after the last, which ends the scan. -/
def scanPiece (s : State) : State :=
  let s := beginScan s
  match s.deliveries.scan with
  | none => s
  | some w =>
    match roomNo? w.next with
    | some r => setScan (some { w with next := w.next + 1 }) (scanList r w.grain s)
    | none => setScan none (scanRetireList w.grain s)

/-- Pieces of one scan, to its end at most. -/
def scanPieces : Nat → State → State
  | 0, s => s
  | n + 1, s =>
    let s' := scanPiece s
    if s'.deliveries.scan = none then s' else scanPieces n s'

/-- GRAIN_SCAN (R42). -/
def execGrainScan (pieces : Nat) (s : State) : Host.Outcome State Fault Refusal :=
  .next (whenPowered s (scanPieces pieces))

/-! ## Taps -/

/-- The CHECKED_IN booking of a room's list (R97). -/
def checkedInAt (s : State) (r : RoomNo) : Option Record :=
  (s.listed r).find? fun b => b.state == .checkedIn

/-- The booking id that a BOOK or a MODIFY names. -/
def Request.bookingId? : Request → Option BookingId
  | .book _ ask => some ask.id
  | .modify _ ask => some ask.id
  | .cancel .. | .bookNow .. | .extend .. | .endNow .. | .vacate _ => none

/-- The CHECKED_IN booking that is about to be inserted into a room's list as its partner room: a joined requester
tapped between its two insertions (R38). -/
def insertionDue (s : State) (r : RoomNo) : Option Record :=
  match s.engine.inFlight with
  | some f =>
    match f.phase, f.request.bookingId? with
    | .partner _, some id =>
      (s.record? id).filter fun b => b.state == .checkedIn && decide (besideRoom s b = some r)
    | _, _ => none
  | none => none

/-- The target of a tap: the ARMED booking nearest the head of the list (R94). -/
def tapTarget (s : State) (r : RoomNo) : Option Record := (s.listed r).find? fun b => b.state == .armed

/-- A CHECKED_IN booking in the other list that a joined target stands in (R94, step 3). -/
def checkedInBeside (s : State) (r : RoomNo) (target : Record) : Option Record :=
  ((listRooms s target).filter fun q => q != r).findSome? (checkedInAt s)

/-- The CHECKED_IN booking that is about to enter a list that a target stands in (R97). -/
def enteringBeside (s : State) (target : Record) : Option Record :=
  (listRooms s target).findSome? (insertionDue s)

/-- The target's check-in mode admits a badge (R95). -/
def badgeAdmitted (s : State) (target : Record) (badge : Badge) : Bool :=
  (s.rooms.get target.room).checkIn == .anyTap ||
    match target.organiser with
    | none => true
    | some b => b == badge

/-- A tap that is accepted: the target is CHECKED_IN with the tap's badge (R96). -/
def checkIn (target : Record) (badge : Badge) (s : State) : State :=
  markRecord target
    (updRecord target.id (fun r => { r with state := .checkedIn, badge := some badge }) s)

/-- A tap at a room is judged by R94 and R95 and applied (R96). DESIGN CHOICE (notes/assumptions/59.md): one that would
check its target in beside a CHECKED_IN booking about to enter its list (R97) is answered ALREADY_IN, naming that. -/
def judgeTap (t : Tap) (s : State) : State :=
  match checkedInAt s t.room with
  | some b => answerCall t.place (.refused .alreadyIn (some b.id)) s
  | none =>
    match tapTarget s t.room with
    | none => answerCall t.place (.refused .nothingArmed none) s
    | some target =>
      match checkedInBeside s t.room target with
      | some b => answerCall t.place (.refused .alreadyIn (some b.id)) s
      | none =>
        if badgeAdmitted s target t.badge then
          match enteringBeside s target with
          | some b => answerCall t.place (.refused .alreadyIn (some b.id)) s
          | none => answerCall t.place (.doneFor target.id target.qe) (checkIn target t.badge s)
        else answerCall t.place (.refused .notOrganiser (some target.id)) s

/-- The Booking Store takes the oldest tap handed to it. -/
def takeTap (s : State) : State :=
  match s.deliveries.taps with
  | [] => s
  | t :: rest => judgeTap t { s with deliveries := { s.deliveries with taps := rest } }

/-- TAP (R94). -/
def execTap (s : State) : Host.Outcome State Fault Refusal := .next (whenPowered s takeTap)

end Sys2Proof.Machine
end

