-- ==== Sys2Proof/Machine/Images.lean ====
section
/-!
DEFINITION. The byte images that answers carry (chapter 12): booking records, list entries, table entries,
notices, and the contents of admission responses.
-/

namespace Sys2Proof.Machine

/-! ## Codes -/

def BookingState.code : BookingState → Nat
  | .booked => 0 | .armed => 1 | .checkedIn => 2 | .moving => 3 | .ended => 4 | .released => 5

def EndReason.code : EndReason → Nat
  | .normal => 0 | .early => 1 | .unattended => 2 | .cancelled => 3

def ReleaseReason.code : ReleaseReason → Nat
  | .cancelled => 0 | .noShow => 1 | .unplaced => 2

def OrderState.code : OrderState → Nat
  | .placed => 0 | .dispatched => 1 | .accepted => 2 | .delivered => 3 | .wasted => 4 | .cancelled => 5

def Origin.code : Origin → Nat
  | .uplink => 0 | .panel => 1

def RoomState.code : RoomState → Nat
  | .unconfigured => 0 | .inService => 1 | .held => 2 | .outOfService => 3

def CheckInMode.code : CheckInMode → Nat
  | .anyTap => 0 | .organiser => 1

def MovePolicy.code : MovePolicy → Nat
  | .noDisplace => 0 | .displaceLower => 1

def PanelKind.code : PanelKind → Nat
  | .unbound => 0 | .door => 1 | .pantry => 2

def PanelState.code : PanelState → Nat
  | .unknown => 0 | .present => 1 | .absent => 2 | .muted => 3

def KitchenState.code : KitchenState → Nat
  | .opened => 0 | .paused => 1

def Attr.code : Attr → Nat
  | .normal => 0 | .inverse => 1 | .accent => 2

def Action.code : Action → Nat
  | .count => 0 | .notify => 1 | .notifyAlert => 2 | .hold => 3

def Level.code : Level → Nat
  | .advisory => 0 | .degraded => 1 | .fatal => 2

def LoopState.code : LoopState → Nat
  | .down => 0 | .syncing => 1 | .up => 2 | .broken => 3

def ClockState.code : ClockState → Nat
  | .unset => 0 | .running => 1 | .halted => 2

def OrderResult.code : OrderResult → Nat
  | .none => 0 | .placed => 1 | .dropped => 2 | .cancelled => 3

/-- A flag as a code. -/
def flagCode (b : Bool) : Nat := if b then 1 else 0

/-! ## Booking records (`12` 12.3) -/

/-- The flags of a record: joined, TITLE, ORDER, ORGANISER, check-in badge. -/
def recordFlags (r : Record) : Nat :=
  bits [r.joined, r.title.isSome, r.order.isSome, r.organiser.isSome, r.badge.isSome]

/-- The end or release reason, by the state. -/
def reasonByte (r : Record) : Byte :=
  match r.state with
  | .ended => optByte (r.endReason.map EndReason.code)
  | .released => optByte (r.releaseReason.map ReleaseReason.code)
  | _ => 0xFF#8

/-- Bytes 63 to 93 of a record image. -/
def orderImage : Option Order → Bytes
  | none => List.replicate 31 0xFF#8
  | some o =>
    [byte o.kitchen.val, byte o.offset, byte o.state.code, byte (bits [o.dispatchPending, o.lateMark]),
      byte o.lines.length] ++ word16 o.load ++ word32 o.qd ++ word32 o.qx ++
      o.lines.flatMap (fun l => [byte l.1, byte l.2]) ++ List.replicate (16 - 2 * o.lines.length) 0xFF#8

/-- The 94-byte image of a record. With no TITLE part, its length byte is 0 and its 24 glyphs are 20h, as an empty glyph
field has them; `12` 12.3 gives no bytes for an absent title, and this is DESIGN CHOICE (notes/assumptions/48.md). -/
def recordImage (r : Record) : Bytes :=
  word16 r.id.toNat ++ [byte r.room.val, byte (recordFlags r), byte r.cls, byte r.origin.code] ++
    word16 r.attendees ++ [byte r.state.code, reasonByte r] ++ word32 r.qs ++ word32 r.qe ++ word32 r.ss ++
    word32 r.se ++ word32 r.retireGrain ++ word32 (r.badge.map (·.toNat) |>.getD 0) ++
    word32 (r.organiser.map (·.toNat) |>.getD 0) ++ glyphField 24 (r.title.getD []) ++ orderImage r.order

/-- The store summary: free count and record count (R44). -/
def storeSummary (s : State) : Bytes := word16 (freeCount s) ++ word16 s.store.records.length

/-- One entry of a LIST_ROOM answer. -/
def listEntry (r : Record) : Bytes :=
  word16 r.id.toNat ++ [byte r.room.val, byte (recordFlags r), byte r.cls, byte r.state.code,
    optByte (r.order.map fun o => o.state.code), 0x00#8] ++
    word32 r.qs ++ word32 r.qe ++ word32 r.ss ++ word32 r.se

/-! ## Table entries (`12` 12.4, 12.8) -/

/-- The part settings, T0. -/
def settingsImage (s : State) : Bytes :=
  [byte s.settings.windows, byte s.settings.windowTime, byte s.settings.timeout, byte s.ports.node.val] ++
    word16 s.ports.uplinkDrops ++ word16 s.ports.cascadeDrops ++
    [byte (flagCode s.ports.uplinkUp), byte (flagCode s.ports.cascadeUp)]

/-- A room entry, T1. -/
def roomImage (e : Room) : Bytes :=
  [byte e.state.code, byte (bits [e.capacityLocked, e.partnerLocked, e.vacatePending]), byte e.capacity,
    optByte (e.partner.map (·.val)), byte e.setup, byte e.turnaround, byte e.grace, byte e.earlyWindow,
    byte e.checkIn.code, byte e.policy.code, optByte (e.kitchen.map (·.val)), byte e.alternates.length] ++
    e.alternates.map (fun r => byte r.val) ++ List.replicate (8 - e.alternates.length) 0xFF#8 ++
    [byte e.pointer] ++ glyphField 24 e.name

/-- A panel entry, T2. -/
def panelImage (p : Panel) : Bytes :=
  [byte p.kind.code, byte p.binding, optByte p.window, byte p.state.code, byte p.misses, byte p.violations]

/-- A menu entry, T3. -/
def itemImage (m : MenuItem) : Bytes :=
  [byte m.weight, byte m.lead, m.mask] ++ glyphField 16 m.name

/-- A kitchen entry, T4. -/
def kitchenImage (k : Kitchen) : Bytes :=
  [byte k.state.code, byte k.acceptLimit, optByte (k.pantry.map address)] ++ glyphField 16 k.name

/-- A kitchen's capacity profile, T5. -/
def profileImage (t : Tab Nat 96) : Bytes := t.cells.flatMap word16

/-- One row of cells, 48 bytes. -/
def rowImage (r : Row) : Bytes := r.cells.flatMap fun c => [c.glyph, byte c.attr.code]

/-- An overlay, T6. -/
def overlayImage (o : Rows) : Bytes := o.cells.flatMap rowImage

/-- A disposition, T7. -/
def dispositionImage (d : Disposition) : Bytes := [byte d.action.code, byte d.level.code]

/-- The loop status, T8. -/
def loopImage (l : Loop) : Bytes :=
  [byte l.state.code, byte (flagCode l.signal), byte (flagCode l.lossLatch), byte l.active.windows,
    byte l.active.windowTime, byte l.active.timeout, byte l.currentWindow, byte l.cycleCount] ++
    word16 l.checkFailures ++ word16 l.strays

/-- The image of an absent entry: 46 bytes, all ones (R166). -/
def absentImage : Bytes := List.replicate 46 0xFF#8

/-- The image of a table entry as it stands (R166). -/
def tableImage (s : State) (table index : Nat) : Bytes :=
  match table with
  | 0 => if index = 0 then settingsImage s else absentImage
  | 1 => match roomNo? index with
    | some r => roomImage (s.rooms.get r)
    | none => absentImage
  | 2 => match addr? index with
    | some a => panelImage (s.panels.get a)
    | none => absentImage
  | 3 => match itemNo? index with
    | some i => itemImage (s.menu.get i)
    | none => absentImage
  | 4 => match kitchenNo? index with
    | some k => kitchenImage (s.kitchens.get k)
    | none => absentImage
  | 5 => match kitchenNo? index with
    | some k => profileImage (s.profile.get k)
    | none => absentImage
  | 6 => match kitchenNo? index with
    | some k => overlayImage (s.overlays.get k)
    | none => absentImage
  | 7 => match classNo? index with
    | some c => dispositionImage (s.dispositions.get c)
    | none => absentImage
  | 8 => if index = 0 then loopImage s.loop else absentImage
  | _ => absentImage

/-! ## Notices (`12` 12.6) -/

/-- The subject field of a notice. -/
def subjectImage : Subject → Bytes
  | .booking id => word16 id.toNat
  | .room r => word16 r.val
  | .kitchen k => word16 k.val
  | .panel n => word16 n
  | .none => [0xFF#8, 0xFF#8]

/-- The 12-byte image of a notice. -/
def noticeImage (n : Notice) : Bytes :=
  [byte n.cls.number.val, 0x00#8] ++ subjectImage n.subject ++ word32 n.detail.toNat ++ word32 n.stamp

/-! ## Admission responses (R63, R67, `12` 12.7) -/

/-- The contents of a DONE of BOOK or MODIFY: the record as placed, the order state now, and the figures. -/
def admissionContents (r : Record) (orderState : Option OrderState) (clamped : Bool) (result : OrderResult)
    (n : Figures) : Bytes :=
  word16 r.id.toNat ++ [byte r.state.code, byte r.room.val, byte (bits [r.joined, clamped, n.overflow]),
    byte result.code, optByte (orderState.map OrderState.code), 0x00#8] ++
    word32 r.qs ++ word32 r.qe ++ word32 r.ss ++ word32 r.se ++
    word16 n.displaced ++ word16 n.elsewhere ++ word16 n.unplaced

/-- The contents of a DONE of CANCEL. -/
def cancelContents (r : Record) : Bytes :=
  word16 r.id.toNat ++ [byte r.state.code, reasonByte r, optByte (r.order.map fun o => o.state.code), 0x00#8] ++
    word32 r.qe ++ word32 r.se

end Sys2Proof.Machine
end

