-- ==== Sys2Proof/Machine/Admission.lean ====
section
/-!
DEFINITION. The Admission Engine's requests and checks (chapter 4): the form of BOOK, MODIFY and CANCEL and
their joining of the queue, the checks and placement of each kind in flight, and the meanings of BOOK,
MODIFY, CANCEL, ADMISSION_CHECK, BOOK_NOW, EXTEND and END_NOW. The chain that a displacement begins is in
`Machine/Moves.lean`.
-/

namespace Sys2Proof.Machine

/-! ## Form (R48) -/

/-- A TITLE of 1 to 24 glyphs. -/
def titleForm (g : GlyphField) : Bool := decide (1 ≤ g.length) && decide (g.length ≤ 24)

/-- The lines an ORDER counts. -/
def askLines (o : OrderAsk) : List (Nat × Nat) := o.lines.take o.count

/-- An ORDER: offset 0 to 6, 1 to 8 lines, each of quantity 1 to 99. -/
def orderForm (o : OrderAsk) : Bool :=
  decide (o.offset ≤ 6) && decide (1 ≤ o.count) && decide (o.count ≤ 8) &&
    (askLines o).all fun l => decide (1 ≤ l.2) && decide (l.2 ≤ 99)

/-- A part that is not given meets its condition. -/
def partForm {α : Type} (p : α → Bool) : Option α → Bool
  | none => true
  | some a => p a

/-- 1 to 500 attendees. -/
def attendeesForm (n : Nat) : Bool := decide (1 ≤ n) && decide (n ≤ 500)

/-- The form of a BOOK (R48). -/
def bookForm (b : BookAsk) : Bool :=
  decide (b.room < 96) && attendeesForm b.attendees && decide (b.minute < 1440) &&
    partForm titleForm b.title && partForm orderForm b.order

/-- A MODIFY names a field. -/
def namesField (m : ModifyAsk) : Bool :=
  m.times.isSome || m.room.isSome || m.attendees.isSome || m.title.isSome || m.order.isSome ||
    m.organiser.isSome

/-- The form of a MODIFY (R48). -/
def modifyForm (m : ModifyAsk) : Bool :=
  namesField m && partForm (fun t => decide (t.minute < 1440)) m.times &&
    partForm (fun r => decide (r < 96)) m.room && partForm attendeesForm m.attendees &&
    partForm (partForm titleForm) m.title && partForm (partForm orderForm) m.order

/-! ## Joining the queue (R49) -/

/-- An uplink request that has passed its form check joins the queue, or is answered BUSY. -/
def offerUplink (via : Via) (k : Kind) (r : Request) (s : State) : State :=
  if queueFull s then respond via k .busy s else joinQueue r s

/-- A BOOK is form-checked and queued. -/
def takeBook (via : Via) (ask : BookAsk) (s : State) : State :=
  if bookForm ask then offerUplink via .book (.book via ask) s else respond via .book .malformed s

/-- A MODIFY is form-checked and queued. -/
def takeModify (via : Via) (ask : ModifyAsk) (s : State) : State :=
  if modifyForm ask then offerUplink via .modify (.modify via ask) s else respond via .modify .malformed s

/-- A CANCEL is queued. -/
def takeCancel (via : Via) (id : BookingId) (s : State) : State :=
  offerUplink via .cancel (.cancel via id) s

/-- BOOK (R47 to R49). -/
def execBook (via : Via) (ask : BookAsk) (s : State) : Host.Outcome State Fault Refusal :=
  .next (whenTaking s (takeBook via ask))

/-- MODIFY (R47 to R49). -/
def execModify (via : Via) (ask : ModifyAsk) (s : State) : Host.Outcome State Fault Refusal :=
  .next (whenTaking s (takeModify via ask))

/-- CANCEL (R47 to R49). -/
def execCancel (via : Via) (id : BookingId) (s : State) : Host.Outcome State Fault Refusal :=
  .next (whenTaking s (takeCancel via id))

/-! ## Completion (R53) -/

/-- The answer goes where the entry came from, and the engine takes its next entry. -/
def complete (f : Flight) (up : Answer) (panel : CallAnswer) (s : State) : State :=
  endFlight <| match f.request with
    | .book via _ => respond via .book up s
    | .modify via _ => respond via .modify up s
    | .cancel via _ => respond via .cancel up s
    | .bookNow p _ _ | .extend p _ | .endNow p _ => answerCall p panel s
    | .vacate _ => s

/-- The checks end in a refusal; a CONFLICT names the first conflicting booking (R57, R63). -/
def refuse (f : Flight) (r : Reason) (named : Option BookingId) (s : State) : State :=
  complete f ⟨.refused, some r, (named.map fun id => word16 id.toNat).getD []⟩ (.refused r named) s

/-- The duration refusal: the status MALFORMED (R58). -/
def refuseMalformed (f : Flight) (s : State) : State := complete f .malformed (.bare .malformed) s

/-- The check passes: the next step of the rule's table is due. -/
def advance (f : Flight) (step : Nat) (s : State) : State := setFlight { f with phase := .check step } s

/-- A check that either passes to the next step or ends in a refusal. -/
def checkOr (ok : Bool) (f : Flight) (r : Reason) (next : Nat) (s : State) : State :=
  if ok then advance f next s else refuse f r none s

/-- A room number that has passed its form check. -/
def asRoom (n : Nat) : RoomNo := (roomNo? n).getD 0

/-- A room is IN_SERVICE. -/
def inService (s : State) (r : RoomNo) : Bool := (s.rooms.get r).state == .inService

/-- The pair check of a joined request: its room mutually paired, and the partner IN_SERVICE (R16, R58). Its own
room has been found IN_SERVICE at the step before, and is not judged again (R51). -/
def pairedInService (s : State) (r : RoomNo) : Bool :=
  match partnerOf s r with
  | some q => inService s q
  | none => false

/-- The seats a request is checked against (R16, R58). -/
def seats (s : State) (r : RoomNo) (joined : Bool) : Nat :=
  (s.rooms.get r).capacity + (if joined then
    ((s.rooms.get r).partner.map fun q => (s.rooms.get q).capacity).getD 0 else 0)

/-! ## The admission arithmetic (R54) -/

/-- The start grain of a day and start minute. -/
def startGrain (day minute : Nat) : Nat := day * Config.dayGrains + minute / 5

/-- The end grain of a day, start minute and duration. -/
def endGrain (day minute duration : Nat) : Nat := day * Config.dayGrains + (minute + duration + 4) / 5

/-! ## Conflict and displacement (R57, R61, R72) -/

/-- The records that conflict with a requester's span in its room's list and, when joined, in its partner's. -/
def requesterConflicts (s : State) (room : RoomNo) (joined : Bool) (sp : Span) (own : Option BookingId) :
    List Record × List Record :=
  (conflictsIn s room sp own,
    if joined then ((s.rooms.get room).partner.map fun q => conflictsIn s q sp own).getD [] else [])

/-- The displacement conditions for the bookings conflicting in one room's list (R72). -/
def mayDisplace (s : State) (room : RoomNo) (cls : Nat) (cs : List Record) : Bool :=
  cs.isEmpty || ((s.rooms.get room).policy == .displaceLower &&
    cs.all fun r => r.state == .booked && decide (r.cls < cls) && !r.joined && r.origin != .panel)

/-- The conditions of R72 in both lists of a requester. -/
def mayDisplaceAll (s : State) (room : RoomNo) (cls : Nat) (cs : List Record × List Record) : Bool :=
  mayDisplace s room cls cs.1 &&
    ((s.rooms.get room).partner.map fun q => mayDisplace s q cls cs.2).getD cs.2.isEmpty

/-- The bookings of a displacement in the order they are pushed: ascending Ss, the requester's room's list
first where two are level (R74). -/
def pushOrder (cs : List Record × List Record) : List BookingId :=
  (sortBy (fun a b => decide (a.ss < b.ss)) (cs.1 ++ cs.2)).map (·.id)

/-! ## The order check (R60, R65) -/

/-- The answer of a judgement is acted on: FITS places the judged order, KITCHEN_FULL drops it or ends the
admission, by CATERING_REQUIRED (R60). -/
def actOnJudgement (j : Judgement) (required : Bool) (f : Flight) (s : State) : State :=
  match j with
  | .fits o => advance { f with settlement := .place o, orderResult := .placed } 12 s
  | .badItem => refuse f .badItem none s
  | .orderLate => refuse f .orderLate none s
  | .kitchenFull =>
    if required then refuse f .kitchenFull none s
    else advance { f with settlement := .remove, orderResult := .dropped } 12 s

/-! ## BOOK (R58 to R63) -/

/-- The cells a BOOK is checked for (R30). -/
def bookCells (ask : BookAsk) : Nat :=
  cellCount ask.title.isSome (ask.order.map fun o => o.count) ask.organiser.isSome

/-- Step 12 of a BOOK (R61). -/
def bookConflict (ask : BookAsk) (f : Flight) (s : State) : State :=
  let room := asRoom ask.room
  let sp := spanIn (s.rooms.get room) f.qs f.qe
  let cs := requesterConflicts s room ask.joined sp none
  match cs.1 ++ cs.2 with
  | [] => setFlight { f with span := sp, phase := .place } s
  | first :: _ =>
    if mayDisplaceAll s room f.cls cs then
      setFlight { f with span := sp, phase := .displaceRequester (pushOrder cs) } s
    else refuse f .conflict (some first.id) s

/-- One check of a BOOK (R58). -/
def bookCheck (ask : BookAsk) (f : Flight) (step : Nat) (s : State) : State :=
  let room := asRoom ask.room
  match step with
  | 1 => checkOr s.clock.valid f .noClock 2 s
  | 2 => checkOr (decide (ask.id < Config.walkInBase)) f .reservedId 3 s
  | 3 => checkOr (s.record? ask.id).isNone f .duplicateId 4 s
  | 4 => checkOr (inService s room) f .roomUnavailable 5 s
  | 5 => checkOr (!ask.joined || pairedInService s room) f .notPaired 6 s
  | 6 =>
    if ask.duration = 0 then refuseMalformed f s
    else advance { f with duration := min ask.duration Config.maxDuration,
                          clamped := f.clamped || decide (Config.maxDuration < ask.duration) } 7 s
  | 7 => advance { f with cls := min ask.cls 3, clamped := f.clamped || decide (3 < ask.cls) } 8 s
  | 8 => checkOr (decide (ask.attendees ≤ seats s room ask.joined)) f .overCapacity 9 s
  | 9 =>
    let qs := startGrain ask.day ask.minute
    let qe := endGrain ask.day ask.minute f.duration
    if qs < s.grain then refuse f .past none s
    else checkOr (decide (qe ≤ s.clock.horizonEnd)) { f with qs := qs, qe := qe } .beyondHorizon 10 s
  | 10 => checkOr (decide (bookCells ask ≤ freeCount s)) f .storeFull 11 s
  | 11 =>
    match ask.order with
    | none => advance f 12 s
    | some o =>
      actOnJudgement (judgeOrder s (s.rooms.get room).kitchen o.offset (askLines o) f.qs none)
        ask.cateringRequired f s
  | _ => bookConflict ask f s

/-- The state a placement gives: ARMED at or past Qs less the early window, else BOOKED (R62, R79). -/
def placedState (s : State) (room : RoomNo) (qs : Nat) : BookingState :=
  if qs ≤ s.grain + (s.rooms.get room).earlyWindow then .armed else .booked

/-- The number of lines of a settled order part. -/
def Settlement.lineCount : Settlement → Option Nat
  | .place j => some j.lines.length
  | _ => none

/-- The record a BOOK creates, before its order is written (R62, step 2). DESIGN CHOICE (notes/assumptions/62.md): until
step 5 writes its fields the ORDER part reads as absent, though its cells are held, and the retire grain is Se until
step 6 (notes/assumptions/63.md). -/
def bookRecord (ask : BookAsk) (f : Flight) (cells : List Nat) (state : BookingState) : Record :=
  { id := ask.id, room := asRoom ask.room, joined := ask.joined, cls := f.cls, attendees := ask.attendees,
    origin := .uplink, qs := f.qs, qe := f.qe, ss := f.span.first, se := f.span.last, state := state,
    endReason := none, releaseReason := none, badge := none, retireGrain := f.span.last,
    title := ask.title.map (glyphsOf 24), order := none, organiser := ask.organiser, cells := cells }

/-- A record is given its index entry (R35). -/
def addRecord (r : Record) (s : State) : State :=
  { s with store := { s.store with records := s.store.records ++ [r] } }

/-- The judged order of a settlement is placed with its booking, where that still stands in the store (R62,
step 5). -/
def placeSettled (id : BookingId) (t : Settlement) (s : State) : State :=
  match t, s.record? id with
  | .place j, some _ => placeOrder id j s
  | _, _ => s

/-- The order result of a record whose order has just been placed (R63): CANCELLED where R110 wrote it so, and where
there is no record any more to write it in (notes/assumptions/57.md). -/
def orderResultOf (f : Flight) (r : Option Record) : OrderResult :=
  match f.settlement, r.bind (·.order) with
  | .place _, some o => if o.state = .cancelled then .cancelled else .placed
  | .place _, none => .cancelled
  | _, _ => f.orderResult

/-- The order result of a flight is the one that its settlement has just had (R63, R110). -/
def Flight.resulted (f : Flight) (r : Option Record) : Flight := { f with orderResult := orderResultOf f r }

/-- The requester has been placed: the chain runs where a displacement left frames, and the admission
completes where none are left (R76). -/
def placedThen (f : Flight) (s : State) : State := setFlight { f with phase := .serve } s

/-- The requester's record is inserted into its room's list; a joined one waits for its second insertion, which is
the engine's next step, and any other goes on with `onward` (R38). -/
def insertThen (r : Record) (refused : Option BookingId) (f : Flight) (onward : State → State) (s : State) :
    State :=
  let s := insertRecord r s
  match besideRoom s r with
  | some _ => setFlight { f with phase := .partner refused } s
  | none => onward s

/-- The answer to a BOOK or MODIFY that completes (R63). The fields are those the record was placed with; the order
state is read at completion, as R66 has it for a MODIFY and as is DESIGN CHOICE for a BOOK
(notes/assumptions/51.md). -/
def doneAnswer (f : Flight) (s : State) : Answer :=
  match f.placed with
  | some r =>
    let now := ((s.record? r.id).getD r).order.map fun o => o.state
    .done (admissionContents r now f.clamped f.orderResult f.figures)
  | none => .done []

/-- The flight in hand ends where its stack is empty (R76). -/
def completeIfServed (s : State) : State :=
  match s.engine.inFlight with
  | some f =>
    if f.phase = .serve ∧ f.stack = [] then complete f (doneAnswer f s) (.bare .done) s else s
  | none => s

/-- Steps 5 and 6 of R62. -/
def finishBook (id : BookingId) (f : Flight) (s : State) : State :=
  let s := recomputeRetire id (placeSettled id f.settlement s)
  completeIfServed (placedThen (f.resulted (s.record? id)) s)

/-- The placement of a BOOK, to the first of its insertions, and for an unjoined one to its end (R62). -/
def placeBook (ask : BookAsk) (f : Flight) (s : State) : State :=
  let n := cellCount ask.title.isSome f.settlement.lineCount ask.organiser.isSome
  let cells := s.store.free.take n
  let s := allocate n s
  let r := bookRecord ask f cells (placedState s (asRoom ask.room) f.qs)
  let f := { f with placed := some r }
  insertThen r none f (finishBook ask.id f) (addRecord r s)

/-! ## MODIFY (R64 to R66) -/

/-- The resulting room of a MODIFY (R64). -/
def resultRoom (ask : ModifyAsk) (r : Record) : RoomNo := (ask.room.map asRoom).getD r.room

/-- A MODIFY touches the order (R65). -/
def touchesOrder (ask : ModifyAsk) (f : Flight) (r : Record) : Bool :=
  ask.order.isSome || (r.order.isSome && (f.qs != r.qs || resultRoom ask r != r.room))

/-- An order that a MODIFY may not touch: DISPATCHED, ACCEPTED or DELIVERED (R65). -/
def orderInService (r : Record) : Bool :=
  match r.order with
  | some o => o.ticketed || o.state == .delivered
  | none => false

/-- A MODIFY with a list edit: it names times or the room (R66). -/
def editsLists (ask : ModifyAsk) : Bool := ask.times.isSome || ask.room.isSome

/-- The cells of a record after a MODIFY, its order part having `order` lines. -/
def modifiedCells (ask : ModifyAsk) (r : Record) (order : Option Nat) : Nat :=
  cellCount ((ask.title.map Option.isSome).getD r.title.isSome) order
    ((ask.organiser.map Option.isSome).getD r.organiser.isSome)

/-- The number of lines of the order part a MODIFY asks for (R30: the check counts it as present). -/
def askedLines (ask : ModifyAsk) (r : Record) : Option Nat :=
  match ask.order with
  | some o => o.map fun a => a.count
  | none => r.order.map fun o => o.lines.length

/-- Step 11 of a MODIFY: what order is judged (R65). The record's own order keeps its Qd and Qx unless Qs changes
(R108). That its load is computed anew when it is judged for another room is DEDUCED (notes/assumptions/54.md). -/
def modifyOrder (ask : ModifyAsk) (f : Flight) (r : Record) (s : State) : State :=
  if touchesOrder ask f r then
    let kitchen := (s.rooms.get (resultRoom ask r)).kitchen
    match ask.order, r.order with
    | some none, _ => advance { f with settlement := .remove } 12 s
    | some (some o), own =>
      actOnJudgement (judgeOrder s kitchen o.offset (askLines o) f.qs own) ask.cateringRequired f s
    | none, some o =>
      if o.state = .cancelled then advance f 12 s
      else
        let j := if f.qs = r.qs then judgeKept s kitchen o
          else judgeOrder s kitchen o.offset o.lines f.qs (some o)
        actOnJudgement j ask.cateringRequired f s
    | none, none => advance f 12 s
  else advance f 12 s

/-- The record of a refused MODIFY is put back at its old place, in the state that step 1 of R66 found it in (R73).
Nothing else of it has been changed by the MODIFY. Its order stands as the Catering Scheduler has it now: an ACCEPT,
a DELIVERED or a cut that reached it while it was MOVING is kept, so that it goes on agreeing with its ticket and
its load (R86, R105, R112); that is DESIGN CHOICE, since R73 speaks of its old order (notes/assumptions/49.md). -/
def restoreTaken (t : Record) (first : BookingId) (f : Flight) (s : State) : State :=
  let s := updRecord t.id (fun q => { q with state := t.state }) s
  match s.record? t.id with
  | none => refuse f .conflict (some first) s
  | some r => insertThen r (some first) f (refuse f .conflict (some first)) s

/-- A MODIFY is refused CONFLICT, its record put back where step 1 of R66 has taken it out (R64, R73). -/
def refuseConflict (first : BookingId) (f : Flight) (s : State) : State :=
  match f.taken with
  | some t => restoreTaken t first f s
  | none => refuse f .conflict (some first) s

/-- Step 12 of a MODIFY (R64, R73): before step 1 of R66 it leads to that step, after it to the placement. -/
def modifyConflict (ask : ModifyAsk) (f : Flight) (r : Record) (s : State) : State :=
  if editsLists ask then
    let room := resultRoom ask r
    let sp := spanIn (s.rooms.get room) f.qs f.qe
    let cs := requesterConflicts s room r.joined sp (some r.id)
    let f := { f with span := sp }
    match cs.1 ++ cs.2 with
    | [] => setFlight { f with phase := if f.taken.isSome then .place else .take [] } s
    | first :: _ =>
      if mayDisplaceAll s room f.cls cs then
        setFlight { f with phase := if f.taken.isSome then .displaceRequester (pushOrder cs)
                                    else .take (pushOrder cs) } s
      else refuseConflict first.id f s
  else setFlight { f with phase := .take [] } s

/-- Step 8 of a MODIFY (R64). -/
def modifyTimes (ask : ModifyAsk) (f : Flight) (r : Record) (s : State) : State :=
  match ask.times with
  | none => advance { f with qs := r.qs, qe := r.qe } 9 s
  | some t =>
    let qs := startGrain t.day t.minute
    let qe := endGrain t.day t.minute f.duration
    if (qs < s.grain ∧ qs ≠ r.qs) ∨ qe ≤ s.grain then refuse f .past none s
    else checkOr (decide (qe ≤ s.clock.horizonEnd)) { f with qs := qs, qe := qe } .beyondHorizon 9 s

/-- One check of a MODIFY from its step 3 on, with the record it names (R64). -/
def modifyCheckRecord (ask : ModifyAsk) (f : Flight) (r : Record) (step : Nat) (s : State) : State :=
  let room := resultRoom ask r
  match step with
  | 3 => checkOr (r.state == .booked || r.state == .armed) { f with cls := r.cls } .notLive 4 s
  | 4 => checkOr (inService s room) f .roomUnavailable 5 s
  | 5 => checkOr (!r.joined || pairedInService s room) f .notPaired 6 s
  | 6 =>
    match ask.times with
    | none => advance f 7 s
    | some t =>
      if t.duration = 0 then refuseMalformed f s
      else advance { f with duration := min t.duration Config.maxDuration,
                            clamped := f.clamped || decide (Config.maxDuration < t.duration) } 7 s
  | 7 => checkOr (decide (ask.attendees.getD r.attendees ≤ seats s room r.joined)) f .overCapacity 8 s
  | 8 => modifyTimes ask f r s
  | 9 => checkOr (decide (modifiedCells ask r (askedLines ask r) ≤ freeCount s + r.cells.length)) f .storeFull
      10 s
  | 10 => checkOr (!(touchesOrder ask f r && orderInService r)) f .orderInService 11 s
  | 11 => modifyOrder ask f r s
  | _ => modifyConflict ask f r s

/-- One check of a MODIFY (R64). A record that has retired since its lookup is refused UNKNOWN_ID (R71). -/
def modifyCheck (ask : ModifyAsk) (f : Flight) (step : Nat) (s : State) : State :=
  match step with
  | 1 => checkOr s.clock.valid f .noClock 2 s
  | 2 => checkOr (s.record? ask.id).isSome f .unknownId 3 s
  | _ =>
    match s.record? ask.id with
    | none => refuse f .unknownId none s
    | some r => modifyCheckRecord ask f r step s

/-- The named fields of a MODIFY other than times and room are replaced (R66, step 3). -/
def modifyFields (ask : ModifyAsk) (r : Record) : Record :=
  { r with
    attendees := ask.attendees.getD r.attendees
    title := (ask.title.map fun t => t.map (glyphsOf 24)).getD r.title
    organiser := ask.organiser.getD r.organiser }

/-- The cells a record keeps when its count falls to `n`: its base cell and its lowest others (R30). -/
def keptCells (cells : List Nat) (n : Nat) : List Nat :=
  let gone := (sortBy (fun a b => decide (b < a)) cells.tail).take (cells.length - n)
  cells.filter fun c => !gone.contains c

/-- A record's cells are brought to a count of `n` (R30). -/
def resizeRecord (r : Record) (n : Nat) (s : State) : State :=
  if r.cells.length < n then
    let more := s.store.free.take (n - r.cells.length)
    updRecord r.id (fun q => { q with cells := q.cells ++ more }) (allocate (n - r.cells.length) s)
  else if n < r.cells.length then
    let kept := keptCells r.cells n
    freeCells (r.cells.filter fun c => !kept.contains c) (updRecord r.id (fun q => { q with cells := kept }) s)
  else s

/-- The number of lines of the order part that the settlement leaves a record with. -/
def settledLines (t : Settlement) (r : Record) : Option Nat :=
  match t with
  | .keep => r.order.map fun o => o.lines.length
  | .remove => none
  | .place j => some j.lines.length

/-- The load of a record's own PLACED order is subtracted (R110). -/
def subtractOwn (r : Record) (s : State) : State :=
  match r.order with
  | some o => if o.state = .placed then subtractLoad o.kitchen o.qd o.load s else s
  | none => s

/-- The order of a MODIFY is settled (R66, step 4, R110). -/
def settleOrder (r : Record) (t : Settlement) (s : State) : State :=
  match t with
  | .keep => s
  | .remove => updRecord r.id (fun q => { q with order := none }) (subtractOwn r s)
  | .place j => placeOrder r.id j (subtractOwn r s)

/-- Steps 3 and 4 of R66. -/
def applyFields (ask : ModifyAsk) (f : Flight) (r : Record) (s : State) : State :=
  let s := updRecord r.id (modifyFields ask) s
  let s := resizeRecord r (modifiedCells ask r (settledLines f.settlement r)) s
  settleOrder r f.settlement s

/-- Step 1 of R66: the record is judged and taken out of its lists; a MODIFY without a list edit is applied
in the same step. That it marks its rooms changed is DESIGN CHOICE (notes/assumptions/52.md). -/
def takeModified (ask : ModifyAsk) (bookings : List BookingId) (f : Flight) (s : State) : State :=
  match s.record? ask.id with
  | none => refuse f .unknownId none s
  | some r =>
    if ¬ (r.state = .booked ∨ r.state = .armed) then refuse f .notLive none s
    else if touchesOrder ask f r ∧ orderInService r then refuse f .orderInService none s
    else if editsLists ask then
      let s := updRecord r.id (fun q => { q with state := .moving }) (removeRecord r s)
      setFlight { f with taken := some r,
                         phase := if bookings = [] then .place else .displaceRequester bookings } s
    else
      let s := recomputeRetire r.id (applyFields ask f r s)
      let f := { f.resulted (s.record? r.id) with placed := s.record? r.id }
      completeIfServed (placedThen f (markRecord r s))

/-- The state a modified record takes at step 5 of R66. -/
def modifiedState (taken : Record) (room : RoomNo) (qs : Nat) (s : State) : BookingState :=
  if taken.state = .armed then .armed else placedState s room qs

/-- The record with the times, room, span and state that step 5 of R66 gives it. -/
def Record.replaced (room : RoomNo) (f : Flight) (state : BookingState) (r : Record) : Record :=
  { r with room := room, qs := f.qs, qe := f.qe, ss := f.span.first, se := f.span.last, state := state }

/-- Step 6 of R66. The order result is the one that step 4 had, whatever has become of the order since (R63). -/
def finishModify (id : BookingId) (f : Flight) (s : State) : State :=
  completeIfServed (placedThen f (recomputeRetire id s))

/-- Steps 3 to 6 of R66, with a list edit; for a joined record, to the first of its insertions. DESIGN CHOICE
(notes/assumptions/63.md): the retire grain, which R34 recomputes with the span and R66 after the insertions, stands
as it was until the second insertion. -/
def placeModified (ask : ModifyAsk) (f : Flight) (s : State) : State :=
  match f.taken, s.record? ask.id with
  | some t, some r =>
    let room := resultRoom ask r
    let s := applyFields ask f r s
    let s := updRecord r.id (Record.replaced room f (modifiedState t room f.qs s)) s
    match s.record? r.id with
    | none => refuse f .unknownId none s
    | some r =>
      let f := { f.resulted (some r) with placed := some r }
      insertThen r none f (finishModify r.id f) s
  | _, _ => refuse f .unknownId none s

/-- The second insertion of a joined requester, and what follows it (R38, R62, R66, R73). -/
def partnerStep (refused : Option BookingId) (f : Flight) (s : State) : State :=
  match f.request with
  | .book _ ask => finishBook ask.id f (insertBeside ask.id s)
  | .modify _ ask =>
    let s := insertBeside ask.id s
    match refused with
    | some first => refuse f .conflict (some first) s
    | none => finishModify ask.id f s
  | _ => s

/-! ## CANCEL (R67) -/

/-- The answer to a CANCEL that is DONE: the record as the cancel left it. -/
def cancelAnswer (s : State) (id : BookingId) : Answer :=
  .done (((s.record? id).map cancelContents).getD [])

/-- A CANCEL is judged and applied (R67). -/
def cancelStep (id : BookingId) (f : Flight) (s : State) : State :=
  match s.record? id with
  | none => refuse f .unknownId none s
  | some r =>
    match r.state with
    | .booked | .armed =>
      let s := releaseRecord id .cancelled s
      let a := cancelAnswer s id
      complete f a (.bare .done) (joinRetireList id s)
    | .checkedIn =>
      let s := editRecord r (fun q => (q.earlyEnd s.grain).endedWith .cancelled) s
      let s := recomputeRetire id (releaseOrder id s)
      complete f (cancelAnswer s id) (.bare .done) s
    | .moving | .ended | .released => refuse f .notLive none s

/-! ## Door panel requests (R68 to R70) -/

/-- The offset of the walk-in id the store offers (R36). -/
def walkInOffset (s : State) : Option Nat :=
  ((List.range 256).map fun i => (s.store.walkIn + i) % 256).find? fun n =>
    (s.record? (Config.walkInBase + BitVec.ofNat 16 n)).isNone

/-- The record of a walk-in (R68). -/
def walkInRecord (id : BookingId) (room : RoomNo) (f : Flight) (sp : Span) (cells : List Nat) : Record :=
  { id := id, room := room, joined := false, cls := 0, attendees := 1, origin := .panel, qs := f.qs,
    qe := f.qe, ss := sp.first, se := sp.last, state := .checkedIn, endReason := none, releaseReason := none,
    badge := none, retireGrain := sp.last, title := none, order := none, organiser := none, cells := cells }

/-- A walk-in is placed (R68). -/
def placeWalkIn (room : RoomNo) (n : Nat) (sp : Span) (f : Flight) (s : State) : State :=
  let id := Config.walkInBase + BitVec.ofNat 16 n
  let r := walkInRecord id room f sp (s.store.free.take 1)
  let s := allocate 1 s
  let s := insertRecord r (addRecord r s)
  let s := { s with store := { s.store with walkIn := (n + 1) % 256 } }
  let s := raiseFor .walkIn r room.val s
  complete f (.done []) (.doneFor id f.qe) s

/-- Steps 6 to 8 of a BOOK_NOW and its placement, in one step at the store (R68). -/
def bookNowAtStore (room : RoomNo) (f : Flight) (s : State) : State :=
  let sp := spanIn (s.rooms.get room) f.qs f.qe
  if (checkedInAt s room).isSome then refuse f .alreadyIn none s
  else match walkInOffset s with
    | none => refuse f .storeFull none s
    | some n =>
      match conflictsIn s room sp none with
      | c :: _ => refuse f .conflict (some c.id) s
      | [] => placeWalkIn room n sp f s

/-- One check of a BOOK_NOW (R68). -/
def bookNowCheck (room : RoomNo) (choice : Nat) (f : Flight) (step : Nat) (s : State) :
    State :=
  match step with
  | 1 => checkOr s.clock.valid f .noClock 2 s
  | 2 => checkOr (inService s room) f .roomUnavailable 3 s
  | 3 => checkOr (decide (1 ≤ (s.rooms.get room).capacity)) f .overCapacity 4 s
  | 4 =>
    let qs := s.grain
    let qe := endGrain (dayOf qs) (5 * (qs % Config.dayGrains)) (15 * choice)
    checkOr (decide (qe ≤ s.clock.horizonEnd)) { f with qs := qs, qe := qe } .beyondHorizon 5 s
  | 5 => checkOr (decide (1 ≤ freeCount s)) f .storeFull 6 s
  | _ => bookNowAtStore room f s

/-- The store's step of an EXTEND (R69). A CONFLICT names the first conflicting booking of the record's room's list
and then of its partner's; that this order goes by the record's room and not by the calling panel's is DESIGN CHOICE
(notes/assumptions/50.md). -/
def extendAtStore (room : RoomNo) (f : Flight) (s : State) : State :=
  match checkedInAt s room with
  | none => refuse f .notLive none s
  | some r =>
    let e := r.extended
    if s.clock.horizonEnd < e.qe then refuse f .beyondHorizon none s
    else match (listRooms s r).flatMap fun q => conflictsIn s q ⟨e.ss, e.se⟩ (some r.id) with
      | c :: _ => refuse f .conflict (some c.id) s
      | [] => complete f (.done []) (.doneFor r.id e.qe) (editRecord r Record.extended s)

/-- One check of an EXTEND. -/
def extendCheck (room : RoomNo) (f : Flight) (step : Nat) (s : State) : State :=
  match step with
  | 1 => checkOr s.clock.valid f .noClock 2 s
  | _ => extendAtStore room f s

/-- The store's step of an END_NOW (R70). -/
def endNowAtStore (room : RoomNo) (f : Flight) (s : State) : State :=
  match checkedInAt s room with
  | none => refuse f .notLive none s
  | some r =>
    complete f (.done []) (.doneFor r.id (r.earlyEnd s.grain).qe)
      (editRecord r (fun q => (q.earlyEnd s.grain).endedWith .early) s)

/-- One check of an END_NOW. -/
def endNowCheck (room : RoomNo) (f : Flight) (step : Nat) (s : State) : State :=
  match step with
  | 1 => checkOr s.clock.valid f .noClock 2 s
  | _ => endNowAtStore room f s

/-! ## The engine's next check (R51) -/

/-- The check that is due of the request in flight. -/
def checkStep (f : Flight) (step : Nat) (s : State) : State :=
  match f.request with
  | .book _ ask => bookCheck ask f step s
  | .modify _ ask => modifyCheck ask f step s
  | .cancel _ id => cancelStep id f s
  | .bookNow _ r c => bookNowCheck r c f step s
  | .extend _ r => extendCheck r f step s
  | .endNow _ r => endNowCheck r f step s
  | .vacate _ => s

/-- The placement that is due of the request in flight. -/
def placeStep (f : Flight) (s : State) : State :=
  match f.request with
  | .book _ ask => placeBook ask f s
  | .modify _ ask => placeModified ask f s
  | _ => s

/-- The engine's next check or placement step, where that is what is due (R51). -/
def admissionStep (s : State) : State :=
  match s.engine.inFlight with
  | none => s
  | some f =>
    match f.phase with
    | .check step => checkStep f step s
    | .take bookings =>
      match f.request with
      | .modify _ ask => takeModified ask bookings f s
      | _ => s
    | .place => placeStep f s
    | .partner refused => partnerStep refused f s
    | .serve =>
      match f.request with
      | .vacate _ => s
      | _ => completeIfServed s
    | _ => s

/-- What every step of the engine begins with: a free place goes to a pending VACATE (R24). -/
def engineStep (f : State → State) (s : State) : State := whenPowered s fun s => f (queuePendingVacate s)

/-- ADMISSION_CHECK (R51). -/
def execAdmissionCheck (s : State) : Host.Outcome State Fault Refusal := .next (engineStep admissionStep s)

/-- The checks of the request in flight, one after another to its completion, where `p` holds of it. -/
def judgeWhole (p : Request → Bool) : Nat → State → State
  | 0, s => s
  | n + 1, s =>
    match s.engine.inFlight with
    | none => s
    | some f =>
      if p f.request then
        match f.phase with
        | .check step =>
          let s' := checkStep f step s
          if (s'.engine.inFlight.map (·.phase)) = some (.check (step + 1)) then judgeWhole p n s' else s'
        | _ => s
      else s

def Request.isBookNow : Request → Bool
  | .bookNow _ _ _ => true
  | _ => false

def Request.isExtend : Request → Bool
  | .extend _ _ => true
  | _ => false

def Request.isEndNow : Request → Bool
  | .endNow _ _ => true
  | _ => false

/-- BOOK_NOW (R68). -/
def execBookNow (s : State) : Host.Outcome State Fault Refusal :=
  .next (engineStep (judgeWhole Request.isBookNow 6) s)

/-- EXTEND (R69). -/
def execExtend (s : State) : Host.Outcome State Fault Refusal :=
  .next (engineStep (judgeWhole Request.isExtend 2) s)

/-- END_NOW (R70). -/
def execEndNow (s : State) : Host.Outcome State Fault Refusal :=
  .next (engineStep (judgeWhole Request.isEndNow 2) s)

end Sys2Proof.Machine
end

