-- ==== Sys2Proof/Machine/Boundaries.lean ====
section
/-!
DEFINITION. The commands that give the Catering Scheduler and the Face Composer their turn on what has been
handed to them: DISPATCH_PASS, ZONE_ROW_RECOMPOSE, ACCEPT and DELIVERED.
-/

namespace Sys2Proof.Machine

/-! ## The dispatch pass (R111) -/

/-- The pass in hand is replaced. -/
def setPass (w : Option Walk) (s : State) : State :=
  { s with deliveries := { s.deliveries with pass := w } }

/-- The oldest boundary delivered to the scheduler begins a pass, where none is under way, in any clock state (R6; DESIGN
CHOICE for one raised before the clock halted, notes/assumptions/61.md). -/
def beginPass (s : State) : State :=
  match s.deliveries.pass, s.deliveries.cateringBoundaries with
  | none, g :: rest =>
    { s with deliveries := { s.deliveries with pass := some ⟨g, 0⟩, cateringBoundaries := rest } }
  | _, _ => s

/-- One piece of a pass: the next kitchen. -/
def passPiece (s : State) : State :=
  let s := beginPass s
  match s.deliveries.pass with
  | none => s
  | some w =>
    match kitchenNo? w.next with
    | some k => setPass (if w.next < 7 then some { w with next := w.next + 1 } else none) (passKitchen k w.grain s)
    | none => setPass none s

/-- Pieces of one pass, to its end at most. -/
def passPieces : Nat → State → State
  | 0, s => s
  | n + 1, s =>
    let s' := passPiece s
    if s'.deliveries.pass = none then s' else passPieces n s'

/-- DISPATCH_PASS (R111). -/
def execDispatchPass (pieces : Nat) (s : State) : Host.Outcome State Fault Refusal :=
  .next (whenPowered s (passPieces pieces))

/-! ## The recomposition at a boundary (R125) -/

/-- The recomposition in hand is replaced. -/
def setRecompose (w : Option Walk) (s : State) : State :=
  { s with deliveries := { s.deliveries with recompose := w } }

/-- The oldest boundary delivered to the composer begins a recomposition, where none is under way. -/
def beginRecompose (s : State) : State :=
  match s.deliveries.recompose, s.deliveries.faceBoundaries with
  | none, g :: rest =>
    { s with deliveries := { s.deliveries with recompose := some ⟨g, 0⟩, faceBoundaries := rest } }
  | _, _ => s

/-- One piece of a recomposition: the next room. -/
def recomposePiece (s : State) : State :=
  let s := beginRecompose s
  match s.deliveries.recompose with
  | none => s
  | some w =>
    match roomNo? w.next with
    | some r =>
      setRecompose (if w.next < 95 then some { w with next := w.next + 1 } else none) (recomposeRoom r w.grain s)
    | none => setRecompose none s

/-- Pieces of one recomposition, to its end at most. -/
def recomposePieces : Nat → State → State
  | 0, s => s
  | n + 1, s =>
    let s' := recomposePiece s
    if s'.deliveries.recompose = none then s' else recomposePieces n s'

/-- The composer's work goes on only while the clock is RUNNING: in UNSET and HALTED no boundary reaches it, the zone
rows keep their content, and the marks wait (R125). DESIGN CHOICE (notes/assumptions/61.md): a boundary raised before
the clock halted, and the rest of a recomposition under way then, wait until it runs again. -/
def takeRecompose (pieces : Nat) (s : State) : State :=
  if s.clock.state = .running then recomposePieces pieces s else s

/-- ZONE_ROW_RECOMPOSE (R125). -/
def execZoneRowRecompose (pieces : Nat) (s : State) : Host.Outcome State Fault Refusal :=
  .next (whenPowered s (takeRecompose pieces))

/-! ## Pantry calls (R114, R115) -/

/-- The scheduler takes the oldest pantry call handed to it, where it is of the kind asked for. -/
def takePantryCall (delivered : Bool) (judge : PantryCall → State → State) (s : State) : State :=
  match s.deliveries.pantryCalls with
  | [] => s
  | c :: rest =>
    if c.delivered = delivered then
      judge c { s with deliveries := { s.deliveries with pantryCalls := rest } }
    else s

/-- ACCEPT (R114). -/
def execAccept (s : State) : Host.Outcome State Fault Refusal :=
  .next (whenPowered s (takePantryCall false acceptTicket))

/-- DELIVERED (R115). -/
def execDelivered (s : State) : Host.Outcome State Fault Refusal :=
  .next (whenPowered s (takePantryCall true deliverTicket))

end Sys2Proof.Machine
end

