-- ==== Sys2Proof/Machine/CampusClock.lean ====
section
/-!
DEFINITION. The campus clock and its reference monitor (chapter 1), with what a day rollover and a backward
set do to the load pages (R106, R107); and the meanings of REFERENCE_EDGE, REFERENCE_LOST, CLOCK_SET,
CLOCK_READ and DAY_ROLLOVER.
-/

namespace Sys2Proof.Machine

/-! ## Boundaries and rollovers (R6, R7) -/

/-- A grain boundary is delivered to its three owners (R6). -/
def raiseBoundary (g : Nat) (s : State) : State :=
  { s with deliveries := { s.deliveries with
      storeBoundaries := s.deliveries.storeBoundaries ++ [g]
      cateringBoundaries := s.deliveries.cateringBoundaries ++ [g]
      faceBoundaries := s.deliveries.faceBoundaries ++ [g] } }

/-- A day rollover from day `old` to day `new` is delivered to the Catering Scheduler (R7). -/
def raiseRollover (old new : Nat) (s : State) : State :=
  { s with deliveries := { s.deliveries with
      rollovers := s.deliveries.rollovers ++ [⟨new, min (new - old) Config.horizonDays⟩] } }

/-! ## The reference (R1, R2) -/

/-- The clock has counted one more second: it has not reached the end of its range (R1). -/
def Clock.nextSecond (c : Clock) : Clock :=
  if c.second < 59 then { c with second := c.second + 1, subSecond := 0 }
  else if c.minute < 1439 then { c with second := 0, minute := c.minute + 1, subSecond := 0 }
  else { c with second := 0, minute := 0, day := c.day + 1, subSecond := 0 }

/-- The clock stands at the last second of its range (R1). -/
def Clock.atEnd (c : Clock) : Bool :=
  c.day == Config.lastDay && c.minute == 1439 && c.second == 59

/-- A RUNNING clock becomes HALTED with its sub-second count 0, and CLOCK_STOPPED is raised (R1, R2). -/
def haltClock (detail : BitVec 32) (s : State) : State :=
  raise .clockStopped .none none detail { s with clock := { s.clock with state := .halted, subSecond := 0 } }

/-- A RUNNING clock counts a second: the boundary and the rollover of the minute it reaches (R1, R6, R7). -/
def countSecond (s : State) : State :=
  if s.clock.atEnd then haltClock 1#32 s
  else
    let old := s.clock
    let new := old.nextSecond
    let s := { s with clock := new }
    let s := if new.minute ≠ old.minute ∧ new.minute % 5 = 0 then raiseBoundary new.grain s else s
    if new.day ≠ old.day then raiseRollover old.day new.day s else s

/-- A RUNNING clock counts an edge (R1). -/
def countEdge (s : State) : State :=
  if s.clock.subSecond + 1 < Config.edgesPerSecond then
    { s with clock := { s.clock with subSecond := s.clock.subSecond + 1 } }
  else countSecond s

/-- An edge of the reference: it is PRESENT, and a RUNNING clock counts (R1, R2). -/
def referenceEdge (s : State) : State :=
  let s := { s with clock := { s.clock with reference := true } }
  if s.clock.state = .running then countEdge s else s

/-- Two seconds without an edge (R2). -/
def referenceLost (s : State) : State :=
  if s.clock.reference then
    let s := { s with clock := { s.clock with reference := false } }
    if s.clock.state = .running then haltClock 0#32 s else s
  else s

/-- REFERENCE_EDGE (R1, R2). -/
def execReferenceEdge (s : State) : Host.Outcome State Fault Refusal := .next (whenPowered s referenceEdge)

/-- REFERENCE_LOST (R2). -/
def execReferenceLost (s : State) : Host.Outcome State Fault Refusal := .next (whenPowered s referenceLost)

/-! ## The load pages and the horizon (R106, R107) -/

/-- The day of the horizon from day `n` that is congruent to page `i`. -/
def horizonDay (n : Nat) (i : Fin 14) : Nat := n + (i.val + 14 - n % 14) % 14

/-- A rollover to day `n` reaches a page (R106). -/
def rollPage (n : Nat) (i : Fin 14) (p : Page) : Page :=
  if p.tag < n then emptyPage (horizonDay n i) else p

/-- Every page is changed, each by its number. -/
def updPages (f : Fin 14 → Page → Page) (s : State) : State :=
  { s with catering := { s.catering with pages := Tab.gen fun i => f i (s.catering.pages.get i) } }

/-- A day rollover is applied (R106). -/
def applyRollover (r : Rollover) (s : State) : State := updPages (rollPage r.day) s

/-- The Catering Scheduler takes the oldest day rollover delivered to it. -/
def takeRollover (s : State) : State :=
  match s.deliveries.rollovers with
  | [] => s
  | r :: rest => applyRollover r { s with deliveries := { s.deliveries with rollovers := rest } }

/-- The rollovers delivered before a backward set are applied before it. -/
def drainRollovers (s : State) : State :=
  s.deliveries.rollovers.foldl (fun s r => applyRollover r s)
    { s with deliveries := { s.deliveries with rollovers := [] } }

/-- An order is cut by a realignment (R107, step 1). -/
def cutOrder (s : State) (id : BookingId) : State :=
  match s.record? id with
  | none => s
  | some r =>
    match r.order with
    | none => s
    | some o =>
      if r.state = .ended ∨ r.state = .released then retire id s
      else
        let s := removeTicket o.kitchen id s
        let s := updOrder id (fun o => { o with state := .cancelled, dispatchPending := false }) s
        raiseFor .cateringDropped r 2 (recomputeRetire id s)

/-- The counted orders delivered on a day, with their records' ids. -/
def ordersOn (s : State) (day : Nat) : List (BookingId × Order) :=
  s.store.records.filterMap fun r =>
    match r.order with
    | some o => if o.counted ∧ dayOf o.qd = day then some (r.id, o) else none
    | none => none

/-- The loads of orders are added to the pages that carry their days. -/
def addLoads (s : State) (os : List (BookingId × Order)) : State :=
  os.foldl (fun s p => addLoad p.2.kitchen p.2.qd p.2.load s) s

/-- A page beyond the horizon of day `n` is realigned (R107). -/
def realignPage (n : Nat) (s : State) (i : Fin 14) : State :=
  let tag := (s.catering.pages.get i).tag
  if tag ≤ n + 13 then s
  else
    let s := ((ordersOn s tag).map (·.1)).foldl cutOrder s
    let s := { s with catering := { s.catering with
      pages := s.catering.pages.set i (emptyPage (horizonDay n i)) } }
    addLoads s (ordersOn s (horizonDay n i))

/-- The pages are realigned with an earlier day (R107). -/
def realign (n : Nat) (s : State) : State := (List.finRange 14).foldl (realignPage n) (drainRollovers s)

/-- The pages are aligned with the day of a set from UNSET (R106). -/
def tagPages (n : Nat) (s : State) : State := updPages (fun i p => { p with tag := horizonDay n i }) s

/-- DAY_ROLLOVER (R106). -/
def execDayRollover (s : State) : Host.Outcome State Fault Refusal := .next (whenPowered s takeRollover)

/-! ## CLOCK_SET (R8 to R10) -/

/-- The contents of a CLOCK_SET that is DONE (`12` 12.7). -/
def setContents (c : Clock) (jump : Bool) (delta : Int) : Bytes :=
  word16 c.day ++ word16 c.minute ++ [byte c.second, byte (flagCode jump), 0x00#8, 0x00#8] ++
    word32 (BitVec.ofInt 32 delta).toNat

/-- The time is loaded and the clock runs. -/
def Clock.loaded (c : Clock) (day minute second : Nat) : Clock :=
  { c with day := day, minute := minute, second := second, subSecond := 0, state := .running }

/-- The time of a set is loaded. -/
def loadClock (day minute second : Nat) (s : State) : State :=
  { s with clock := s.clock.loaded day minute second }

/-- A change of day by a set that finds the clock not UNSET: a rollover forward, a realignment back. -/
def dayChanged (old new : Nat) (s : State) : State :=
  if old < new then raiseRollover old new s else if new < old then realign new s else s

/-- A taken set is answered. -/
def answerSet (via : Via) (jump : Bool) (delta : Int) (s : State) : State :=
  respond via .clockSet (.done (setContents s.clock jump delta)) s

/-- The difference in grains of a set (R8). -/
def setDelta (c : Clock) (day minute : Nat) : Int := (grainOf day minute : Int) - (c.grain : Int)

/-- A set that finds the clock UNSET (R8). -/
def setUnset (via : Via) (day minute second : Nat) (s : State) : State :=
  answerSet via false 0 (tagPages day (loadClock day minute second s))

/-- A set that finds the clock HALTED (R8). That a backward one stamps the CATERING_DROPPED of its realignment with the
grain after the set is DESIGN CHOICE (notes/assumptions/47.md). -/
def setHalted (via : Via) (day minute second : Nat) (force : Bool) (s : State) : State :=
  let delta := setDelta s.clock day minute
  if -1 ≤ delta ∨ force then
    answerSet via false delta (dayChanged s.clock.day day (loadClock day minute second s))
  else respond via .clockSet (.refused .clockBackward) s

/-- CLOCK_JUMP is raised, before the time is loaded, so that its stamp is the grain before the set (R11). -/
def raiseJump (jump : Bool) (delta : Int) (s : State) : State :=
  if jump then raise .clockJump .none none (BitVec.ofInt 32 delta) s else s

/-- A set that finds the clock RUNNING (R9, R10). The time is loaded before the pages are realigned, so that the
CATERING_DROPPED raised then (R107) is stamped with the grain after the set; R11 does not say which stamp it has, and
this is DESIGN CHOICE (notes/assumptions/47.md). -/
def setRunning (via : Via) (day minute second : Nat) (force : Bool) (s : State) : State :=
  let delta := setDelta s.clock day minute
  if -1 ≤ delta ∨ force then
    let jump := decide (2 ≤ delta) || decide (delta ≤ -2)
    let old := s.clock.day
    let s := loadClock day minute second (raiseJump jump delta s)
    let s := if 1 ≤ delta then raiseBoundary s.grain s else s
    answerSet via jump delta (dayChanged old day s)
  else respond via .clockSet (.refused .clockBackward) s

/-- A CLOCK_SET is checked and judged (R8 to R10). -/
def takeClockSet (via : Via) (day minute second : Nat) (force : Bool) (s : State) : State :=
  if 1439 < minute ∨ 59 < second then respond via .clockSet .malformed s
  else if ¬ s.clock.reference then respond via .clockSet (.refused .noReference) s
  else match s.clock.state with
    | .unset => setUnset via day minute second s
    | .halted => setHalted via day minute second force s
    | .running => setRunning via day minute second force s

/-- CLOCK_SET (R8 to R10). -/
def execClockSet (via : Via) (day minute second : Nat) (force : Bool) (s : State) :
    Host.Outcome State Fault Refusal :=
  .next (whenTaking s (takeClockSet via day minute second force))

/-! ## CLOCK_READ (R11) -/

/-- The contents of a CLOCK_READ (`12` 12.7). -/
def clockContents (c : Clock) : Bytes :=
  word16 c.day ++ word16 c.minute ++
    [byte c.second, byte c.state.code, byte (flagCode c.reference), 0x00#8] ++
    word32 c.grain ++ word32 c.horizonEnd

/-- A CLOCK_READ is answered (R11). -/
def takeClockRead (via : Via) (s : State) : State := respond via .clockRead (.done (clockContents s.clock)) s

/-- CLOCK_READ (R11). -/
def execClockRead (via : Via) (s : State) : Host.Outcome State Fault Refusal :=
  .next (whenTaking s (takeClockRead via))

end Sys2Proof.Machine
end

