-- ==== Sys2Proof/Machine/Tables.lean ====
section
/-!
DEFINITION. Table access (R166, R167): the writes of T0 to T8, each a structure of the fields named, with the
clamps of the tables' own rules and the behaviour a change carries; and the meanings of TABLE_READ,
TABLE_WRITE and the rows of the opcode table that are writes of one field.
-/

namespace Sys2Proof.Machine

/-! ## What a write comes to -/

/-- The state after a write and its two masks, bit `i` for field `i`. -/
structure Written where
  state   : State
  clamped : Nat
  ignored : Nat
  deriving DecidableEq, Repr

/-- A write to an absent entry: nothing is done, and both masks are empty (R167). -/
def Written.none (s : State) : Written := ⟨s, 0, 0⟩

/-- The answer to a write: the masks, then the entry's image as it now stands (R167, `12` 12.7). -/
def answerWrite (via : Via) (table index n : Nat) (w : Written) : State :=
  respond via .tableWrite
    (.done (byte n :: (maskBytes n w.clamped ++ maskBytes n w.ignored ++ tableImage w.state table index)))
    w.state

/-- A field is given a value exactly when the mask names it. -/
def named {α : Type} (m i : Nat) (v : α) : Option α := if m.testBit i then some v else none

/-- A field named with a value that satisfies `p`. -/
def namedWith {α : Type} (o : Option α) (p : α → Bool) : Bool := o.any p

/-- A mask with the bits of a list of fields. -/
def maskOf (l : List Nat) : Nat := l.foldl (fun m i => m ||| 1 <<< i) 0

/-- A value brought between two ends. -/
def clamp (lo hi v : Nat) : Nat := max lo (min v hi)

/-- A named field lies outside its range. -/
def outside (lo hi : Nat) (o : Option Nat) : Bool := namedWith o fun v => decide (v < lo) || decide (hi < v)

/-- A named glyph string is longer than its field (R170). -/
def tooLong (size : Nat) (o : Option GlyphField) : Bool := namedWith o fun g => decide (size < g.length)

/-! ## T0, part settings (R136) -/

/-- The settable fields of T0. -/
structure SettingsWrite where
  windows    : Option Nat
  windowTime : Option Nat
  timeout    : Option Nat
  deriving DecidableEq, Repr

/-- The settings after a write. -/
def LoopSettings.written (l : LoopSettings) (w : SettingsWrite) : LoopSettings :=
  { windows := (w.windows.map (clamp 4 16)).getD l.windows
    windowTime := (w.windowTime.map (clamp 10 100)).getD l.windowTime
    timeout := (w.timeout.map (clamp 1 15)).getD l.timeout }

/-- A write of T0; `m` is the whole field mask, whose bits 3 to 7 name read-only fields. -/
def writeSettings (index : Nat) (w : SettingsWrite) (m : Nat) (s : State) : Written :=
  if index = 0 then
    { state := { s with settings := s.settings.written w }
      clamped := bits [outside 4 16 w.windows, outside 10 100 w.windowTime, outside 1 15 w.timeout]
      ignored := bits [false, false, false, m.testBit 3, m.testBit 4, m.testBit 5, m.testBit 6, m.testBit 7] }
  else .none s

/-! ## T1, rooms (R13, R15, R17, R20, R22, R23, R27) -/

/-- The fields of T1 that a write may name. -/
structure RoomWrite where
  state       : Option Nat := none
  name        : Option GlyphField := none
  capacity    : Option Nat := none
  partner     : Option Nat := none
  setup       : Option Nat := none
  turnaround  : Option Nat := none
  grace       : Option Nat := none
  earlyWindow : Option Nat := none
  checkIn     : Option Nat := none
  policy      : Option Nat := none
  kitchen     : Option Nat := none
  alternates  : Option (List Nat) := none
  /-- The list was given as more than the 8 entries its field holds. -/
  overCount   : Bool := false
  pointer     : Bool := false
  pending     : Bool := false
  deriving DecidableEq, Repr

/-- The room state of a code. -/
def roomState? : Nat → Option RoomState
  | 0 => some .unconfigured | 1 => some .inService | 2 => some .held | 3 => some .outOfService | _ => none

/-- The check-in mode of a code. -/
def checkInMode? : Nat → Option CheckInMode
  | 0 => some .anyTap | 1 => some .organiser | _ => none

/-- The move policy of a code. -/
def movePolicy? : Nat → Option MovePolicy
  | 0 => some .noDisplace | 1 => some .displaceLower | _ => none

/-- The alternates list brought into form (R17). -/
def formAlternates (r : RoomNo) (l : List Nat) : List RoomNo :=
  l.foldl (fun kept n =>
    match roomNo? n with
    | none => kept
    | some q => if q = r ∨ kept.contains q ∨ 4 ≤ kept.length then kept else kept ++ [q]) []

/-- A write of UNCONFIGURED may be taken (R22). -/
def mayUnconfigure (s : State) (r : RoomNo) : Bool :=
  (s.store.lists.get r).isEmpty && !(s.store.records.any fun q => q.state == .moving && q.room == r) &&
    s.engine.inFlight.isNone

/-- The state that a write moves a room to, if it names one and is taken. -/
def takenState (s : State) (r : RoomNo) (w : RoomWrite) : Option RoomState :=
  match w.state.bind roomState? with
  | some .unconfigured => if mayUnconfigure s r then some .unconfigured else none
  | o => o

/-- The partner that a code gives a room: absent where it names none, or the room itself (R13). -/
def partnerCode (r : RoomNo) (n : Nat) : Option RoomNo :=
  match roomNo? n with
  | some q => if q = r then none else some q
  | none => none

/-- The room entry after a write (R13, R15, R17). -/
def Room.written (e : Room) (r : RoomNo) (w : RoomWrite) (state : Option RoomState) : Room :=
  { e with
    state := state.getD e.state
    name := (w.name.map (glyphsOf 24)).getD e.name
    capacity := if e.capacityLocked then e.capacity else (w.capacity.map fun c => min c 250).getD e.capacity
    capacityLocked := e.capacityLocked || w.capacity.isSome
    partner := if e.partnerLocked then e.partner else (w.partner.map (partnerCode r)).getD e.partner
    partnerLocked := e.partnerLocked || w.partner.isSome
    setup := (w.setup.map fun v => min v 6).getD e.setup
    turnaround := (w.turnaround.map fun v => min v 6).getD e.turnaround
    grace := (w.grace.map fun v => min v 6).getD e.grace
    earlyWindow := (w.earlyWindow.map (clamp 1 6)).getD e.earlyWindow
    checkIn := (w.checkIn.bind checkInMode?).getD e.checkIn
    policy := (w.policy.bind movePolicy?).getD e.policy
    kitchen := (w.kitchen.map kitchenNo?).getD e.kitchen
    alternates := (w.alternates.map (formAlternates r)).getD e.alternates
    pointer := if w.alternates.isSome then 0 else e.pointer
    altsWritten := e.altsWritten || w.alternates.isSome
    vacatePending := e.vacatePending && decide (state.getD e.state = e.state) }

/-- The clamped mask of a room write (R13, R17, R167). -/
def roomClamped (e : Room) (r : RoomNo) (w : RoomWrite) : Nat :=
  bits [false, tooLong 24 w.name,
    !e.capacityLocked && outside 0 250 w.capacity,
    !e.partnerLocked && namedWith w.partner fun n => n != absentCode && (partnerCode r n).isNone,
    outside 0 6 w.setup, outside 0 6 w.turnaround, outside 0 6 w.grace, outside 1 6 w.earlyWindow,
    false, false, namedWith w.kitchen fun n => n != absentCode && (kitchenNo? n).isNone,
    namedWith w.alternates fun l => w.overCount || decide ((formAlternates r l).length ≠ l.length)]

/-- The ignored mask of a room write (R13, R15, R22, R167). -/
def roomIgnored (e : Room) (w : RoomWrite) (state : Option RoomState) : Nat :=
  bits [w.state.isSome && state.isNone, false, e.capacityLocked && w.capacity.isSome,
    e.partnerLocked && w.partner.isSome, false, false, false, false,
    namedWith w.checkIn fun n => (checkInMode? n).isNone, namedWith w.policy fun n => (movePolicy? n).isNone,
    false, false, w.pointer, w.pending]

/-- The room's list holds a BOOKED booking (R23). -/
def holdsBooked (s : State) (r : RoomNo) : Bool := (s.listed r).any fun b => b.state == .booked

/-- A taken change of state is told to the Booking Store and the Face Composer (R20, R23, R27). -/
def roomStateTold (r : RoomNo) (old : RoomState) (s : State) : State :=
  let new := (s.rooms.get r).state
  if new = old then s
  else
    let s := roomStateChanged r s
    if new = .outOfService ∧ (old = .inService ∨ old = .held) ∧ holdsBooked s r then triggerVacate r s else s

/-- A changed name, or the first lock of the partner that makes a pair, marks the room changed (R27). -/
def roomNameTold (r : RoomNo) (old : Room) (s : State) : State :=
  let new := s.rooms.get r
  if new.name ≠ old.name ∨ (new.partnerLocked ∧ ¬ old.partnerLocked ∧ (partnerOf s r).isSome) then markRoom r s
  else s

/-- A write of T1. -/
def writeRoom (index : Nat) (w : RoomWrite) (s : State) : Written :=
  match roomNo? index with
  | none => .none s
  | some r =>
    let e := s.rooms.get r
    let state := takenState s r w
    let s' := { s with rooms := s.rooms.set r (e.written r w state) }
    { state := roomStateTold r e.state (roomNameTold r e s')
      clamped := roomClamped e r w
      ignored := roomIgnored e w state }

/-! ## T2, panels (R143, R133) -/

/-- The settable fields of T2. -/
structure PanelWrite where
  kind    : Option Nat := none
  binding : Option Nat := none
  window  : Option Nat := none
  deriving DecidableEq, Repr

/-- The panel kind of a code. -/
def panelKind? : Nat → Option PanelKind
  | 0 => some .unbound | 1 => some .door | 2 => some .pantry | _ => none

/-- A binding lies in the range of a kind. An entry of kind NONE is bound to nothing, and its binding byte is
any. -/
def bindingFits : PanelKind → Nat → Bool
  | .unbound, _ => true
  | .door, n => decide (n < 96)
  | .pantry, n => decide (n < 8)

/-- The panel entry's own fields after a write. -/
def Panel.written (p : Panel) (w : PanelWrite) : Panel :=
  let kind := (w.kind.bind panelKind?).getD p.kind
  let binding := match w.binding with
    | some n => if bindingFits kind n then n else p.binding
    | none => p.binding
  { p with
    kind := kind
    binding := if bindingFits kind binding then binding else 0
    window := match w.window with
      | some n => if n = absentCode then none else some (min n 15)
      | none => p.window }

/-- The Loop Controller's part of a changed kind or binding (R143). -/
def Panel.renewed (p : Panel) : Panel :=
  { p with state := .unknown, misses := 0, violations := 0, replies := [], tickets := [] }

/-- The address that an own frame is for. -/
def Carried.panel? : Carried → Option Addr
  | .face a _ | .reply a _ | .ticket a _ => some a
  | .beacon | .echo _ => none

/-- The stale mark of an awaited record addressed to a panel is set (R140). -/
def markStale (a : Addr) (s : State) : State :=
  { s with loop := { s.loop with awaited := s.loop.awaited.map fun w =>
      if w.carried.panel? == some a then { w with stale := true } else w } }

/-- What a changed kind or binding does at once (R143, R133). -/
def panelRenewed (a : Addr) (s : State) : State :=
  refreshFace a (markStale a { s with panels := s.panels.upd a Panel.renewed })

/-- A write of T2; `m` is the whole field mask, whose bits 3 to 5 name read-only fields. -/
def writePanel (index : Nat) (w : PanelWrite) (m : Nat) (s : State) : Written :=
  match addr? index with
  | none => .none s
  | some a =>
    let p := s.panels.get a
    let p' := p.written w
    let s' := { s with panels := s.panels.set a p' }
    let kept := match w.binding with
      | some n => if bindingFits p'.kind n then n else p.binding
      | none => p.binding
    { state := if p'.kind ≠ p.kind ∨ p'.binding ≠ p.binding then panelRenewed a s' else s'
      clamped := bits [false, !bindingFits p'.kind kept,
        namedWith w.window fun n => n != absentCode && decide (15 < n)]
      ignored := bits [namedWith w.kind fun n => (panelKind? n).isNone,
        namedWith w.binding fun n => !bindingFits p'.kind n, false, m.testBit 3, m.testBit 4, m.testBit 5] }

/-! ## T3, menu (R102) -/

/-- The fields of T3. -/
structure ItemWrite where
  name   : Option GlyphField
  weight : Option Nat
  lead   : Option Nat
  mask   : Option Byte
  deriving DecidableEq, Repr

/-- The menu entry after a write. -/
def MenuItem.written (e : MenuItem) (w : ItemWrite) : MenuItem :=
  { name := (w.name.map (glyphsOf 16)).getD e.name
    weight := (w.weight.map fun v => min v 15).getD e.weight
    lead := (w.lead.map fun v => min v 36).getD e.lead
    mask := w.mask.getD e.mask }

/-- A write of T3. -/
def writeItem (index : Nat) (w : ItemWrite) (s : State) : Written :=
  match itemNo? index with
  | none => .none s
  | some i =>
    { state := { s with menu := s.menu.upd i fun e => e.written w }
      clamped := bits [tooLong 16 w.name, outside 0 15 w.weight, outside 0 36 w.lead]
      ignored := 0 }

/-! ## T4, kitchens (R103) -/

/-- The fields of T4. -/
structure KitchenWrite where
  name        : Option GlyphField := none
  acceptLimit : Option Nat := none
  pantry      : Option Nat := none
  state       : Option Nat := none
  deriving DecidableEq, Repr

/-- The kitchen state of a code. -/
def kitchenState? : Nat → Option KitchenState
  | 0 => some .opened | 1 => some .paused | _ => none

/-- The kitchen entry after a write. -/
def Kitchen.written (e : Kitchen) (w : KitchenWrite) : Kitchen :=
  { name := (w.name.map (glyphsOf 16)).getD e.name
    acceptLimit := (w.acceptLimit.map (clamp 1 12)).getD e.acceptLimit
    pantry := (w.pantry.map addr?).getD e.pantry
    state := (w.state.bind kitchenState?).getD e.state }

/-- A write of T4: a changed state or name marks the kitchen changed (R103, R127). -/
def writeKitchen (index : Nat) (w : KitchenWrite) (s : State) : Written :=
  match kitchenNo? index with
  | none => .none s
  | some k =>
    let e := s.kitchens.get k
    let e' := e.written w
    let s' := { s with kitchens := s.kitchens.set k e' }
    { state := if e'.state ≠ e.state ∨ e'.name ≠ e.name then kitchenChanged k s' else s'
      clamped := bits [tooLong 16 w.name, outside 1 12 w.acceptLimit,
        namedWith w.pantry fun n => n != absentCode && (addr? n).isNone]
      ignored := bits [false, false, false, namedWith w.state fun n => (kitchenState? n).isNone] }

/-! ## T5, the capacity profile (R104) -/

/-- The slots-of-day that a write names. -/
def slotNo? (n : Nat) : Option (Fin 96) := roomNo? n

/-- The profile after a write of pairs of slot-of-day and capacity. -/
def profileWritten (t : Tab Nat 96) (w : List (Nat × Nat)) : Tab Nat 96 :=
  w.foldl (fun t p => match slotNo? p.1 with
    | some i => t.set i (min p.2 Config.maxLoad)
    | none => t) t

/-- Some future slot of a kitchen at a slot-of-day has a load above its capacity (R104). -/
def belowLoad (s : State) (k : KitchenNo) (i : Fin 96) : Bool :=
  s.catering.pages.cells.any fun p =>
    decide (s.grain < p.tag * Config.dayGrains + 3 * i.val + 3) &&
      decide ((s.profile.get k).get i < (p.loads.get k).get i)

/-- CAPACITY_BELOW_LOAD for a write, where it is due (R104). -/
def judgeProfile (k : KitchenNo) (w : List (Nat × Nat)) (s : State) : State :=
  match (List.finRange 96).filter fun i => (w.any fun p => p.1 == i.val) && belowLoad s k i with
  | [] => s
  | i :: is =>
    raise .capacityBelowLoad (.kitchen k) none (BitVec.ofNat 32 (i.val + 256 * (is.length + 1))) s

/-- A write of T5. -/
def writeProfile (index : Nat) (w : List (Nat × Nat)) (s : State) : Written :=
  match kitchenNo? index with
  | none => .none s
  | some k =>
    { state := judgeProfile k w { s with profile := s.profile.upd k fun t => profileWritten t w }
      clamped := maskOf ((w.filter fun p => decide (Config.maxLoad < p.2)).map (·.1))
      ignored := 0 }

/-! ## T6, overlays (R131) -/

/-- The attribute of a code; a code that names none is NORMAL (R131). -/
def attrOf : Nat → Attr
  | 1 => .inverse | 2 => .accent | _ => .normal

/-- A row from its 48 bytes. -/
def rowOf (b : Bytes) : Row := Tab.gen fun j => ⟨b.getD (2 * j.val) 0#8, attrOf (byteAt b (2 * j.val + 1))⟩

/-- A row's bytes hold an attribute code that names no value. -/
def badAttr (b : Bytes) : Bool := (List.range 24).any fun j => decide (2 < byteAt b (2 * j + 1))

/-- An overlay after a write of pairs of row and its bytes. -/
def overlayWritten (o : Rows) (w : List (Nat × Bytes)) : Rows :=
  w.foldl (fun o p => match kitchenNo? p.1 with
    | some i => o.set i (rowOf p.2)
    | none => o) o

/-- A face shows an overlay. -/
def Face.shows (f : Face) (k : OverlayNo) : Bool :=
  match f.selection with
  | .none => false
  | .auto j | .server j => j == k

/-- The rows in which two overlays differ are marked dirty on every face that shows the overlay (R131). -/
def markOverlay (k : OverlayNo) (old new : Rows) (s : State) : State :=
  updFaces (fun _ f =>
    if f.shows k then
      { f with dirty := Tab.gen fun i => f.dirty.get i || decide (old.get i ≠ new.get i) }
    else f) s

/-- A write of T6. -/
def writeOverlay (index : Nat) (w : List (Nat × Bytes)) (s : State) : Written :=
  match kitchenNo? index with
  | none => .none s
  | some k =>
    let old := s.overlays.get k
    let new := overlayWritten old w
    { state := markOverlay k old new { s with overlays := s.overlays.set k new }
      clamped := maskOf ((w.filter fun p => badAttr p.2).map (·.1))
      ignored := 0 }

/-! ## T7, dispositions (R153) -/

/-- The action of a code. -/
def action? : Nat → Option Action
  | 0 => some .count | 1 => some .notify | 2 => some .notifyAlert | 3 => some .hold | _ => none

/-- The level of a code. -/
def level? : Nat → Option Level
  | 0 => some .advisory | 1 => some .degraded | 2 => some .fatal | _ => none

/-- The disposition after a write. -/
def Disposition.written (d : Disposition) (action level : Option Nat) : Disposition :=
  { action := (action.bind action?).getD d.action, level := (level.bind level?).getD d.level }

/-- A write of T7. -/
def writeDisposition (index : Nat) (action level : Option Nat) (s : State) : Written :=
  match classNo? index with
  | none => .none s
  | some c =>
    { state := { s with dispositions := s.dispositions.upd c fun d => d.written action level }
      clamped := 0
      ignored := bits [namedWith action fun n => (action? n).isNone, namedWith level fun n => (level? n).isNone] }

/-! ## T8, loop status (R137) -/

/-- A write of 1 to the signal-loss latch clears it, and it is set again at once while the signal is ABSENT
(R137). -/
def clearLossLatch (s : State) : State := { s with loop := { s.loop with lossLatch := !s.loop.signal } }

/-- A write of T8; `m` is the whole field mask, all of whose other fields are read-only. -/
def writeLoop (index : Nat) (latch : Option Nat) (m : Nat) (s : State) : Written :=
  if index = 0 then
    { state := if latch = some 1 then clearLossLatch s else s
      clamped := 0
      ignored := bits [m.testBit 0, m.testBit 1, false, m.testBit 3, m.testBit 4, m.testBit 5, m.testBit 6,
        m.testBit 7, m.testBit 8, m.testBit 9] }
  else .none s

/-! ## TABLE_WRITE (R167) -/

/-- The room write that a mask and an image name (`12` 12.4). -/
def roomWriteOf (m : Nat) (b : Bytes) : RoomWrite :=
  { state := named m 0 (byteAt b 0), name := named m 1 (glyphsAt b 21 24), capacity := named m 2 (byteAt b 2),
    partner := named m 3 (byteAt b 3), setup := named m 4 (byteAt b 4), turnaround := named m 5 (byteAt b 5),
    grace := named m 6 (byteAt b 6), earlyWindow := named m 7 (byteAt b 7), checkIn := named m 8 (byteAt b 8),
    policy := named m 9 (byteAt b 9), kitchen := named m 10 (byteAt b 10),
    alternates := named m 11 ((slice b 12 (min (byteAt b 11) 8)).map (·.toNat)),
    overCount := decide (8 < byteAt b 11), pointer := m.testBit 12, pending := m.testBit 13 }

/-- The slots-of-day and capacities that a mask and an image name. -/
def profileWriteOf (m : Nat) (b : Bytes) : List (Nat × Nat) :=
  ((List.range 96).filter m.testBit).map fun i => (i, word16At b (2 * i))

/-- The rows that a mask and an image name. -/
def overlayWriteOf (m : Nat) (b : Bytes) : List (Nat × Bytes) :=
  ((List.range 8).filter m.testBit).map fun i => (i, slice b (48 * i) 48)

/-- A write of any table from its mask and its image (`12` 12.8). -/
def writeTable (table index m : Nat) (b : Bytes) (s : State) : Written :=
  match table with
  | 0 => writeSettings index ⟨named m 0 (byteAt b 0), named m 1 (byteAt b 1), named m 2 (byteAt b 2)⟩ m s
  | 1 => writeRoom index (roomWriteOf m b) s
  | 2 => writePanel index ⟨named m 0 (byteAt b 0), named m 1 (byteAt b 1), named m 2 (byteAt b 2)⟩ m s
  | 3 => writeItem index
      ⟨named m 0 (glyphsAt b 3 16), named m 1 (byteAt b 0), named m 2 (byteAt b 1), named m 3 (b.getD 2 0#8)⟩ s
  | 4 => writeKitchen index
      ⟨named m 0 (glyphsAt b 3 16), named m 1 (byteAt b 1), named m 2 (byteAt b 2), named m 3 (byteAt b 0)⟩ s
  | 5 => writeProfile index (profileWriteOf m b) s
  | 6 => writeOverlay index (overlayWriteOf m b) s
  | 7 => writeDisposition index (named m 0 (byteAt b 0)) (named m 1 (byteAt b 1)) s
  | 8 => writeLoop index (named m 2 (byteAt b 2)) m s
  | _ => .none s

/-- A TABLE_WRITE is taken and answered (R167). -/
def takeTableWrite (via : Via) (table index : Nat) (mask image : Bytes) (s : State) : State :=
  answerWrite via table index mask.length (writeTable table index (maskNumber mask) image s)

/-- A TABLE_READ is answered (R166). -/
def takeTableRead (via : Via) (table index : Nat) (s : State) : State :=
  respond via .tableRead (.done (tableImage s table index)) s

/-- TABLE_READ (R166). -/
def execTableRead (via : Via) (table index : Nat) (s : State) : Host.Outcome State Fault Refusal :=
  .next (whenTaking s (takeTableRead via table index))

/-- TABLE_WRITE (R167). -/
def execTableWrite (via : Via) (table index : Nat) (mask image : Bytes) (s : State) :
    Host.Outcome State Fault Refusal :=
  .next (whenTaking s (takeTableWrite via table index mask image))

/-! ## The writes that have a row of their own

Each stands for the TABLE_WRITE that names the field, in a mask of the smallest size that reaches the fields
of its table: 2 bytes for T1 and T8, 12 for T5, 1 for the others. -/

/-- ROOM_STATE_WRITE (R20). -/
def execRoomStateWrite (via : Via) (room code : Nat) (s : State) : Host.Outcome State Fault Refusal :=
  .next (whenTaking s fun s => answerWrite via 1 room 2 (writeRoom room { state := some code } s))

/-- ALTERNATES_WRITE (R17). -/
def execAlternatesWrite (via : Via) (room : Nat) (entries : List Nat) (s : State) :
    Host.Outcome State Fault Refusal :=
  .next (whenTaking s fun s => answerWrite via 1 room 2
    (writeRoom room { alternates := some (entries.take 8), overCount := decide (8 < entries.length) } s))

/-- CAPACITY_PARTNER_WRITE (R15). -/
def execCapacityPartnerWrite (via : Via) (room : Nat) (capacity partner : Option Nat) (s : State) :
    Host.Outcome State Fault Refusal :=
  .next (whenTaking s fun s =>
    answerWrite via 1 room 2 (writeRoom room { capacity := capacity, partner := partner } s))

/-- ROOM_NAME_WRITE (R27). -/
def execRoomNameWrite (via : Via) (room : Nat) (name : GlyphField) (s : State) :
    Host.Outcome State Fault Refusal :=
  .next (whenTaking s fun s => answerWrite via 1 room 2 (writeRoom room { name := some name } s))

/-- PANEL_KIND_BINDING_WRITE (R143). -/
def execPanelKindBindingWrite (via : Via) (address : Nat) (kind binding : Option Nat) (s : State) :
    Host.Outcome State Fault Refusal :=
  .next (whenTaking s fun s =>
    answerWrite via 2 address 1 (writePanel address { kind := kind, binding := binding } 0 s))

/-- KITCHEN_STATE_WRITE (R103). -/
def execKitchenStateWrite (via : Via) (kitchen code : Nat) (s : State) : Host.Outcome State Fault Refusal :=
  .next (whenTaking s fun s => answerWrite via 4 kitchen 1 (writeKitchen kitchen { state := some code } s))

/-- KITCHEN_NAME_WRITE (R103). -/
def execKitchenNameWrite (via : Via) (kitchen : Nat) (name : GlyphField) (s : State) :
    Host.Outcome State Fault Refusal :=
  .next (whenTaking s fun s => answerWrite via 4 kitchen 1 (writeKitchen kitchen { name := some name } s))

/-- CAPACITY_PROFILE_WRITE (R104). -/
def execCapacityProfileWrite (via : Via) (kitchen : Nat) (slots : List (Nat × Nat)) (s : State) :
    Host.Outcome State Fault Refusal :=
  .next (whenTaking s fun s => answerWrite via 5 kitchen 12 (writeProfile kitchen slots s))

/-- OVERLAY_WRITE (R131). -/
def execOverlayWrite (via : Via) (overlay : Nat) (rows : List (Nat × Bytes)) (s : State) :
    Host.Outcome State Fault Refusal :=
  .next (whenTaking s fun s => answerWrite via 6 overlay 1 (writeOverlay overlay rows s))

/-- DISPOSITION_WRITE (R153). -/
def execDispositionWrite (via : Via) (cls : Nat) (action level : Option Nat) (s : State) :
    Host.Outcome State Fault Refusal :=
  .next (whenTaking s fun s => answerWrite via 7 cls 1 (writeDisposition cls action level s))

/-- LOOP_SETTINGS_WRITE (R136). -/
def execLoopSettingsWrite (via : Via) (windows windowTime timeout : Option Nat) (s : State) :
    Host.Outcome State Fault Refusal :=
  .next (whenTaking s fun s => answerWrite via 0 0 1 (writeSettings 0 ⟨windows, windowTime, timeout⟩ 0 s))

/-- SIGNAL_LOSS_LATCH_CLEAR (R137). -/
def execSignalLossLatchClear (via : Via) (s : State) : Host.Outcome State Fault Refusal :=
  .next (whenTaking s fun s => answerWrite via 8 0 2 (writeLoop 0 (some 1) 0 s))

end Sys2Proof.Machine
end

