-- ==== Sys2Proof/Machine/Text.lean ====
section
/-!
DEFINITION. Panel text and overlay choices (R128 to R130, R132), with the meanings of PANEL_TEXT and
PANEL_OVERLAY.
-/

namespace Sys2Proof.Machine

/-! ## The units (R129, R130) -/

/-- The counts of an answer (R128). -/
structure TextCounts where
  applied   : Nat
  clamped   : Nat
  abandoned : Nat
  ignored   : Nat
  deriving DecidableEq, Repr

/-- The face as far as a request has come, its counts, and whether a LEVEL waits for its value. -/
structure TextRun where
  own      : Rows
  area     : FreeArea
  counts   : TextCounts
  expected : Bool
  ended    : Bool
  deriving DecidableEq, Repr

/-- The cursor stands at the window's top-left. -/
def FreeArea.home (a : FreeArea) : FreeArea := { a with row := a.top, cell := a.left }

/-- The cursor after one glyph (R129). -/
def FreeArea.advance (a : FreeArea) : FreeArea :=
  match a.mode with
  | .run =>
    if a.cell < a.right then { a with cell := a.cell + 1 }
    else { a with cell := a.left, row := if a.row < a.bottom then a.row + 1 else a.top }
  | .stack =>
    if a.row < a.bottom then { a with row := a.row + 1 }
    else { a with row := a.top, cell := if a.cell < a.right then a.cell + 1 else a.left }

/-- One cell of a face's own rows is written. -/
def putCell (own : Rows) (row cell : Nat) (c : FaceCell) : Rows :=
  match kitchenNo? row with
  | some i => own.upd i fun r => rowPut r cell c
  | none => own

/-- Glyphs are written from the cursor on (R129). -/
def putGlyphs : Bytes → Rows → FreeArea → Rows × FreeArea
  | [], own, a => (own, a)
  | g :: gs, own, a => putGlyphs gs (putCell own a.row a.cell ⟨g, a.attr⟩) a.advance

/-- Every cell of the window is blank (R129). -/
def clearWindow (own : Rows) (a : FreeArea) : Rows :=
  Tab.gen fun i =>
    if a.top ≤ i.val ∧ i.val ≤ a.bottom then
      Tab.gen fun j => if a.left ≤ j.val ∧ j.val ≤ a.right then blankCell else (own.get i).get j
    else own.get i

/-- The window of a WINDOW unit, brought into range (R129). -/
def FreeArea.windowed (a : FreeArea) (top bottom left right : Nat) : FreeArea :=
  let t := clamp 4 7 top
  let b := clamp t 7 bottom
  let l := clamp 0 23 left
  let r := clamp l 23 right
  FreeArea.home { a with top := t, bottom := b, left := l, right := r }

/-- Some value of a WINDOW unit had to be brought into range. -/
def FreeArea.moved (a : FreeArea) (top bottom left right : Nat) : Bool :=
  a.top != top || a.bottom != bottom || a.left != left || a.right != right

/-- A cell lies in the window. -/
def FreeArea.holds (a : FreeArea) (row cell : Nat) : Bool :=
  decide (a.top ≤ row) && decide (row ≤ a.bottom) && decide (a.left ≤ cell) && decide (cell ≤ a.right)

/-- The mode of a code. -/
def textMode? : Nat → Option TextMode
  | 0 => some .run | 1 => some .stack | _ => none

/-- The attribute of an ATTR unit's code. -/
def attr? : Nat → Option Attr
  | 0 => some .normal | 1 => some .inverse | 2 => some .accent | _ => none

/-- A unit is counted applied, and clamped where it was. -/
def TextRun.applied (t : TextRun) (clamped : Bool) : TextRun :=
  { t with counts := { t.counts with
      applied := t.counts.applied + 1
      clamped := t.counts.clamped + (if clamped then 1 else 0) } }

/-- A unit is counted ignored. -/
def TextRun.ignored (t : TextRun) : TextRun :=
  { t with counts := { t.counts with ignored := t.counts.ignored + 1 } }

/-- A LEVEL that waits is abandoned (R130). -/
def TextRun.abandon (t : TextRun) : TextRun :=
  if t.expected then
    { t with expected := false, counts := { t.counts with abandoned := t.counts.abandoned + 1 } }
  else t

/-- A unit that is no LEVEL_VALUE is applied, or judged, as R129 gives. -/
def applyUnit (t : TextRun) : TextUnit → TextRun
  | .window a b c d =>
    let w := t.area.windowed a b c d
    { t with area := w }.applied (w.moved a b c d)
  | .cursor row cell =>
    if t.area.holds row cell then { t with area := { t.area with row := row, cell := cell } }.applied false
    else { t with area := t.area.home }.applied true
  | .mode c =>
    match textMode? c with
    | some m => { t with area := { t.area with mode := m } }.applied false
    | none => t.ignored
  | .glyphs g =>
    let p := putGlyphs g t.own t.area
    { t with own := p.1, area := p.2 }.applied false
  | .attr c =>
    match attr? c with
    | some a => { t with area := { t.area with attr := a } }.applied false
    | none => t.ignored
  | .clear => { t with own := clearWindow t.own t.area, area := t.area.home }.applied false
  | .level => { t with expected := true }
  | .levelValue _ => t.ignored
  | .finish => { t with ended := true }.applied false

/-- A LEVEL_VALUE that follows a LEVEL: both units are applied (R130). -/
def applyLevel (t : TextRun) (v : Nat) : TextRun :=
  ({ t with expected := false, area := { t.area with level := min v 15 } }.applied false).applied
    (decide (15 < v))

/-- One unit of a request, in its turn (R128 to R130). -/
def runUnit (t : TextRun) (u : TextUnit) : TextRun :=
  if t.ended then t.ignored
  else match u with
    | .levelValue v => if t.expected then applyLevel t v else t.ignored
    | _ => applyUnit t.abandon u

/-- All the units of a request, from a face's free area (R128). -/
def runUnits (f : Face) (us : List TextUnit) : TextRun :=
  (us.foldl runUnit { own := f.own, area := f.area, counts := ⟨0, 0, 0, 0⟩, expected := false, ended := false }).abandon

/-- The face after a request: each row whose shown content changed is dirty, and row 0 where the level changed
(R128, R130, R126). DESIGN CHOICE (notes/assumptions/60.md): a free row that changes while an overlay is shown in its
place marks nothing, since R126 marks shown content; R128 speaks of each free row whose content changes. -/
def Face.texted (f : Face) (t : TextRun) : Face :=
  let f' := { f.withOwn t.own with area := t.area }
  if t.area.level = f.area.level then f' else { f' with dirty := f'.dirty.set 0 true }

/-- The contents of a PANEL_TEXT that is DONE. -/
def textContents (c : TextCounts) : Bytes :=
  word16 c.applied ++ word16 c.clamped ++ word16 c.abandoned ++ word16 c.ignored

/-- A PANEL_TEXT that has passed its form check is applied and answered (R128). -/
def applyText (via : Via) (a : Addr) (us : List TextUnit) (s : State) : State :=
  if (s.panels.get a).kind = .door then
    let t := runUnits (s.composer.faces.get a) us
    respond via .panelText (.done (textContents t.counts)) (updFace a (fun f => f.texted t) s)
  else respond via .panelText (.refused .noFreeRows) s

/-- A PANEL_TEXT is form-checked and taken (R128). -/
def takeText (via : Via) (address : Nat) (units : Bytes) (s : State) : State :=
  match addr? address, readText units with
  | some a, some (u :: us) => applyText via a (u :: us) s
  | _, _ => respond via .panelText .malformed s

/-- PANEL_TEXT (R128 to R130). -/
def execPanelText (via : Via) (address : Nat) (units : Bytes) (s : State) :
    Host.Outcome State Fault Refusal :=
  .next (whenTaking s (takeText via address units))

/-! ## PANEL_OVERLAY (R132) -/

/-- The choice of a code: NONE, an overlay, or out of range. -/
def choice? (n : Nat) : Option (Option OverlayNo) :=
  if n = absentCode then some none else (kitchenNo? n).map some

/-- The faces that a target names: one address, all of them, or out of range. -/
def targets? (n : Nat) : Option (List Addr) :=
  if n = absentCode then some (List.finRange 112) else (addr? n).map fun a => [a]

/-- Face `a` would change its selection under a server choice. -/
def changesSelection (s : State) (c : Option OverlayNo) (a : Addr) : Bool :=
  let f := s.composer.faces.get a
  (f.withChoices c f.auto).selection != f.selection

/-- The server choice of the faces named is set (R132). -/
def chooseOverlay (as : List Addr) (c : Option OverlayNo) (s : State) : State :=
  updFaces (fun a f => if as.contains a then f.withChoices c f.auto else f) s

/-- A PANEL_OVERLAY is judged, applied and answered (R132). -/
def takeOverlay (via : Via) (target choice : Nat) (s : State) : State :=
  match targets? target, choice? choice with
  | some as, some c =>
    respond via .panelOverlay (.done (word16 (as.filter (changesSelection s c)).length)) (chooseOverlay as c s)
  | _, _ => respond via .panelOverlay .malformed s

/-- PANEL_OVERLAY (R132). -/
def execPanelOverlay (via : Via) (target choice : Nat) (s : State) : Host.Outcome State Fault Refusal :=
  .next (whenTaking s (takeOverlay via target choice))

end Sys2Proof.Machine
end

