-- ==== Sys2Proof/Machine/LoopControl.lean ====
section
/-!
DEFINITION. The Loop Controller (chapter 9): own frames and what becomes of them, panel states, windows and
beacons, outbound service, the frames that reach loop-in, calls, and the echo; with the meanings of
SIGNAL_PRESENT, SIGNAL_ABSENT, WINDOW_OPEN, OWN_FRAME_SEND, OWN_FRAME_RETURN, RETURN_TIMEOUT, PANEL_FRAME,
CALL and LOOP_ECHO. Times are microseconds of the loop timer.
-/

namespace Sys2Proof.Machine

/-! ## Small changes -/

/-- The Loop Controller's own state is changed. -/
def updLoop (f : Loop → Loop) (s : State) : State := { s with loop := f s.loop }

/-- The entry of a panel is changed. -/
def updPanel (a : Addr) (f : Panel → Panel) (s : State) : State := { s with panels := s.panels.upd a f }

/-- An occurrence with a panel's address as subject. -/
def raisePanel (c : ExcClass) (address : Nat) (detail : Nat) (s : State) : State :=
  raise c (.panel address) none (BitVec.ofNat 32 detail) s

/-- A frame leaves loop-out. -/
def loopSend (b : Bytes) (s : State) : State :=
  { s with ports := { s.ports with loopOut := s.ports.loopOut ++ [b] } }

/-- An own frame can be sent at `now`: none awaits return (R139), and the frames being sent on have left loop-out
(R145). -/
def outFree (now : Nat) (s : State) : Bool := s.loop.awaited.isNone && decide (s.ports.loopBusyUntil ≤ now)

/-- The loop runs only while power is good and the reset line is not asserted (R168). -/
def loopLive (s : State) : Bool := s.ports.powerGood && !s.ports.resetAsserted

/-- What a loop event does, while the loop may run. -/
def whenLive (s : State) (f : State → State) : State := if loopLive s then f s else s

/-! ## Own frames (R135, R140) -/

/-- An own frame is made with the next sequence and sent at `now`, from when it is awaited (R135, R139, R140). -/
def sendOwn (c : Carried) (destination kind : Nat) (payload : Bytes) (now : Nat) (s : State) : State :=
  let n := s.loop.sequence
  let f : LoopFrame := { destination := destination, origin := 0, kind := kind, flags := byte n,
                         payload := payload }
  updLoop (fun l => { l with
    sequence := (n + 1) % 16
    awaited := some { carried := c, sequence := n, sentAt := now, stale := false } }) (loopSend f.bytes s)

/-- The address an own frame is for: 0 for a beacon or echo. -/
def Carried.destination (c : Carried) : Nat :=
  match c.panel? with
  | some a => address a
  | none => 0

/-- The awaited-return record ends. -/
def endAwait (s : State) : State := updLoop (fun l => { l with awaited := none }) s

/-! ## What an own frame carries, at its end (R126, R141, R142, R148, R149) -/

/-- A row returns: in-flight cleared, and dirty again where it was not taken (R126). -/
def rowBack (a : Addr) (row : Fin 8) (taken : Bool) (s : State) : State :=
  updFace a (fun f => { f with
    inFlight := f.inFlight.set row false
    dirty := if taken then f.dirty else f.dirty.set row true }) s

/-- An entry whose REPLY frame is not taken is READY again (R148). -/
def ReplyEntry.back (e : ReplyEntry) : ReplyEntry :=
  match e.state with
  | .inFlight x => { e with state := .ready x }
  | _ => e

/-- The entries after the REPLY frame of one of them has ended (R148). -/
def repliesBack (serial : Nat) (taken : Bool) (l : List ReplyEntry) : List ReplyEntry :=
  if taken then l.filter fun e => e.serial != serial
  else l.map fun e => if e.serial == serial then e.back else e

/-- A reply entry leaves its queue, or is READY again at its place (R148). -/
def replyBack (a : Addr) (serial : Nat) (taken : Bool) (s : State) : State :=
  updPanel a (fun p => { p with replies := repliesBack serial taken p.replies }) s

/-- The TICKET frames after one of them has ended: it leaves where it was taken, unless its content was replaced
meanwhile (R149). -/
def ticketsBack (id : BookingId) (taken : Bool) (l : List TicketFrame) : List TicketFrame :=
  let kept := if taken then l.filter fun e => e.booking != id || e.replaced else l
  kept.map fun e => if e.booking == id then { e with replaced := false } else e

/-- A TICKET entry leaves its list, or stays at its place (R149). -/
def ticketBack (a : Addr) (id : BookingId) (taken : Bool) (s : State) : State :=
  updPanel a (fun p => { p with tickets := ticketsBack id taken p.tickets }) s

/-- The content of an own frame at its matched return, or, with `taken` false, at a timeout or abandonment.
For a stale record the reply or TICKET entry is gone, and nothing is done for it (R140). -/
def contentBack (w : Awaited) (taken : Bool) (s : State) : State :=
  match w.carried with
  | .face a row => rowBack a row taken s
  | .reply a serial => if w.stale then s else replyBack a serial taken s
  | .ticket a id => if w.stale then s else ticketBack a id taken s
  | .beacon | .echo _ => s

/-! ## The echo (R150) -/

/-- The echo state. -/
def setEcho (e : EchoState) (s : State) : State := updLoop (fun l => { l with echo := e }) s

/-- The contents of a LOOP_ECHO that is DONE. -/
def echoContents (timedOut : Bool) (time : Nat) : Bytes :=
  [byte (flagCode timedOut), 0x00#8, 0x00#8, 0x00#8] ++ word32 time

/-- An echo that was on the ring has been lost: it is answered TIMEOUT. -/
def echoLost (c : Carried) (s : State) : State :=
  match c with
  | .echo via => respond via .loopEcho (.done (echoContents true 0)) (setEcho .none s)
  | _ => s

/-- The loop has left UP: an echo that waits is refused (R150). -/
def echoRefused (s : State) : State :=
  match s.loop.echo with
  | .waiting via => respond via .loopEcho (.refused .loopNotUp) (setEcho .none s)
  | _ => s

/-- A LOOP_ECHO is taken (R150). -/
def takeEcho (via : Via) (s : State) : State :=
  if s.loop.state = .up then
    match s.loop.echo with
    | .none => setEcho (.waiting via) s
    | _ => respond via .loopEcho .busy s
  else respond via .loopEcho (.refused .loopNotUp) s

/-- LOOP_ECHO (R150). -/
def execLoopEcho (via : Via) (s : State) : Host.Outcome State Fault Refusal :=
  .next (whenTaking s (takeEcho via))

/-! ## Panel states (R144) -/

/-- A whole-face mark on one face (R126). -/
def markFace (a : Addr) (s : State) : State := updFace a Face.wholeMark s

/-- An ABSENT panel is back (R144). -/
def panelReturned (a : Addr) (s : State) : State :=
  markFace a (raisePanel .panelReturned (address a) 0 s)

/-- A panel has shown itself: UNKNOWN and ABSENT become PRESENT with the miss count 0 (R144). -/
def panelSeen (a : Addr) (s : State) : State :=
  match (s.panels.get a).state with
  | .unknown => updPanel a (fun p => { p with state := .present, misses := 0 }) s
  | .absent => panelReturned a (updPanel a (fun p => { p with state := .present, misses := 0 }) s)
  | .present | .muted => s

/-- A panel success (R144). -/
def panelSuccess (a : Addr) (s : State) : State :=
  match (s.panels.get a).state with
  | .present => updPanel a (fun p => { p with misses := 0 }) s
  | .unknown | .absent | .muted => panelSeen a s

/-- A panel miss; `detail` says whether by an untaken return (0) or a timeout (1) (R144). -/
def panelMiss (a : Addr) (detail : Nat) (s : State) : State :=
  let p := s.panels.get a
  match p.state with
  | .absent | .muted => s
  | .unknown =>
    updPanel a (fun p => { p with
      misses := p.misses + 1
      state := if 3 ≤ p.misses + 1 then .absent else .unknown }) s
  | .present =>
    let s := updPanel a (fun p => { p with
      misses := p.misses + 1
      state := if 3 ≤ p.misses + 1 then .absent else .present }) s
    if 3 ≤ p.misses + 1 then raisePanel .panelSilent (address a) detail s else s

/-- What the end of an own frame does to its panel, unless its record is stale (R140, R141, R142). -/
def applyToPanel (w : Awaited) (f : Addr → State → State) (s : State) : State :=
  match w.carried.panel? with
  | some a => if w.stale then s else f a s
  | none => s

/-! ## Loop states (R137, R142) -/

/-- The loop leaves UP with BROKEN (R142). -/
def breakLoop (destination : Nat) (s : State) : State :=
  raise .loopBreak .none none (BitVec.ofNat 32 destination) (updLoop (fun l => { l with state := .broken }) s)

/-- One more loop miss, to 255 at most. -/
def countMiss (s : State) : State := updLoop (fun l => { l with misses := min (l.misses + 1) 255 }) s

/-- An awaited record has timed out (R142). -/
def timedOut (w : Awaited) (s : State) : State :=
  let s := contentBack w false (countMiss (endAwait s))
  let s := applyToPanel w (fun a => panelMiss a 1) s
  let broken := decide (s.loop.state = .up) && decide (3 ≤ s.loop.misses)
  let s := if broken then breakLoop w.carried.destination s else s
  let s := echoLost w.carried s
  if broken then echoRefused s else s

/-- The awaited frame times out, if one is awaited. -/
def returnTimeout (s : State) : State :=
  match s.loop.awaited with
  | some w => timedOut w s
  | none => s

/-- The awaited frame is abandoned, if one is awaited: its content is treated as on timeout (R142). -/
def abandonAwaited (s : State) : State :=
  match s.loop.awaited with
  | some w => echoLost w.carried (contentBack w false (endAwait s))
  | none => s

/-- RETURN_TIMEOUT (R142). -/
def execReturnTimeout (s : State) : Host.Outcome State Fault Refusal := .next (whenLive s returnTimeout)

/-- A loop that is DOWN with the signal PRESENT begins a cycle in SYNCING (R137). -/
def beginSync (s : State) : State :=
  if s.loop.state = .down ∧ s.loop.signal then
    updLoop (fun l => { l with state := .syncing, fresh := true }) s
  else s

/-- The receiver reports PRESENT (R137). -/
def signalPresent (s : State) : State := whenLive (updLoop (fun l => { l with signal := true }) s) beginSync

/-- The detail of LOOP_SIGNAL_LOST. -/
def LoopState.detail : LoopState → Nat
  | .down => 0 | .syncing => 1 | .up => 2 | .broken => 3

/-- The loop goes DOWN for want of a signal (R137). DESIGN CHOICE (notes/assumptions/58.md): a beacon held back and
not yet sent (R145) is dropped, since in DOWN the part sends nothing. -/
def goDown (s : State) : State :=
  let old := s.loop.state
  let s := updLoop (fun l => { l with state := .down, held := none }) s
  let s := raise .loopSignalLost .none none (BitVec.ofNat 32 old.detail) s
  echoRefused (abandonAwaited s)

/-- The receiver reports ABSENT to a part that has power: the latch is set (R137). -/
def signalAbsent (s : State) : State :=
  let s := updLoop (fun l => { l with signal := false, lossLatch := true }) s
  if s.loop.state = .down then s else goDown s

/-- SIGNAL_PRESENT (R137). -/
def execSignalPresent (s : State) : Host.Outcome State Fault Refusal := .next (signalPresent s)

/-- SIGNAL_ABSENT (R137). -/
def execSignalAbsent (s : State) : Host.Outcome State Fault Refusal :=
  .next (if s.ports.powerGood then signalAbsent s else updLoop (fun l => { l with signal := false }) s)

/-! ## Windows and beacons (R136, R138) -/

/-- The active settings taken at a cycle start (R136). -/
def LoopSettings.activated (l : LoopSettings) : LoopSettings :=
  { l with windowTime := if l.windowTime < 2 * l.timeout then 2 * l.timeout else l.windowTime }

/-- The window of a panel in the current cycle (R138). -/
def windowOf (s : State) (a : Addr) : Nat :=
  (s.panels.get a).cycleWindow.getD (address a) % s.loop.active.windows

/-- The panels served in the current window, in ascending address (R138). -/
def servedPanels (s : State) : List Addr :=
  (List.finRange 112).filter fun a =>
    (s.panels.get a).kind != .unbound && windowOf s a == s.loop.currentWindow

/-- The payload of a BEACON (`12` 12.5). -/
def beaconPayload (s : State) : Bytes :=
  let l := s.loop
  let panels := servedPanels s
  [byte l.currentWindow, byte l.active.windows, byte l.cycleCount] ++ word16 s.clock.day ++
    word16 s.clock.minute ++ [byte s.clock.second, byte (flagCode s.clock.valid), byte panels.length] ++
    panels.map fun a => byte (address a)

/-- A cycle starts: the active settings and the panels' table windows are taken (R136, R143). -/
def startCycle (s : State) : State :=
  { s with
    loop := { s.loop with active := s.settings.activated, currentWindow := 0, fresh := false }
    panels := s.panels.map fun p => { p with cycleWindow := p.window } }

/-- The window that opens next: window 0 after the last, and at the first opening since DOWN (R138). -/
def nextWindow (s : State) : State :=
  if s.loop.fresh then startCycle s
  else if s.loop.currentWindow + 1 < s.loop.active.windows then
    updLoop (fun l => { l with currentWindow := l.currentWindow + 1 }) s
  else startCycle (updLoop (fun l => { l with cycleCount := (l.cycleCount + 1) % 256 }) s)

/-- The counts of a window return to 0, and its service begins anew (R139, R146). -/
def freshWindow (now : Nat) (s : State) : State :=
  { s with
    loop := { s.loop with openedAt := now, cursor := 0 }
    panels := s.panels.map fun p => { p with callsInWindow := 0, served := false } }

/-- The awaited frame times out where its return timeout has run out by `now` (R142). -/
def lapseAwaited (now : Nat) (s : State) : State :=
  match s.loop.awaited with
  | some w => if w.sentAt + 1000 * s.loop.active.timeout ≤ now then timedOut w s else s
  | none => s

/-- The beacon of the window that opens is due, with the clock as it stands (R138), in place of one held back
since an earlier opening (DESIGN CHOICE, notes/assumptions/58.md). -/
def dueBeacon (s : State) : State := updLoop (fun l => { l with held := some (beaconPayload s) }) s

/-- The beacon that is due is made and sent at `now`, where an own frame can be. -/
def sendDue (now : Nat) (s : State) : State :=
  match s.loop.held with
  | some p => if outFree now s then sendOwn .beacon 0 beaconKind p now (updLoop (fun l => { l with held := none }) s) else s
  | none => s

/-- A window opens with its BEACON (R138). An own frame whose return timeout has run out by then is timed out (R139,
R142). DESIGN CHOICE (notes/assumptions/58.md), where forwarded frames have held an own frame back (R145): one still
awaited and not timed out goes on to be, and the beacon waits until it has ended and loop-out is free. -/
def openWindow (now : Nat) (s : State) : State :=
  sendDue now (dueBeacon (freshWindow now (nextWindow (lapseAwaited now s))))

/-- WINDOW_OPEN (R138). -/
def execWindowOpen (now : Nat) (s : State) : Host.Outcome State Fault Refusal :=
  .next (whenLive s fun s => if s.loop.state = .down then s else openWindow now s)

/-! ## Outbound service (R139) -/

/-- The reply that a panel would be sent next: its oldest READY entry (R148). -/
def readyReply (p : Panel) : Option (ReplyEntry × CallAnswer) :=
  p.replies.findSome? fun e =>
    match e.state with
    | .ready x => some (e, x)
    | _ => none

/-- The row that a face offers next: the lowest dirty and not in flight (R126). -/
def offeredRow (f : Face) : Option (Fin 8) := (List.finRange 8).find? fun i => f.dirty.get i && !f.inFlight.get i

/-- What a panel would be sent next, its lapsed TICKET frames left out (R139). -/
def nextFor (s : State) (a : Addr) : Option Carried :=
  let p := s.panels.get a
  match readyReply p, p.tickets, offeredRow (s.composer.faces.get a) with
  | some (e, _), _, _ => some (.reply a e.serial)
  | none, t :: _, _ => some (.ticket a t.booking)
  | none, [], some row => some (.face a row)
  | none, [], none => if p.state = .absent then some (.face a 0) else none

/-- The TICKET frames at the head of a panel's list whose tickets are gone are dropped as they come to be sent
(R149). -/
def dropLapsed (a : Addr) (s : State) : State :=
  if (readyReply (s.panels.get a)).isSome then s
  else updPanel a (fun p => { p with
    tickets := p.tickets.dropWhile fun e => !hasTicket s e.kitchen e.booking }) s

/-- The panel may be sent a frame now: an ABSENT panel is sent one in its window (R139). -/
def mayServe (s : State) (a : Addr) : Bool :=
  !((s.panels.get a).state == .absent && (s.panels.get a).served)

/-- The payload of a REPLY (`12` 12.5). -/
def replyPayload (e : ReplyEntry) (x : CallAnswer) : Bytes :=
  [byte e.callKind, byte e.sequence, byte x.status.code, optByte (x.reason.map Reason.code)] ++
    (x.booking.map fun id => word16 id.toNat).getD [0xFF#8, 0xFF#8] ++
    (x.qe.map word32).getD [0xFF#8, 0xFF#8, 0xFF#8, 0xFF#8]

/-- The payload of a TICKET (`12` 12.5). -/
def ticketPayload (t : TicketFrame) : Bytes :=
  word16 t.booking.toNat ++ word32 t.qd ++ word16 t.load ++ glyphField 24 t.roomName

/-- The payload of a FACE: the row as shown, and the level (R126, `12` 12.5). -/
def facePayload (s : State) (a : Addr) (row : Fin 8) : Bytes :=
  let f := s.composer.faces.get a
  [byte row.val, byte f.area.level] ++ rowImage ((shownRows s.overlays f).get row)

/-- The oldest READY reply of a panel is sent (R148). -/
def sendReply (a : Addr) (now : Nat) (s : State) : State :=
  match readyReply (s.panels.get a) with
  | none => s
  | some (e, x) =>
    sendOwn (.reply a e.serial) (address a) replyKind (replyPayload e x) now
      (updPanel a (fun p => { p with replies := p.replies.map fun q =>
        if q.serial == e.serial then { q with state := .inFlight x } else q }) s)

/-- The oldest TICKET frame of a panel is sent (R149). -/
def sendTicket (a : Addr) (now : Nat) (s : State) : State :=
  match (s.panels.get a).tickets with
  | [] => s
  | t :: _ => sendOwn (.ticket a t.booking) (address a) ticketKind (ticketPayload t) now s

/-- A row is taken for a FACE frame and sent (R126). -/
def sendRow (a : Addr) (row : Fin 8) (now : Nat) (s : State) : State :=
  sendOwn (.face a row) (address a) faceKind (facePayload s a row) now
    (updFace a (fun f => { f with dirty := f.dirty.set row false, inFlight := f.inFlight.set row true }) s)

/-- The frame chosen for a panel is sent. -/
def sendChosen (c : Carried) (now : Nat) (s : State) : State :=
  match c with
  | .reply a _ => sendReply a now s
  | .ticket a _ => sendTicket a now s
  | .face a row => sendRow a row now s
  | .beacon | .echo _ => s

/-- The panels of a list are visited in turn, and the first that has a frame is sent it (R139). -/
def visit (now : Nat) : List Addr → State → State
  | [], s => updLoop (fun l => { l with cursor := 0 }) s
  | a :: as, s =>
    if mayServe s a then
      let s := dropLapsed a s
      match nextFor s a with
      | some c =>
        sendChosen c now (updLoop (fun l => { l with cursor := address a })
          (updPanel a (fun p => { p with served := true }) s))
      | none => visit now as s
    else visit now as s

/-- The order in which the panels of the window are visited next: the rest of the round, then the next round
(R139). -/
def visitOrder (s : State) : List Addr :=
  let l := servedPanels s
  (l.filter fun a => decide (s.loop.cursor < address a)) ++ l.filter fun a => decide (address a ≤ s.loop.cursor)

/-- A frame of the outbound service may be started: the loop is UP, an own frame can be sent, and one return timeout
remains before the next window is due (R139, R145). -/
def mayStart (now : Nat) (s : State) : Bool :=
  s.loop.state == .up && outFree now s &&
    decide (now + 1000 * s.loop.active.timeout ≤ s.loop.openedAt + 1000 * s.loop.active.windowTime)

/-- The next own frame: an echo that waits, else the next panel's (R139, R150). -/
def serveNext (now : Nat) (s : State) : State :=
  match s.loop.echo with
  | .waiting via => sendOwn (.echo via) 0 echoKind [] now (setEcho (.inFlight via) s)
  | _ => visit now (visitOrder s) s

/-- Loop-out is offered at `now`: the beacon held back is the next own frame, else the outbound service chooses one
(R138, R139). DESIGN CHOICE (notes/assumptions/58.md): a beacon held back is sent when loop-out is free (R145),
however little of its window is left. -/
def serveAt (now : Nat) (s : State) : State :=
  if s.loop.held.isSome then sendDue now s
  else if mayStart now s then serveNext now s else s

/-- OWN_FRAME_SEND (R139). -/
def execOwnFrameSend (now : Nat) (s : State) : Host.Outcome State Fault Refusal := .next (whenLive s (serveAt now))

/-! ## Frames that come home (R135, R141) -/

/-- A frame is stripped for its check word (R135). -/
def checkFailed (s : State) : State :=
  updLoop (fun l => { l with checkFailures := min (l.checkFailures + 1) 65535 }) s

/-- A frame is stripped for another reason: the stray count rises. -/
def strip (s : State) : State := updLoop (fun l => { l with strays := min (l.strays + 1) 65535 }) s

/-- A frame is stripped and ROGUE_FRAME raised (R141, R145). -/
def stripRogue (subject detail : Nat) (s : State) : State := raisePanel .rogueFrame subject detail (strip s)

/-- A returning frame matches an awaited record at `now` (R141). -/
def matchedBy (s : State) (f : LoopFrame) (now : Nat) (w : Awaited) : Bool :=
  decide (now ≤ w.sentAt + 1000 * s.loop.active.timeout) && f.sequence == w.sequence

/-- A beacon is home: a SYNCING or BROKEN loop is UP, and BROKEN marks every face (R137, R141). -/
def beaconHome (s : State) : State :=
  match s.loop.state with
  | .syncing => updLoop (fun l => { l with state := .up }) s
  | .broken => updFaces (fun _ f => f.wholeMark) (updLoop (fun l => { l with state := .up }) s)
  | .up | .down => s

/-- The echo is home (R150). -/
def echoHome (via : Via) (time : Nat) (s : State) : State :=
  respond via .loopEcho (.done (echoContents false (max time 1))) (setEcho .none s)

/-- The outcome of a matched frame, by its kind and its taken mark (R141). -/
def matched (w : Awaited) (taken : Bool) (now : Nat) (s : State) : State :=
  let s := updLoop (fun l => { l with awaited := none, misses := 0 }) s
  match w.carried with
  | .beacon => beaconHome s
  | .echo via => echoHome via (now - w.sentAt) s
  | .face _ _ | .reply _ _ | .ticket _ _ =>
    applyToPanel w (fun a => if taken then panelSuccess a else panelMiss a 0) (contentBack w taken s)

/-- A frame of origin 0 is judged (R141). -/
def ownReturn (f : LoopFrame) (now : Nat) (s : State) : State :=
  match s.loop.awaited with
  | some w => if matchedBy s f now w then matched w f.taken now s else stripRogue 0 2 s
  | none => stripRogue 0 2 s

/-! ## Calls (R146, R147) -/

/-- A violation of a panel's window: counted, and the third mutes the panel (R146, R144). -/
def windowViolation (a : Addr) (s : State) : State :=
  let w := s.loop.currentWindow
  let s := raisePanel .windowViolation (address a) w (strip s)
  let n := (s.panels.get a).violations + 1
  if n < 3 then updPanel a (fun p => { p with violations := n }) s
  else raisePanel .panelMuted (address a) w (updPanel a (fun p => { p with violations := n, state := .muted }) s)

/-- The call comes in its panel's window, which has had fewer than two (R146, step 3). -/
def inWindow (s : State) (a : Addr) : Bool :=
  windowOf s a == s.loop.currentWindow && decide ((s.panels.get a).callsInWindow < Config.callsPerWindow)

/-- A door panel's request joins the queue, or is answered BUSY (R49). -/
def offerPanel (place : ReplyPlace) (r : Request) (s : State) : State :=
  if queueFull s then answerCall place (.bare .busy) s else joinQueue r s

/-- A door panel's call reaches its block (R146, step 6, R48). -/
def handDoorCall (place : ReplyPlace) (room : RoomNo) (payload : Bytes) (s : State) : State :=
  match byteAt payload 0 with
  | 1 =>
    { s with deliveries := { s.deliveries with
        taps := s.deliveries.taps ++ [⟨place, room, BitVec.ofNat 32 (word32At payload 1)⟩] } }
  | 2 =>
    let choice := byteAt payload 1
    if 1 ≤ choice ∧ choice ≤ 4 then offerPanel place (.bookNow place room choice) s
    else answerCall place (.bare .malformed) s
  | 3 => offerPanel place (.extend place room) s
  | 4 => offerPanel place (.endNow place room) s
  | _ => answerCall place (.bare .malformed) s

/-- A pantry panel's call is handed to the Catering Scheduler (R146, step 6). -/
def handPantryCall (place : ReplyPlace) (kitchen : KitchenNo) (payload : Bytes) (s : State) : State :=
  let call (delivered : Bool) : State :=
    { s with deliveries := { s.deliveries with
        pantryCalls := s.deliveries.pantryCalls ++
          [⟨place, kitchen, BitVec.ofNat 16 (word16At payload 1), delivered⟩] } }
  match byteAt payload 0 with
  | 5 => call false
  | 6 => call true
  | _ => answerCall place (.bare .malformed) s

/-- A call that has its reply entry is handed on with its panel's binding (R146, step 6). -/
def handCall (place : ReplyPlace) (payload : Bytes) (s : State) : State :=
  let p := s.panels.get place.panel
  match p.room?, p.kitchen? with
  | some r, _ => handDoorCall place r payload s
  | none, some k => handPantryCall place k payload s
  | none, none => answerCall place (.bare .malformed) s

/-- A reply entry is made for a call (R147). -/
def makeReply (a : Addr) (sequence : Nat) (payload : Bytes) (s : State) : State :=
  let n := s.deliveries.nextSerial
  let s := updPanel a (fun p => { p with replies := p.replies ++
    [{ serial := n, callKind := byteAt payload 0, sequence := sequence, state := .waiting }] }) s
  { s with deliveries := { s.deliveries with nextSerial := n + 1 } }

/-- Steps 4 to 6 of R146: the call is taken in its window. -/
def takeCall (a : Addr) (sequence : Nat) (payload : Bytes) (s : State) : State :=
  let s := panelSeen a (updPanel a (fun p => { p with violations := 0, callsInWindow := p.callsInWindow + 1 }) s)
  if Config.replyPlaces ≤ (s.panels.get a).replies.length then
    raisePanel .callOverrun (address a) (byteAt payload 0) (strip s)
  else
    handCall ⟨a, s.deliveries.nextSerial⟩ payload (makeReply a sequence payload s)

/-- A call from a panel is judged (R146). -/
def judgeCall (a : Addr) (sequence : Nat) (payload : Bytes) (s : State) : State :=
  if s.loop.state ≠ .up ∨ (s.panels.get a).state = .muted then strip s
  else if inWindow s a then takeCall a sequence payload s
  else windowViolation a s

/-! ## Frames from panels (R145) -/

/-- A panel frame is sent on from loop-out at once (R145): after what has begun to be sent, and before any own frame
that has not, which waits until loop-out is free. -/
def loopForward (b : Bytes) (now : Nat) (s : State) : State :=
  let p := s.ports
  { s with ports := { p with
    loopOut := p.loopOut ++ [b]
    loopBusyUntil := max p.loopBusyUntil now + Config.forwardTime p.forwards
    forwards := p.forwards + 1 } }

/-- A panel frame from a bound panel is judged (R145). -/
def judgeBound (a : Addr) (f : LoopFrame) (now : Nat) (s : State) : State :=
  if f.destination ≠ 0 then
    if f.seen then stripRogue f.origin 1 s else loopForward f.withSeen.bytes now s
  else if f.kind ≠ callKind then stripRogue f.origin 3 s
  else judgeCall a f.sequence f.payload s

/-- A frame of an origin other than 0 is judged (R145). -/
def judgePanelFrame (f : LoopFrame) (now : Nat) (s : State) : State :=
  match addr? f.origin with
  | none => stripRogue 0 4 s
  | some a => if (s.panels.get a).kind = .unbound then stripRogue f.origin 0 s else judgeBound a f now s

/-- A frame that has passed its check word is judged by its origin (R135). -/
def judgeFrame (f : LoopFrame) (now : Nat) (s : State) : State :=
  if f.origin = 0 then ownReturn f now s else judgePanelFrame f now s

/-- A frame reaches loop-in (R135). -/
def loopIn (b : Bytes) (now : Nat) (s : State) : State :=
  match readLoop b with
  | none => checkFailed s
  | some f => judgeFrame f now s

/-- OWN_FRAME_RETURN (R141). -/
def execOwnFrameReturn (frame : Bytes) (now : Nat) (s : State) : Host.Outcome State Fault Refusal :=
  .next (whenLive s (loopIn frame now))

/-- PANEL_FRAME (R145). -/
def execPanelFrame (frame : Bytes) (now : Nat) (s : State) : Host.Outcome State Fault Refusal :=
  .next (whenLive s (loopIn frame now))

/-- The moment at which a CALL reaches loop-in, which its command does not carry: a free value. It is read only for
a frame of origin 0, to be matched with the own frame sent last (R141, notes/assumptions/21.md). -/
def callMoment (s : State) : Nat := Config.callTime ((s.loop.awaited.map fun w => w.sentAt).getD 0)

/-- A CALL frame as its fields: one whose payload is too short for its call kind is stripped as a check
failure (R172), and any other is judged by its origin (R135). -/
def callIn (origin sequence : Nat) (payload : Bytes) (s : State) : State :=
  if payload.length < requiredPayload callKind payload then checkFailed s
  else judgeFrame
    { destination := 0, origin := origin, kind := callKind, flags := byte (sequence % 16), payload := payload }
    (callMoment s) s

/-- CALL (R146). -/
def execCall (origin sequence : Nat) (payload : Bytes) (s : State) : Host.Outcome State Fault Refusal :=
  .next (whenLive s (callIn origin sequence payload))

end Sys2Proof.Machine
end

