-- ==== Sys2Proof/Machine/Moves.lean ====
section
/-!
DEFINITION. Moves and the move stack (chapter 5): the displacement step, the pushes and their overflow, the
placing of moving bookings in alternates, and the vacating of a room; with the meanings of DISPLACEMENT,
MOVE_FRAME_POP and VACATE.
-/

namespace Sys2Proof.Machine

/-! ## Releases of moving bookings (R75, R80) -/

/-- The detail of UNPLACED and CHAIN_OVERFLOW: the origin room plus 256 times the push depth. -/
def MoveFrame.detail (m : MoveFrame) : Nat := m.origin.val + 256 * m.depth

/-- The booking of a frame is released UNPLACED, and a class raised for it (R75, R80). -/
def releaseFrame (c : ExcClass) (m : MoveFrame) (s : State) : State :=
  match s.record? m.booking with
  | none => s
  | some r => raiseFor c r m.detail (release r.id .unplaced s)

/-- One release more among the figures (R81). -/
def Figures.lose (n : Figures) : Figures := { n with unplaced := n.unplaced + 1 }

/-! ## The move stack (R74, R75) -/

/-- A push: with 5 frames standing, the bottom frame is removed first and its booking lost by overflow. -/
def pushFrame (p : Flight × State) (m : MoveFrame) : Flight × State :=
  let f := p.1
  if f.stack.length < Config.stackFrames then ({ f with stack := m :: f.stack }, p.2)
  else match f.stack.getLast? with
    | none => p
    | some b =>
      ({ f with stack := m :: f.stack.dropLast, figures := { f.figures.lose with overflow := true } },
        releaseFrame .chainOverflow b p.2)

/-! ## The displacement step (R73) -/

/-- Every booking named is still BOOKED. -/
def allBooked (s : State) (ids : List BookingId) : Bool :=
  ids.all fun id => (s.record? id).any fun r => r.state == .booked

/-- A booking is removed from its lists and becomes MOVING. -/
def makeMoving (s : State) (r : Record) : State :=
  updRecord r.id (fun q => { q with state := .moving }) (removeRecord r s)

/-- The frame of a displaced booking: its origin room is the room it stood in. -/
def frameOf (depth : Nat) (r : Record) : MoveFrame := { booking := r.id, origin := r.room, depth := depth }

/-- The bookings named become MOVING, are counted displaced and pushed in the order given (R73, R74, R81). -/
def displace (ids : List BookingId) (depth : Nat) (next : Phase) (f : Flight) (s : State) : State :=
  let rs := ids.filterMap s.record?
  let s := rs.foldl makeMoving s
  let f := { f with phase := next, figures := { f.figures with displaced := f.figures.displaced + rs.length } }
  let p := (rs.map (frameOf depth)).foldl pushFrame (f, s)
  setFlight p.1 p.2

/-- The store judges a displacement: all the bookings named, or none (R73). -/
def judgeDisplacement (ids : List BookingId) (depth : Nat) (granted refused : Phase) (f : Flight) (s : State) :
    State :=
  if allBooked s ids then displace ids depth granted f s else setFlight { f with phase := refused } s

/-- The displacement that the engine has asked for, if it has asked for one. -/
def displacementStep (s : State) : State :=
  match s.engine.inFlight with
  | none => s
  | some f =>
    match f.phase with
    | .displaceRequester ids => judgeDisplacement ids 1 .place (.check 12) f s
    | .displaceMoving t sp ids => judgeDisplacement ids (t.frame.depth + 1) (.placeMoving t sp) (.recheck t) f s
    | .displaceVacated id => judgeDisplacement [id] 1 .serve (.vacateRead false) f s
    | _ => s

/-- DISPLACEMENT (R73). -/
def execDisplacement (s : State) : Host.Outcome State Fault Refusal := .next (engineStep displacementStep s)

/-! ## Placing a moving booking (R77 to R80) -/

/-- The position that a trial has come to (R77). -/
def Trial.position (t : Trial) : Nat := (t.pointer + t.tried) % t.alternates.length

/-- The alternate at that position, none when the pass has tried every position. -/
def Trial.alternate? (t : Trial) : Option RoomNo :=
  if t.tried < t.alternates.length then t.alternates[t.position]? else none

/-- The next position of the pass. -/
def Trial.onward (t : Trial) : Trial := { t with tried := t.tried + 1 }

/-- The grounds on which an alternate is passed over (R77). -/
def passedOver (s : State) (t : Trial) (r : Record) (a : RoomNo) : Bool :=
  !inService s a || decide ((s.rooms.get a).capacity < r.attendees) || a == t.frame.origin

/-- The span of a booking in an alternate (R55). -/
def spanFor (s : State) (a : RoomNo) (r : Record) : Span := spanIn (s.rooms.get a) r.qs r.qe

/-- A conflict check of a moving booking in an alternate: placed, displacing or onward (R73, R77, R78). -/
def checkAlternate (t : Trial) (r : Record) (a : RoomNo) (s : State) : Phase :=
  let sp := spanFor s a r
  match conflictsIn s a sp (some r.id) with
  | [] => .placeMoving t sp
  | cs =>
    if t.pass = .displacing ∧ mayDisplace s a r.cls cs then .displaceMoving t sp (cs.map (·.id))
    else .tryNext t.onward

/-- The engine pops the top frame and reads its origin room's alternates and pointer (R76, R77, R18). -/
def popFrame (m : MoveFrame) (rest : List MoveFrame) (f : Flight) (s : State) : State :=
  let e := s.rooms.get m.origin
  let s := { s with rooms := s.rooms.set m.origin { e with altsWritten := false } }
  setFlight { f with
    stack := rest
    phase := .tryNext { frame := m, alternates := e.alternates, pointer := e.pointer, pass := .freeSpan,
                        tried := 0 } } s

/-- A moving booking that no alternate takes is released UNPLACED (R80). -/
def unplace (t : Trial) (f : Flight) (s : State) : State :=
  setFlight { f with phase := .serve, figures := f.figures.lose } (releaseFrame .unplaced t.frame s)

/-- The pass has tried every position: the displacement pass follows, or the release (R78). -/
def endPass (t : Trial) (f : Flight) (s : State) : State :=
  if t.pass = .freeSpan ∧ t.alternates ≠ [] then
    setFlight { f with phase := .tryNext { t with pass := .displacing, tried := 0 } } s
  else unplace t f s

/-- The engine reads the next alternate (R77, R78). -/
def tryAlternate (t : Trial) (f : Flight) (s : State) : State :=
  match t.alternate? with
  | none => endPass t f s
  | some a =>
    match s.record? t.frame.booking with
    | none => setFlight { f with phase := .serve } s
    | some r =>
      if passedOver s t r a then setFlight { f with phase := .tryNext t.onward } s
      else setFlight { f with phase := checkAlternate t r a s } s

/-- The conflict check of an alternate is made again after a refused displacement (R73). -/
def recheckAlternate (t : Trial) (f : Flight) (s : State) : State :=
  match t.alternate?, s.record? t.frame.booking with
  | some a, some r => setFlight { f with phase := checkAlternate t r a s } s
  | _, _ => setFlight { f with phase := .tryNext t.onward } s

/-- The pointer of the origin room advances past the position taken, unless the list has been written since
the engine read it (R79, R18). -/
def advancePointer (t : Trial) (s : State) : State :=
  { s with rooms := s.rooms.upd t.frame.origin fun e =>
      if e.altsWritten then e else { e with pointer := (t.position + 1) % t.alternates.length } }

/-- The record as R79, steps 1 and 2, place it. -/
def Record.placedIn (a : RoomNo) (sp : Span) (state : BookingState) (r : Record) : Record :=
  { r with room := a, ss := sp.first, se := sp.last, state := state }

/-- A moving booking is placed in the alternate it has come to (R79). -/
def placeMove (t : Trial) (sp : Span) (f : Flight) (s : State) : State :=
  match t.alternate?, s.record? t.frame.booking with
  | some a, some r =>
    let r' := r.placedIn a sp (placedState s a r.qs)
    let s := insertRecord r' (putRecord r' s)
    let s := recomputeRetire r.id (settleMove r.id a s)
    let s := advancePointer t s
    setFlight { f with phase := .serve,
                       figures := { f.figures with elsewhere := f.figures.elsewhere + 1 } } s
  | _, _ => setFlight { f with phase := .serve } s

/-! ## Vacating a room (R25, R82, R83) -/

/-- The next record that a VACATE takes: BOOKED and not joined. -/
def nextVacated (s : State) (v : RoomNo) : Option Record :=
  (s.listed v).find? fun r => r.state == .booked && !r.joined

/-- VACATE_INCOMPLETE, where records are left in the room (R83). -/
def vacateLeft (v : RoomNo) (s : State) : State :=
  match (s.store.lists.get v).length with
  | 0 => s
  | n => raise .vacateIncomplete (.room v) none (BitVec.ofNat 32 n) s

/-- The engine reads the room of a VACATE and its list (R82). -/
def readVacated (v : RoomNo) (f : Flight) (s : State) : State :=
  if (s.rooms.get v).state = .outOfService then
    match nextVacated s v with
    | some r => setFlight { f with phase := .displaceVacated r.id } s
    | none => complete f (.done []) (.bare .done) (vacateLeft v s)
  else complete f (.done []) (.bare .done) s

/-- A pop that finds the stack empty: the admission completes, or the VACATE goes on (R76, R82). -/
def popEmpty (f : Flight) (s : State) : State :=
  match f.request with
  | .vacate _ => setFlight { f with phase := .vacateRead false } s
  | _ => completeIfServed s

/-- The engine's next reading of the room of the VACATE in flight, where that is what is due. -/
def vacateStep (s : State) : State :=
  match s.engine.inFlight with
  | none => s
  | some f =>
    match f.request, f.phase, f.stack with
    | .vacate v, .vacateRead _, _ => readVacated v f s
    | .vacate v, .serve, [] => readVacated v f s
    | _, _, _ => s

/-- VACATE (R82, R83). -/
def execVacate (s : State) : Host.Outcome State Fault Refusal := .next (engineStep vacateStep s)

/-! ## Serving the stack (R76) -/

/-- One of the engine's readings while it serves the stack. -/
def moveStep (s : State) : State :=
  match s.engine.inFlight with
  | none => s
  | some f =>
    match f.phase with
    | .serve =>
      match f.stack with
      | [] => popEmpty f s
      | m :: rest => popFrame m rest f s
    | .tryNext t => tryAlternate t f s
    | .recheck t => recheckAlternate t f s
    | .placeMoving t sp => placeMove t sp f s
    | _ => s

/-- A popped booking is still to be tried or placed. -/
def Phase.trying : Phase → Bool
  | .tryNext _ | .recheck _ | .placeMoving _ _ => true
  | _ => false

/-- A popped booking is in hand. -/
def inTrial (s : State) : Bool := s.engine.inFlight.any fun f => f.phase.trying

/-- Readings of one popped booking, `n` at most. -/
def moveSteps : Nat → State → State
  | 0, s => s
  | n + 1, s =>
    let s' := moveStep s
    if inTrial s' then moveSteps n s' else s'

/-- MOVE_FRAME_POP (R76 to R80). -/
def execMoveFramePop (work : Nat) (s : State) : Host.Outcome State Fault Refusal :=
  .next (engineStep (moveSteps work) s)

end Sys2Proof.Machine
end

