-- ==== Sys2Proof/Machine/Notices.lean ====
section
/-!
DEFINITION. The requests that the Exception Unit and the Booking Store answer at once (R44, R45, R155, R157,
R158, R160), and the arrival of a hold at its owner (R154); with the meanings of NOTICE_PEEK, NOTICE_TAKE,
NOTICE_FLUSH, ALERT_CLEAR, COUNTERS_READ, HOLD, QUERY and LIST_ROOM.
-/

namespace Sys2Proof.Machine

/-! ## Notice queues (R157, R158) -/

/-- The contents of a NOTICE_PEEK or NOTICE_TAKE: entries left, lost count, and the entries answered (`12`
12.6). -/
def noticeContents (left lost : Nat) (ns : List Notice) : Bytes :=
  [byte left, byte lost] ++ ns.flatMap noticeImage

/-- A notice queue is replaced. -/
def setNotices (q : Fin 4) (l : List Notice) (s : State) : State :=
  { s with exceptions := { s.exceptions with queues := s.exceptions.queues.set q l } }

/-- A NOTICE_PEEK is answered (R157). -/
def takePeek (via : Via) (queue : Nat) (s : State) : State :=
  match queueNo? queue with
  | none => respond via .noticePeek .malformed s
  | some q =>
    let l := s.exceptions.queues.get q
    respond via .noticePeek (.done (noticeContents l.length (s.exceptions.lost.get q) (l.take 1))) s

/-- The entries of a queue that a NOTICE_TAKE removes, oldest first, and then its answer (R157). -/
def takeNotices (via : Via) (q : Fin 4) (count : Nat) (s : State) : State :=
  let l := s.exceptions.queues.get q
  let left := l.drop count
  respond via .noticeTake (.done (noticeContents left.length (s.exceptions.lost.get q) (l.take count)))
    (setNotices q left s)

/-- A NOTICE_TAKE is judged and applied (R157). -/
def takeTake (via : Via) (queue count : Nat) (s : State) : State :=
  match queueNo? queue with
  | none => respond via .noticeTake .malformed s
  | some q =>
    if count < 1 ∨ 8 < count then respond via .noticeTake .malformed s else takeNotices via q count s

/-- A queue is emptied and its lost count set to 0 (R158). -/
def flushQueue (q : Fin 4) (s : State) : State :=
  { s with exceptions := { s.exceptions with
      queues := s.exceptions.queues.set q []
      lost := s.exceptions.lost.set q 0 } }

/-- A NOTICE_FLUSH is judged and applied (R158). -/
def takeFlush (via : Via) (queue : Nat) (s : State) : State :=
  match queueNo? queue with
  | none => respond via .noticeFlush .malformed s
  | some q =>
    respond via .noticeFlush
      (.done [byte (s.exceptions.queues.get q).length, byte (s.exceptions.lost.get q)]) (flushQueue q s)

/-- NOTICE_PEEK (R157). -/
def execNoticePeek (via : Via) (queue : Nat) (s : State) : Host.Outcome State Fault Refusal :=
  .next (whenTaking s (takePeek via queue))

/-- NOTICE_TAKE (R157). -/
def execNoticeTake (via : Via) (queue count : Nat) (s : State) : Host.Outcome State Fault Refusal :=
  .next (whenTaking s (takeTake via queue count))

/-- NOTICE_FLUSH (R158). -/
def execNoticeFlush (via : Via) (queue : Nat) (s : State) : Host.Outcome State Fault Refusal :=
  .next (whenTaking s (takeFlush via queue))

/-! ## Latches and counters (R155, R160) -/

/-- The latches as a mask, bit `i` for class `i`. -/
def latchMask (t : Tab Bool 22) : Nat := bits t.cells

/-- The latch of LOOP_SIGNAL_LOST, where it is set, is set again when it is cleared now (R160). One that is clear,
as after a reset, stays clear until the signal is next lost (R161). -/
def relatches (s : State) : Bool :=
  !s.loop.signal &&
    ((s.dispositions.get ExcClass.loopSignalLost.number).action == .notifyAlert ||
      (s.dispositions.get ExcClass.loopSignalLost.number).action == .hold)

/-- The latches after an ALERT_CLEAR (R160). -/
def clearedLatches (s : State) (mask : BitVec 32) : Tab Bool 22 :=
  Tab.gen fun i =>
    if mask.getLsbD i.val then
      i == ExcClass.loopSignalLost.number && relatches s && s.exceptions.latches.get i
    else s.exceptions.latches.get i

/-- The latches that an ALERT_CLEAR found set and left clear (R160). -/
def latchesGone (old new : Tab Bool 22) : Tab Bool 22 := Tab.gen fun i => old.get i && !new.get i

/-- An ALERT_CLEAR is applied and answered (R160). -/
def takeAlertClear (via : Via) (mask : BitVec 32) (s : State) : State :=
  let new := clearedLatches s mask
  let gone := latchesGone s.exceptions.latches new
  respond via .alertClear (.done (word32 (latchMask gone) ++ word32 (latchMask new)))
    { s with exceptions := { s.exceptions with latches := new } }

/-- ALERT_CLEAR (R160). -/
def execAlertClear (via : Via) (mask : BitVec 32) (s : State) : Host.Outcome State Fault Refusal :=
  .next (whenTaking s (takeAlertClear via mask))

/-- The contents of a COUNTERS_READ (`12` 12.7). -/
def counterContents (e : Exceptions) : Bytes :=
  e.counters.cells.flatMap word16 ++ word32 (latchMask e.latches) ++
    e.queues.cells.map (fun l => byte l.length) ++ e.lost.cells.map byte

/-- A COUNTERS_READ is answered, and the counters cleared where it asks for that (R155). -/
def takeCounters (via : Via) (clear : Bool) (s : State) : State :=
  respond via .countersRead (.done (counterContents s.exceptions))
    (if clear then { s with exceptions := { s.exceptions with counters := Tab.fill 22 0 } } else s)

/-- COUNTERS_READ (R155). -/
def execCountersRead (via : Via) (clear : Bool) (s : State) : Host.Outcome State Fault Refusal :=
  .next (whenTaking s (takeCounters via clear))

/-! ## Holds (R154, R21, R103) -/

/-- A hold reaches its owner: an IN_SERVICE room becomes HELD, an OPEN kitchen PAUSED. -/
def applyHold (h : HoldTarget) (s : State) : State :=
  match h with
  | .room r =>
    if (s.rooms.get r).state = .inService then
      roomStateChanged r { s with rooms := s.rooms.upd r fun e => { e with state := .held } }
    else s
  | .kitchen k =>
    if (s.kitchens.get k).state = .opened then
      kitchenChanged k { s with kitchens := s.kitchens.upd k fun e => { e with state := .paused } }
    else s

/-- The oldest hold handed on reaches its owner. -/
def takeHold (s : State) : State :=
  match s.exceptions.holds with
  | [] => s
  | h :: rest => applyHold h { s with exceptions := { s.exceptions with holds := rest } }

/-- HOLD (R154). -/
def execHold (s : State) : Host.Outcome State Fault Refusal := .next (whenPowered s takeHold)

/-! ## QUERY and LIST_ROOM (R44, R45) -/

/-- A QUERY is answered (R44). -/
def takeQuery (via : Via) (id : BookingId) (s : State) : State :=
  match s.record? id with
  | some r => respond via .query (.done (recordImage r ++ storeSummary s)) s
  | none => respond via .query ⟨.refused, some .unknownId, storeSummary s⟩ s

/-- QUERY (R44). -/
def execQuery (via : Via) (id : BookingId) (s : State) : Host.Outcome State Fault Refusal :=
  .next (whenTaking s (takeQuery via id))

/-- The records of a room's list with at least one grain in a day, in list order (R45). -/
def selected (s : State) (r : RoomNo) (day : Nat) : List Record :=
  (s.listed r).filter fun b =>
    decide (b.ss < (day + 1) * Config.dayGrains) && decide (day * Config.dayGrains < b.se)

/-- The entries of one LIST_ROOM answer: 40 at most (R45). -/
def listPage (l : List Record) (start : Nat) : List Record := (l.drop start).take 40

/-- The next index of a LIST_ROOM answer, absent where no record remains (R45). -/
def nextIndex (l : List Record) (start : Nat) : Bytes :=
  let n := start + (listPage l start).length
  if n < l.length then word16 n else [0xFF#8, 0xFF#8]

/-- The contents of a LIST_ROOM (`12` 12.3). -/
def listContents (s : State) (l : List Record) (start : Nat) : Bytes :=
  word16 l.length ++ [byte (listPage l start).length] ++ nextIndex l start ++ storeSummary s ++
    (listPage l start).flatMap listEntry

/-- A LIST_ROOM is judged and answered (R45). -/
def takeList (via : Via) (room day start : Nat) (s : State) : State :=
  match roomNo? room with
  | none => respond via .listRoom .malformed s
  | some r =>
    if Config.lastDay < day then respond via .listRoom .malformed s
    else respond via .listRoom (.done (listContents s (selected s r day) start)) s

/-- LIST_ROOM (R45). -/
def execListRoom (via : Via) (room day start : Nat) (s : State) : Host.Outcome State Fault Refusal :=
  .next (whenTaking s (takeList via room day start))

end Sys2Proof.Machine
end

