-- ==== Sys2Proof/Machine/Uplink.lean ====
section
/-!
DEFINITION. The uplink and cascade ports (R162 to R165) and the answer to PART_RESET (R169), with the meanings
of UPLINK_FRAME, CASCADE_FRAME, LINK_STATE_CHANGE and PART_RESET.
-/

namespace Sys2Proof.Machine

/-! ## PART_RESET (R169) -/

/-- A PART_RESET is answered DONE; its line reset is then due. It is carried out once that response, and so every
one made before it, has left (R163, R169). -/
def takePartReset (via : Via) (s : State) : State :=
  let s := respond via .partReset (.done []) s
  { s with ports := { s.ports with resetDue := true, unsent := 0 } }

/-- PART_RESET (R169). -/
def execPartReset (via : Via) (s : State) : Host.Outcome State Fault Refusal :=
  .next (whenTaking s (takePartReset via))

/-! ## Requests (R164) -/

/-- A claimed request is handed to the block that owns its work (R164). -/
def takeRequest (i : Instr) (s : State) : State :=
  match i with
  | .book via ask => takeBook via ask s
  | .modify via ask => takeModify via ask s
  | .cancel via id => takeCancel via id s
  | .query via id => takeQuery via id s
  | .listRoom via room day start => takeList via room day start s
  | .tableRead via table index => takeTableRead via table index s
  | .tableWrite via table index mask image => takeTableWrite via table index mask image s
  | .noticePeek via queue => takePeek via queue s
  | .noticeTake via queue count => takeTake via queue count s
  | .noticeFlush via queue => takeFlush via queue s
  | .clockSet via day minute second force => takeClockSet via day minute second force s
  | .clockRead via => takeClockRead via s
  | .panelText via address units => takeText via address units s
  | .panelOverlay via target choice => takeOverlay via target choice s
  | .alertClear via mask => takeAlertClear via mask s
  | .countersRead via clear => takeCounters via clear s
  | .loopEcho via => takeEcho via s
  | .partReset via => takePartReset via s
  | _ => s

/-- A request claimed by this part: MALFORMED by the port, or handed on (R164). -/
def claim (via : Via) (e : Envelope) (s : State) : State :=
  if e.version ≠ 1 then respondCode via e.kind .malformed s
  else match readRequest via e.kind e.payload with
    | some i => takeRequest i s
    | none => respondCode via e.kind .malformed s

/-! ## The uplink port (R162) -/

/-- A frame is dropped at the uplink port. -/
def dropUplink (s : State) : State :=
  { s with ports := { s.ports with uplinkDrops := min (s.ports.uplinkDrops + 1) 65535 } }

/-- A frame is dropped at the cascade port. -/
def dropCascade (s : State) : State :=
  { s with ports := { s.ports with cascadeDrops := min (s.ports.cascadeDrops + 1) 65535 } }

/-- A frame is sent on from the cascade port, as it came. -/
def forwardDown (f : EthFrame) (s : State) : State :=
  { s with ports := { s.ports with cascadeOut := s.ports.cascadeOut ++ [f] } }

/-- A frame is sent on from the uplink port at once, as it came, the responses made before it having left, or is
discarded where that link is DOWN (R163). -/
def forwardUp (f : EthFrame) (s : State) : State :=
  if s.ports.uplinkUp then
    { s with ports := { s.ports with uplinkOut := s.ports.uplinkOut ++ [f], unsent := 0 } }
  else s

/-- The answer NO_ROUTE. -/
def Answer.noRoute : Answer := ⟨.noRoute, none, []⟩

/-- Who asked, for the response to a frame. -/
def viaOf (f : EthFrame) (e : Envelope) : Via := { source := f.source, destination := f.destination, tag := e.tag }

/-- A request frame that has passed its checks is routed by its target node (R162). -/
def route (f : EthFrame) (e : Envelope) (s : State) : State :=
  if e.target = s.ports.node.val then claim (viaOf f e) e s
  else if s.ports.node.val < e.target ∧ s.ports.cascadeUp then forwardDown f s
  else respondCode (viaOf f e) e.kind .noRoute s

/-- The envelope of a frame whose Ethernet check and own check hold (R162). -/
def soundEnvelope (f : EthFrame) : Option Envelope := if f.checkOk then readEnvelope f.body else none

/-- A frame arrives at the uplink port (R162). -/
def uplinkFrame (f : EthFrame) (s : State) : State :=
  if f.frameType ≠ Config.frameType then s
  else match soundEnvelope f with
    | none => dropUplink s
    | some e => if e.direction = 0 then route f e s else dropUplink s

/-- A frame arrives at the cascade port (R163). -/
def cascadeFrame (f : EthFrame) (s : State) : State :=
  if f.frameType ≠ Config.frameType then s
  else match soundEnvelope f with
    | none => dropCascade s
    | some _ => forwardUp f s

/-- UPLINK_FRAME (R162, R164). -/
def execUplinkFrame (frame : EthFrame) (s : State) : Host.Outcome State Fault Refusal :=
  .next (whenTaking s (uplinkFrame frame))

/-- CASCADE_FRAME (R163). -/
def execCascadeFrame (frame : EthFrame) (s : State) : Host.Outcome State Fault Refusal :=
  .next (whenTaking s (cascadeFrame frame))

/-- A receiver reports its link (R162). -/
def setLink (uplink up : Bool) (s : State) : State :=
  if uplink then { s with ports := { s.ports with uplinkUp := up } }
  else { s with ports := { s.ports with cascadeUp := up } }

/-- LINK_STATE_CHANGE (R162). -/
def execLinkStateChange (uplink up : Bool) (s : State) : Host.Outcome State Fault Refusal :=
  .next (setLink uplink up s)

end Sys2Proof.Machine
end

