-- ==== Sys2Proof/Machine/Resets.lean ====
section
/-!
DEFINITION. The resets (R168, R169, with R12, R14, R46, R52, R87, R103, R120, R134, R151 and R161), and the
meanings of LINE_RESET, RESET_LINE_ASSERT, RESET_LINE_RELEASE, POWER_ON_RESET and POWER_GOOD_FALL.
-/

namespace Sys2Proof.Machine

/-! ## What the line reset leaves of each block -/

/-- A room entry is kept, but for the vacate-pending flag (R14). -/
def Room.lineReset (e : Room) : Room := { e with vacatePending := false }

/-- A panel entry keeps its kind, binding and table window (R151). -/
def Panel.lineReset (p : Panel) : Panel :=
  { freshPanel with kind := p.kind, binding := p.binding, window := p.window }

/-- A kitchen entry is kept, and OPEN (R103, R120). -/
def Kitchen.lineReset (k : Kitchen) : Kitchen := { k with state := .opened }

/-- Every load is 0, the tags are kept, the ticket lists are empty (R120). -/
def Catering.lineReset (c : Catering) : Catering :=
  { pages := c.pages.map fun p => emptyPage p.tag, tickets := Tab.fill 8 [] }

/-- The Loop Controller keeps the signal, the latch, the two counts of T8, and its active settings until the
first cycle start takes them anew (R151). -/
def Loop.lineReset (l : Loop) : Loop :=
  { downLoop with signal := l.signal, lossLatch := l.lossLatch, active := l.active,
                  checkFailures := l.checkFailures, strays := l.strays }

/-- The Exception Unit keeps its counters (R161). -/
def Exceptions.lineReset (e : Exceptions) : Exceptions := { clearExceptions with counters := e.counters }

/-- Work under way is discarded; what has been handed to a block and not yet taken is met after the reset
(R12, R46, R101, R120). -/
def Deliveries.lineReset (d : Deliveries) : Deliveries := { d with scan := none, pass := none, recompose := none }

/-- The straps are read (R168, R169). -/
def readStraps (straps : Fin 8) (s : State) : State := { s with ports := { s.ports with node := straps } }

/-- The holds that have been handed on reach their owners before the reset does. -/
def settleHolds (s : State) : State :=
  s.exceptions.holds.foldl (fun s h => applyHold h s) { s with exceptions := { s.exceptions with holds := [] } }

/-- Every block but the Face Composer after a line reset. -/
def resetBlocks (s : State) : State :=
  { s with
    rooms := s.rooms.map Room.lineReset
    panels := s.panels.map Panel.lineReset
    kitchens := s.kitchens.map Kitchen.lineReset
    store := emptyStore
    engine := idleEngine
    catering := s.catering.lineReset
    loop := s.loop.lineReset
    exceptions := s.exceptions.lineReset
    deliveries := s.deliveries.lineReset
    ports := { s.ports with resetDue := false } }

/-- The responses that have not begun to leave the uplink port when a reset reaches it are discarded (R168, R169):
as many of those made last as the free value says, and none of which the part knows that it has left. -/
def discardUnsent (s : State) : State :=
  let p := s.ports
  let kept := p.uplinkOut.length - min (Config.unsentAtReset p.resets) p.unsent
  { s with ports := { p with uplinkOut := p.uplinkOut.take kept, unsent := 0, resets := p.resets + 1 } }

/-- The line reset is carried out; the loop is SYNCING at once where the signal is PRESENT and the reset line is
not asserted (R151, R169). -/
def lineReset (straps : Fin 8) (s : State) : State :=
  readStraps straps (whenLive (resetComposer (resetBlocks (settleHolds (discardUnsent s)))) beginSync)

/-- LINE_RESET (R169). -/
def execLineReset (straps : Fin 8) (s : State) : Host.Outcome State Fault Refusal :=
  .next (whenPowered s (lineReset straps))

/-! ## The reset line (R168) -/

/-- The level of the reset line. -/
def setResetLine (b : Bool) (s : State) : State := { s with ports := { s.ports with resetAsserted := b } }

/-- The reset line is asserted: the line reset is carried out, and the part is held in it. -/
def assertReset (straps : Fin 8) (s : State) : State := whenPowered (setResetLine true s) (lineReset straps)

/-- The reset line is released: the straps are read, and the part takes frames again. -/
def releaseReset (straps : Fin 8) (s : State) : State :=
  whenPowered (setResetLine false s) fun s => readStraps straps (beginSync s)

/-- RESET_LINE_ASSERT (R168). -/
def execResetLineAssert (straps : Fin 8) (s : State) : Host.Outcome State Fault Refusal :=
  .next (assertReset straps s)

/-- RESET_LINE_RELEASE (R168). -/
def execResetLineRelease (straps : Fin 8) (s : State) : Host.Outcome State Fault Refusal :=
  .next (releaseReset straps s)

/-! ## Power (R168) -/

/-- The ports after the power-on reset: the lines that come from outside read as they stand, and what the part
has sent is kept in the model's record. -/
def Ports.poweredOn (p : Ports) (straps : Fin 8) : Ports :=
  { freshPorts with node := straps, uplinkUp := p.uplinkUp, cascadeUp := p.cascadeUp,
                    resetAsserted := p.resetAsserted, uplinkOut := p.uplinkOut, cascadeOut := p.cascadeOut,
                    loopOut := p.loopOut, resets := p.resets, forwards := p.forwards }

/-- Every block at its power-on values, with the commands that wait. -/
def powerOn (straps : Fin 8) (s : State) : State :=
  whenLive { State.reset with
    loop := { downLoop with signal := s.loop.signal }
    ports := s.ports.poweredOn straps
    pending := s.pending } beginSync

/-- Power fails: every operation in flight is abandoned, with no response, and a response that has not begun to
leave is not sent. -/
def powerOff (s : State) : State :=
  let s := discardUnsent s
  { s with
    engine := idleEngine
    loop := { s.loop with awaited := none, held := none, echo := .none }
    deliveries := s.deliveries.lineReset
    ports := { s.ports with powerGood := false, resetDue := false } }

/-- POWER_ON_RESET (R168). -/
def execPowerOnReset (straps : Fin 8) (s : State) : Host.Outcome State Fault Refusal :=
  .next (powerOn straps s)

/-- POWER_GOOD_FALL (R168). -/
def execPowerGoodFall (s : State) : Host.Outcome State Fault Refusal := .next (powerOff s)

end Sys2Proof.Machine
end

