-- ==== Sys2Proof/Machine/Dispatch.lean ====
section
/-!
DEFINITION. The dispatch of commands: one arm for each row of `spec/opcode_table.json`, each a direct call of
that command's meaning.
-/

namespace Sys2Proof.Machine

/-- What a command does to everything but the queue of waiting commands. -/
def exec (i : Instr) (s : State) : Host.Outcome State Fault Refusal :=
  match i with
  | .referenceEdge => Sys2Proof.Machine.execReferenceEdge s
  | .referenceLost => Sys2Proof.Machine.execReferenceLost s
  | .dayRollover => Sys2Proof.Machine.execDayRollover s
  | .grainScan pieces => Sys2Proof.Machine.execGrainScan pieces s
  | .dispatchPass pieces => Sys2Proof.Machine.execDispatchPass pieces s
  | .zoneRowRecompose pieces => Sys2Proof.Machine.execZoneRowRecompose pieces s
  | .clockSet via day minute second force => Sys2Proof.Machine.execClockSet via day minute second force s
  | .clockRead via => Sys2Proof.Machine.execClockRead via s
  | .uplinkFrame frame => Sys2Proof.Machine.execUplinkFrame frame s
  | .cascadeFrame frame => Sys2Proof.Machine.execCascadeFrame frame s
  | .book via ask => Sys2Proof.Machine.execBook via ask s
  | .modify via ask => Sys2Proof.Machine.execModify via ask s
  | .cancel via id => Sys2Proof.Machine.execCancel via id s
  | .admissionCheck => Sys2Proof.Machine.execAdmissionCheck s
  | .displacement => Sys2Proof.Machine.execDisplacement s
  | .moveFramePop work => Sys2Proof.Machine.execMoveFramePop work s
  | .vacate => Sys2Proof.Machine.execVacate s
  | .bookNow => Sys2Proof.Machine.execBookNow s
  | .extend => Sys2Proof.Machine.execExtend s
  | .endNow => Sys2Proof.Machine.execEndNow s
  | .tap => Sys2Proof.Machine.execTap s
  | .accept => Sys2Proof.Machine.execAccept s
  | .delivered => Sys2Proof.Machine.execDelivered s
  | .query via id => Sys2Proof.Machine.execQuery via id s
  | .listRoom via room day start => Sys2Proof.Machine.execListRoom via room day start s
  | .tableRead via table index => Sys2Proof.Machine.execTableRead via table index s
  | .tableWrite via table index mask image => Sys2Proof.Machine.execTableWrite via table index mask image s
  | .roomStateWrite via room code => Sys2Proof.Machine.execRoomStateWrite via room code s
  | .alternatesWrite via room entries => Sys2Proof.Machine.execAlternatesWrite via room entries s
  | .capacityPartnerWrite via room capacity partner => Sys2Proof.Machine.execCapacityPartnerWrite via room capacity partner s
  | .roomNameWrite via room name => Sys2Proof.Machine.execRoomNameWrite via room name s
  | .panelKindBindingWrite via address kind binding => Sys2Proof.Machine.execPanelKindBindingWrite via address kind binding s
  | .kitchenStateWrite via kitchen code => Sys2Proof.Machine.execKitchenStateWrite via kitchen code s
  | .capacityProfileWrite via kitchen slots => Sys2Proof.Machine.execCapacityProfileWrite via kitchen slots s
  | .overlayWrite via overlay rows => Sys2Proof.Machine.execOverlayWrite via overlay rows s
  | .dispositionWrite via cls action level => Sys2Proof.Machine.execDispositionWrite via cls action level s
  | .loopSettingsWrite via windows windowTime timeout => Sys2Proof.Machine.execLoopSettingsWrite via windows windowTime timeout s
  | .signalLossLatchClear via => Sys2Proof.Machine.execSignalLossLatchClear via s
  | .noticePeek via queue => Sys2Proof.Machine.execNoticePeek via queue s
  | .noticeTake via queue count => Sys2Proof.Machine.execNoticeTake via queue count s
  | .noticeFlush via queue => Sys2Proof.Machine.execNoticeFlush via queue s
  | .alertClear via mask => Sys2Proof.Machine.execAlertClear via mask s
  | .countersRead via clear => Sys2Proof.Machine.execCountersRead via clear s
  | .panelText via address units => Sys2Proof.Machine.execPanelText via address units s
  | .panelOverlay via target choice => Sys2Proof.Machine.execPanelOverlay via target choice s
  | .loopEcho via => Sys2Proof.Machine.execLoopEcho via s
  | .partReset via => Sys2Proof.Machine.execPartReset via s
  | .lineReset straps => Sys2Proof.Machine.execLineReset straps s
  | .resetLineAssert straps => Sys2Proof.Machine.execResetLineAssert straps s
  | .resetLineRelease straps => Sys2Proof.Machine.execResetLineRelease straps s
  | .powerOnReset straps => Sys2Proof.Machine.execPowerOnReset straps s
  | .powerGoodFall => Sys2Proof.Machine.execPowerGoodFall s
  | .hold => Sys2Proof.Machine.execHold s
  | .signalPresent => Sys2Proof.Machine.execSignalPresent s
  | .signalAbsent => Sys2Proof.Machine.execSignalAbsent s
  | .windowOpen now => Sys2Proof.Machine.execWindowOpen now s
  | .ownFrameSend now => Sys2Proof.Machine.execOwnFrameSend now s
  | .ownFrameReturn frame now => Sys2Proof.Machine.execOwnFrameReturn frame now s
  | .returnTimeout => Sys2Proof.Machine.execReturnTimeout s
  | .panelFrame frame now => Sys2Proof.Machine.execPanelFrame frame now s
  | .call origin sequence payload => Sys2Proof.Machine.execCall origin sequence payload s
  | .linkStateChange uplink up => Sys2Proof.Machine.execLinkStateChange uplink up s
  | .kitchenNameWrite via kitchen name => Sys2Proof.Machine.execKitchenNameWrite via kitchen name s

end Sys2Proof.Machine
end

