-- ==== Sys2Proof/Laws/State.lean ====
section
/-!
SUPPORT. What each single update of the state leaves as it was: one lemma per update, with one equation per
field, all of them for the simplifier. No proof about a longer operation need unfold one of these updates to
pass over it.
-/

namespace Sys2Proof.Machine

variable (s : State)

/-- `putRecord` changes the store alone. -/
@[simp] theorem putRecord_frame (r : Record) :
    (putRecord r s).clock = s.clock ∧ (putRecord r s).rooms = s.rooms ∧ (putRecord r s).panels = s.panels ∧
    (putRecord r s).menu = s.menu ∧ (putRecord r s).kitchens = s.kitchens ∧
    (putRecord r s).profile = s.profile ∧ (putRecord r s).overlays = s.overlays ∧
    (putRecord r s).dispositions = s.dispositions ∧ (putRecord r s).settings = s.settings ∧
    (putRecord r s).engine = s.engine ∧ (putRecord r s).catering = s.catering ∧
    (putRecord r s).composer = s.composer ∧ (putRecord r s).loop = s.loop ∧
    (putRecord r s).exceptions = s.exceptions ∧ (putRecord r s).ports = s.ports ∧
    (putRecord r s).deliveries = s.deliveries ∧ (putRecord r s).pending = s.pending :=
  ⟨rfl, rfl, rfl, rfl, rfl, rfl, rfl, rfl, rfl, rfl, rfl, rfl, rfl, rfl, rfl, rfl, rfl⟩

/-- `updRecord` changes the store alone. -/
@[simp] theorem updRecord_frame (id : BookingId) (f : Record → Record) :
    (updRecord id f s).clock = s.clock ∧ (updRecord id f s).rooms = s.rooms ∧
    (updRecord id f s).panels = s.panels ∧ (updRecord id f s).menu = s.menu ∧
    (updRecord id f s).kitchens = s.kitchens ∧ (updRecord id f s).profile = s.profile ∧
    (updRecord id f s).overlays = s.overlays ∧ (updRecord id f s).dispositions = s.dispositions ∧
    (updRecord id f s).settings = s.settings ∧ (updRecord id f s).engine = s.engine ∧
    (updRecord id f s).catering = s.catering ∧ (updRecord id f s).composer = s.composer ∧
    (updRecord id f s).loop = s.loop ∧ (updRecord id f s).exceptions = s.exceptions ∧
    (updRecord id f s).ports = s.ports ∧ (updRecord id f s).deliveries = s.deliveries ∧
    (updRecord id f s).pending = s.pending :=
  ⟨rfl, rfl, rfl, rfl, rfl, rfl, rfl, rfl, rfl, rfl, rfl, rfl, rfl, rfl, rfl, rfl, rfl⟩

/-- `markRoom` changes the composer alone. -/
@[simp] theorem markRoom_frame (r : RoomNo) :
    (markRoom r s).clock = s.clock ∧ (markRoom r s).rooms = s.rooms ∧ (markRoom r s).panels = s.panels ∧
    (markRoom r s).menu = s.menu ∧ (markRoom r s).kitchens = s.kitchens ∧
    (markRoom r s).profile = s.profile ∧ (markRoom r s).overlays = s.overlays ∧
    (markRoom r s).dispositions = s.dispositions ∧ (markRoom r s).settings = s.settings ∧
    (markRoom r s).store = s.store ∧ (markRoom r s).engine = s.engine ∧
    (markRoom r s).catering = s.catering ∧ (markRoom r s).loop = s.loop ∧
    (markRoom r s).exceptions = s.exceptions ∧ (markRoom r s).ports = s.ports ∧
    (markRoom r s).deliveries = s.deliveries ∧ (markRoom r s).pending = s.pending :=
  ⟨rfl, rfl, rfl, rfl, rfl, rfl, rfl, rfl, rfl, rfl, rfl, rfl, rfl, rfl, rfl, rfl, rfl⟩

/-- `answerCall` changes the panels alone. -/
@[simp] theorem answerCall_frame (p : ReplyPlace) (a : CallAnswer) :
    (answerCall p a s).clock = s.clock ∧ (answerCall p a s).rooms = s.rooms ∧
    (answerCall p a s).menu = s.menu ∧ (answerCall p a s).kitchens = s.kitchens ∧
    (answerCall p a s).profile = s.profile ∧ (answerCall p a s).overlays = s.overlays ∧
    (answerCall p a s).dispositions = s.dispositions ∧ (answerCall p a s).settings = s.settings ∧
    (answerCall p a s).store = s.store ∧ (answerCall p a s).engine = s.engine ∧
    (answerCall p a s).catering = s.catering ∧ (answerCall p a s).composer = s.composer ∧
    (answerCall p a s).loop = s.loop ∧ (answerCall p a s).exceptions = s.exceptions ∧
    (answerCall p a s).ports = s.ports ∧ (answerCall p a s).deliveries = s.deliveries ∧
    (answerCall p a s).pending = s.pending :=
  ⟨rfl, rfl, rfl, rfl, rfl, rfl, rfl, rfl, rfl, rfl, rfl, rfl, rfl, rfl, rfl, rfl, rfl⟩

/-- `raise` changes the exceptions alone. -/
@[simp] theorem raise_frame (c : ExcClass) (u : Subject) (r : Option RoomNo) (d : BitVec 32) :
    (raise c u r d s).clock = s.clock ∧ (raise c u r d s).rooms = s.rooms ∧
    (raise c u r d s).panels = s.panels ∧ (raise c u r d s).menu = s.menu ∧
    (raise c u r d s).kitchens = s.kitchens ∧ (raise c u r d s).profile = s.profile ∧
    (raise c u r d s).overlays = s.overlays ∧ (raise c u r d s).dispositions = s.dispositions ∧
    (raise c u r d s).settings = s.settings ∧ (raise c u r d s).store = s.store ∧
    (raise c u r d s).engine = s.engine ∧ (raise c u r d s).catering = s.catering ∧
    (raise c u r d s).composer = s.composer ∧ (raise c u r d s).loop = s.loop ∧
    (raise c u r d s).ports = s.ports ∧ (raise c u r d s).deliveries = s.deliveries ∧
    (raise c u r d s).pending = s.pending :=
  ⟨rfl, rfl, rfl, rfl, rfl, rfl, rfl, rfl, rfl, rfl, rfl, rfl, rfl, rfl, rfl, rfl, rfl⟩

/-- `updFace` changes the composer alone. -/
@[simp] theorem updFace_frame (a : Addr) (f : Face → Face) :
    (updFace a f s).clock = s.clock ∧ (updFace a f s).rooms = s.rooms ∧ (updFace a f s).panels = s.panels ∧
    (updFace a f s).menu = s.menu ∧ (updFace a f s).kitchens = s.kitchens ∧
    (updFace a f s).profile = s.profile ∧ (updFace a f s).overlays = s.overlays ∧
    (updFace a f s).dispositions = s.dispositions ∧ (updFace a f s).settings = s.settings ∧
    (updFace a f s).store = s.store ∧ (updFace a f s).engine = s.engine ∧
    (updFace a f s).catering = s.catering ∧ (updFace a f s).loop = s.loop ∧
    (updFace a f s).exceptions = s.exceptions ∧ (updFace a f s).ports = s.ports ∧
    (updFace a f s).deliveries = s.deliveries ∧ (updFace a f s).pending = s.pending :=
  ⟨rfl, rfl, rfl, rfl, rfl, rfl, rfl, rfl, rfl, rfl, rfl, rfl, rfl, rfl, rfl, rfl, rfl⟩

/-- `updFaces` changes the composer alone. -/
@[simp] theorem updFaces_frame (f : Addr → Face → Face) :
    (updFaces f s).clock = s.clock ∧ (updFaces f s).rooms = s.rooms ∧ (updFaces f s).panels = s.panels ∧
    (updFaces f s).menu = s.menu ∧ (updFaces f s).kitchens = s.kitchens ∧
    (updFaces f s).profile = s.profile ∧ (updFaces f s).overlays = s.overlays ∧
    (updFaces f s).dispositions = s.dispositions ∧ (updFaces f s).settings = s.settings ∧
    (updFaces f s).store = s.store ∧ (updFaces f s).engine = s.engine ∧
    (updFaces f s).catering = s.catering ∧ (updFaces f s).loop = s.loop ∧
    (updFaces f s).exceptions = s.exceptions ∧ (updFaces f s).ports = s.ports ∧
    (updFaces f s).deliveries = s.deliveries ∧ (updFaces f s).pending = s.pending :=
  ⟨rfl, rfl, rfl, rfl, rfl, rfl, rfl, rfl, rfl, rfl, rfl, rfl, rfl, rfl, rfl, rfl, rfl⟩

/-- `addLoad` changes the catering alone. -/
@[simp] theorem addLoad_frame (k : KitchenNo) (qd l : Nat) :
    (addLoad k qd l s).clock = s.clock ∧ (addLoad k qd l s).rooms = s.rooms ∧
    (addLoad k qd l s).panels = s.panels ∧ (addLoad k qd l s).menu = s.menu ∧
    (addLoad k qd l s).kitchens = s.kitchens ∧ (addLoad k qd l s).profile = s.profile ∧
    (addLoad k qd l s).overlays = s.overlays ∧ (addLoad k qd l s).dispositions = s.dispositions ∧
    (addLoad k qd l s).settings = s.settings ∧ (addLoad k qd l s).store = s.store ∧
    (addLoad k qd l s).engine = s.engine ∧ (addLoad k qd l s).composer = s.composer ∧
    (addLoad k qd l s).loop = s.loop ∧ (addLoad k qd l s).exceptions = s.exceptions ∧
    (addLoad k qd l s).ports = s.ports ∧ (addLoad k qd l s).deliveries = s.deliveries ∧
    (addLoad k qd l s).pending = s.pending :=
  ⟨rfl, rfl, rfl, rfl, rfl, rfl, rfl, rfl, rfl, rfl, rfl, rfl, rfl, rfl, rfl, rfl, rfl⟩

/-- `subtractLoad` changes the catering alone. -/
@[simp] theorem subtractLoad_frame (k : KitchenNo) (qd l : Nat) :
    (subtractLoad k qd l s).clock = s.clock ∧ (subtractLoad k qd l s).rooms = s.rooms ∧
    (subtractLoad k qd l s).panels = s.panels ∧ (subtractLoad k qd l s).menu = s.menu ∧
    (subtractLoad k qd l s).kitchens = s.kitchens ∧ (subtractLoad k qd l s).profile = s.profile ∧
    (subtractLoad k qd l s).overlays = s.overlays ∧ (subtractLoad k qd l s).dispositions = s.dispositions ∧
    (subtractLoad k qd l s).settings = s.settings ∧ (subtractLoad k qd l s).store = s.store ∧
    (subtractLoad k qd l s).engine = s.engine ∧ (subtractLoad k qd l s).composer = s.composer ∧
    (subtractLoad k qd l s).loop = s.loop ∧ (subtractLoad k qd l s).exceptions = s.exceptions ∧
    (subtractLoad k qd l s).ports = s.ports ∧ (subtractLoad k qd l s).deliveries = s.deliveries ∧
    (subtractLoad k qd l s).pending = s.pending :=
  ⟨rfl, rfl, rfl, rfl, rfl, rfl, rfl, rfl, rfl, rfl, rfl, rfl, rfl, rfl, rfl, rfl, rfl⟩

/-- `joinQueue` changes the engine alone. -/
@[simp] theorem joinQueue_frame (r : Request) :
    (joinQueue r s).clock = s.clock ∧ (joinQueue r s).rooms = s.rooms ∧ (joinQueue r s).panels = s.panels ∧
    (joinQueue r s).menu = s.menu ∧ (joinQueue r s).kitchens = s.kitchens ∧
    (joinQueue r s).profile = s.profile ∧ (joinQueue r s).overlays = s.overlays ∧
    (joinQueue r s).dispositions = s.dispositions ∧ (joinQueue r s).settings = s.settings ∧
    (joinQueue r s).store = s.store ∧ (joinQueue r s).catering = s.catering ∧
    (joinQueue r s).composer = s.composer ∧ (joinQueue r s).loop = s.loop ∧
    (joinQueue r s).exceptions = s.exceptions ∧ (joinQueue r s).ports = s.ports ∧
    (joinQueue r s).deliveries = s.deliveries ∧ (joinQueue r s).pending = s.pending :=
  ⟨rfl, rfl, rfl, rfl, rfl, rfl, rfl, rfl, rfl, rfl, rfl, rfl, rfl, rfl, rfl, rfl, rfl⟩

/-- `endFlight` changes the engine alone. -/
@[simp] theorem endFlight_frame :
    (endFlight s).clock = s.clock ∧ (endFlight s).rooms = s.rooms ∧ (endFlight s).panels = s.panels ∧
    (endFlight s).menu = s.menu ∧ (endFlight s).kitchens = s.kitchens ∧ (endFlight s).profile = s.profile ∧
    (endFlight s).overlays = s.overlays ∧ (endFlight s).dispositions = s.dispositions ∧
    (endFlight s).settings = s.settings ∧ (endFlight s).store = s.store ∧
    (endFlight s).catering = s.catering ∧ (endFlight s).composer = s.composer ∧ (endFlight s).loop = s.loop ∧
    (endFlight s).exceptions = s.exceptions ∧ (endFlight s).ports = s.ports ∧
    (endFlight s).deliveries = s.deliveries ∧ (endFlight s).pending = s.pending :=
  ⟨rfl, rfl, rfl, rfl, rfl, rfl, rfl, rfl, rfl, rfl, rfl, rfl, rfl, rfl, rfl, rfl, rfl⟩

/-- `setFlight` changes the engine alone. -/
@[simp] theorem setFlight_frame (f : Flight) :
    (setFlight f s).clock = s.clock ∧ (setFlight f s).rooms = s.rooms ∧ (setFlight f s).panels = s.panels ∧
    (setFlight f s).menu = s.menu ∧ (setFlight f s).kitchens = s.kitchens ∧
    (setFlight f s).profile = s.profile ∧ (setFlight f s).overlays = s.overlays ∧
    (setFlight f s).dispositions = s.dispositions ∧ (setFlight f s).settings = s.settings ∧
    (setFlight f s).store = s.store ∧ (setFlight f s).catering = s.catering ∧
    (setFlight f s).composer = s.composer ∧ (setFlight f s).loop = s.loop ∧
    (setFlight f s).exceptions = s.exceptions ∧ (setFlight f s).ports = s.ports ∧
    (setFlight f s).deliveries = s.deliveries ∧ (setFlight f s).pending = s.pending :=
  ⟨rfl, rfl, rfl, rfl, rfl, rfl, rfl, rfl, rfl, rfl, rfl, rfl, rfl, rfl, rfl, rfl, rfl⟩

/-- `setPending` changes the rooms alone. -/
@[simp] theorem setPending_frame (r : RoomNo) (b : Bool) :
    (setPending r b s).clock = s.clock ∧ (setPending r b s).panels = s.panels ∧
    (setPending r b s).menu = s.menu ∧ (setPending r b s).kitchens = s.kitchens ∧
    (setPending r b s).profile = s.profile ∧ (setPending r b s).overlays = s.overlays ∧
    (setPending r b s).dispositions = s.dispositions ∧ (setPending r b s).settings = s.settings ∧
    (setPending r b s).store = s.store ∧ (setPending r b s).engine = s.engine ∧
    (setPending r b s).catering = s.catering ∧ (setPending r b s).composer = s.composer ∧
    (setPending r b s).loop = s.loop ∧ (setPending r b s).exceptions = s.exceptions ∧
    (setPending r b s).ports = s.ports ∧ (setPending r b s).deliveries = s.deliveries ∧
    (setPending r b s).pending = s.pending :=
  ⟨rfl, rfl, rfl, rfl, rfl, rfl, rfl, rfl, rfl, rfl, rfl, rfl, rfl, rfl, rfl, rfl, rfl⟩

/-- `freeCells` changes the store alone. -/
@[simp] theorem freeCells_frame (l : List Nat) :
    (freeCells l s).clock = s.clock ∧ (freeCells l s).rooms = s.rooms ∧ (freeCells l s).panels = s.panels ∧
    (freeCells l s).menu = s.menu ∧ (freeCells l s).kitchens = s.kitchens ∧
    (freeCells l s).profile = s.profile ∧ (freeCells l s).overlays = s.overlays ∧
    (freeCells l s).dispositions = s.dispositions ∧ (freeCells l s).settings = s.settings ∧
    (freeCells l s).engine = s.engine ∧ (freeCells l s).catering = s.catering ∧
    (freeCells l s).composer = s.composer ∧ (freeCells l s).loop = s.loop ∧
    (freeCells l s).exceptions = s.exceptions ∧ (freeCells l s).ports = s.ports ∧
    (freeCells l s).deliveries = s.deliveries ∧ (freeCells l s).pending = s.pending :=
  ⟨rfl, rfl, rfl, rfl, rfl, rfl, rfl, rfl, rfl, rfl, rfl, rfl, rfl, rfl, rfl, rfl, rfl⟩

/-- `addRecord` changes the store alone. -/
@[simp] theorem addRecord_frame (r : Record) :
    (addRecord r s).clock = s.clock ∧ (addRecord r s).rooms = s.rooms ∧ (addRecord r s).panels = s.panels ∧
    (addRecord r s).menu = s.menu ∧ (addRecord r s).kitchens = s.kitchens ∧
    (addRecord r s).profile = s.profile ∧ (addRecord r s).overlays = s.overlays ∧
    (addRecord r s).dispositions = s.dispositions ∧ (addRecord r s).settings = s.settings ∧
    (addRecord r s).engine = s.engine ∧ (addRecord r s).catering = s.catering ∧
    (addRecord r s).composer = s.composer ∧ (addRecord r s).loop = s.loop ∧
    (addRecord r s).exceptions = s.exceptions ∧ (addRecord r s).ports = s.ports ∧
    (addRecord r s).deliveries = s.deliveries ∧ (addRecord r s).pending = s.pending :=
  ⟨rfl, rfl, rfl, rfl, rfl, rfl, rfl, rfl, rfl, rfl, rfl, rfl, rfl, rfl, rfl, rfl, rfl⟩

/-- `setScan` changes the deliveries alone. -/
@[simp] theorem setScan_frame (w : Option Walk) :
    (setScan w s).clock = s.clock ∧ (setScan w s).rooms = s.rooms ∧ (setScan w s).panels = s.panels ∧
    (setScan w s).menu = s.menu ∧ (setScan w s).kitchens = s.kitchens ∧ (setScan w s).profile = s.profile ∧
    (setScan w s).overlays = s.overlays ∧ (setScan w s).dispositions = s.dispositions ∧
    (setScan w s).settings = s.settings ∧ (setScan w s).store = s.store ∧ (setScan w s).engine = s.engine ∧
    (setScan w s).catering = s.catering ∧ (setScan w s).composer = s.composer ∧ (setScan w s).loop = s.loop ∧
    (setScan w s).exceptions = s.exceptions ∧ (setScan w s).ports = s.ports ∧
    (setScan w s).pending = s.pending :=
  ⟨rfl, rfl, rfl, rfl, rfl, rfl, rfl, rfl, rfl, rfl, rfl, rfl, rfl, rfl, rfl, rfl, rfl⟩

/-- `setPass` changes the deliveries alone. -/
@[simp] theorem setPass_frame (w : Option Walk) :
    (setPass w s).clock = s.clock ∧ (setPass w s).rooms = s.rooms ∧ (setPass w s).panels = s.panels ∧
    (setPass w s).menu = s.menu ∧ (setPass w s).kitchens = s.kitchens ∧ (setPass w s).profile = s.profile ∧
    (setPass w s).overlays = s.overlays ∧ (setPass w s).dispositions = s.dispositions ∧
    (setPass w s).settings = s.settings ∧ (setPass w s).store = s.store ∧ (setPass w s).engine = s.engine ∧
    (setPass w s).catering = s.catering ∧ (setPass w s).composer = s.composer ∧ (setPass w s).loop = s.loop ∧
    (setPass w s).exceptions = s.exceptions ∧ (setPass w s).ports = s.ports ∧
    (setPass w s).pending = s.pending :=
  ⟨rfl, rfl, rfl, rfl, rfl, rfl, rfl, rfl, rfl, rfl, rfl, rfl, rfl, rfl, rfl, rfl, rfl⟩

/-- `setRecompose` changes the deliveries alone. -/
@[simp] theorem setRecompose_frame (w : Option Walk) :
    (setRecompose w s).clock = s.clock ∧ (setRecompose w s).rooms = s.rooms ∧
    (setRecompose w s).panels = s.panels ∧ (setRecompose w s).menu = s.menu ∧
    (setRecompose w s).kitchens = s.kitchens ∧ (setRecompose w s).profile = s.profile ∧
    (setRecompose w s).overlays = s.overlays ∧ (setRecompose w s).dispositions = s.dispositions ∧
    (setRecompose w s).settings = s.settings ∧ (setRecompose w s).store = s.store ∧
    (setRecompose w s).engine = s.engine ∧ (setRecompose w s).catering = s.catering ∧
    (setRecompose w s).composer = s.composer ∧ (setRecompose w s).loop = s.loop ∧
    (setRecompose w s).exceptions = s.exceptions ∧ (setRecompose w s).ports = s.ports ∧
    (setRecompose w s).pending = s.pending :=
  ⟨rfl, rfl, rfl, rfl, rfl, rfl, rfl, rfl, rfl, rfl, rfl, rfl, rfl, rfl, rfl, rfl, rfl⟩

/-- `raiseBoundary` changes the deliveries alone. -/
@[simp] theorem raiseBoundary_frame (g : Nat) :
    (raiseBoundary g s).clock = s.clock ∧ (raiseBoundary g s).rooms = s.rooms ∧
    (raiseBoundary g s).panels = s.panels ∧ (raiseBoundary g s).menu = s.menu ∧
    (raiseBoundary g s).kitchens = s.kitchens ∧ (raiseBoundary g s).profile = s.profile ∧
    (raiseBoundary g s).overlays = s.overlays ∧ (raiseBoundary g s).dispositions = s.dispositions ∧
    (raiseBoundary g s).settings = s.settings ∧ (raiseBoundary g s).store = s.store ∧
    (raiseBoundary g s).engine = s.engine ∧ (raiseBoundary g s).catering = s.catering ∧
    (raiseBoundary g s).composer = s.composer ∧ (raiseBoundary g s).loop = s.loop ∧
    (raiseBoundary g s).exceptions = s.exceptions ∧ (raiseBoundary g s).ports = s.ports ∧
    (raiseBoundary g s).pending = s.pending :=
  ⟨rfl, rfl, rfl, rfl, rfl, rfl, rfl, rfl, rfl, rfl, rfl, rfl, rfl, rfl, rfl, rfl, rfl⟩

/-- `raiseRollover` changes the deliveries alone. -/
@[simp] theorem raiseRollover_frame (m n : Nat) :
    (raiseRollover m n s).clock = s.clock ∧ (raiseRollover m n s).rooms = s.rooms ∧
    (raiseRollover m n s).panels = s.panels ∧ (raiseRollover m n s).menu = s.menu ∧
    (raiseRollover m n s).kitchens = s.kitchens ∧ (raiseRollover m n s).profile = s.profile ∧
    (raiseRollover m n s).overlays = s.overlays ∧ (raiseRollover m n s).dispositions = s.dispositions ∧
    (raiseRollover m n s).settings = s.settings ∧ (raiseRollover m n s).store = s.store ∧
    (raiseRollover m n s).engine = s.engine ∧ (raiseRollover m n s).catering = s.catering ∧
    (raiseRollover m n s).composer = s.composer ∧ (raiseRollover m n s).loop = s.loop ∧
    (raiseRollover m n s).exceptions = s.exceptions ∧ (raiseRollover m n s).ports = s.ports ∧
    (raiseRollover m n s).pending = s.pending :=
  ⟨rfl, rfl, rfl, rfl, rfl, rfl, rfl, rfl, rfl, rfl, rfl, rfl, rfl, rfl, rfl, rfl, rfl⟩

/-- `updPages` changes the catering alone. -/
@[simp] theorem updPages_frame (f : Fin 14 → Page → Page) :
    (updPages f s).clock = s.clock ∧ (updPages f s).rooms = s.rooms ∧ (updPages f s).panels = s.panels ∧
    (updPages f s).menu = s.menu ∧ (updPages f s).kitchens = s.kitchens ∧
    (updPages f s).profile = s.profile ∧ (updPages f s).overlays = s.overlays ∧
    (updPages f s).dispositions = s.dispositions ∧ (updPages f s).settings = s.settings ∧
    (updPages f s).store = s.store ∧ (updPages f s).engine = s.engine ∧
    (updPages f s).composer = s.composer ∧ (updPages f s).loop = s.loop ∧
    (updPages f s).exceptions = s.exceptions ∧ (updPages f s).ports = s.ports ∧
    (updPages f s).deliveries = s.deliveries ∧ (updPages f s).pending = s.pending :=
  ⟨rfl, rfl, rfl, rfl, rfl, rfl, rfl, rfl, rfl, rfl, rfl, rfl, rfl, rfl, rfl, rfl, rfl⟩

/-- `loadClock` changes the clock alone. -/
@[simp] theorem loadClock_frame (d m n : Nat) :
    (loadClock d m n s).rooms = s.rooms ∧ (loadClock d m n s).panels = s.panels ∧
    (loadClock d m n s).menu = s.menu ∧ (loadClock d m n s).kitchens = s.kitchens ∧
    (loadClock d m n s).profile = s.profile ∧ (loadClock d m n s).overlays = s.overlays ∧
    (loadClock d m n s).dispositions = s.dispositions ∧ (loadClock d m n s).settings = s.settings ∧
    (loadClock d m n s).store = s.store ∧ (loadClock d m n s).engine = s.engine ∧
    (loadClock d m n s).catering = s.catering ∧ (loadClock d m n s).composer = s.composer ∧
    (loadClock d m n s).loop = s.loop ∧ (loadClock d m n s).exceptions = s.exceptions ∧
    (loadClock d m n s).ports = s.ports ∧ (loadClock d m n s).deliveries = s.deliveries ∧
    (loadClock d m n s).pending = s.pending :=
  ⟨rfl, rfl, rfl, rfl, rfl, rfl, rfl, rfl, rfl, rfl, rfl, rfl, rfl, rfl, rfl, rfl, rfl⟩

/-- `setNotices` changes the exceptions alone. -/
@[simp] theorem setNotices_frame (q : Fin 4) (l : List Notice) :
    (setNotices q l s).clock = s.clock ∧ (setNotices q l s).rooms = s.rooms ∧
    (setNotices q l s).panels = s.panels ∧ (setNotices q l s).menu = s.menu ∧
    (setNotices q l s).kitchens = s.kitchens ∧ (setNotices q l s).profile = s.profile ∧
    (setNotices q l s).overlays = s.overlays ∧ (setNotices q l s).dispositions = s.dispositions ∧
    (setNotices q l s).settings = s.settings ∧ (setNotices q l s).store = s.store ∧
    (setNotices q l s).engine = s.engine ∧ (setNotices q l s).catering = s.catering ∧
    (setNotices q l s).composer = s.composer ∧ (setNotices q l s).loop = s.loop ∧
    (setNotices q l s).ports = s.ports ∧ (setNotices q l s).deliveries = s.deliveries ∧
    (setNotices q l s).pending = s.pending :=
  ⟨rfl, rfl, rfl, rfl, rfl, rfl, rfl, rfl, rfl, rfl, rfl, rfl, rfl, rfl, rfl, rfl, rfl⟩

/-- `flushQueue` changes the exceptions alone. -/
@[simp] theorem flushQueue_frame (q : Fin 4) :
    (flushQueue q s).clock = s.clock ∧ (flushQueue q s).rooms = s.rooms ∧
    (flushQueue q s).panels = s.panels ∧ (flushQueue q s).menu = s.menu ∧
    (flushQueue q s).kitchens = s.kitchens ∧ (flushQueue q s).profile = s.profile ∧
    (flushQueue q s).overlays = s.overlays ∧ (flushQueue q s).dispositions = s.dispositions ∧
    (flushQueue q s).settings = s.settings ∧ (flushQueue q s).store = s.store ∧
    (flushQueue q s).engine = s.engine ∧ (flushQueue q s).catering = s.catering ∧
    (flushQueue q s).composer = s.composer ∧ (flushQueue q s).loop = s.loop ∧
    (flushQueue q s).ports = s.ports ∧ (flushQueue q s).deliveries = s.deliveries ∧
    (flushQueue q s).pending = s.pending :=
  ⟨rfl, rfl, rfl, rfl, rfl, rfl, rfl, rfl, rfl, rfl, rfl, rfl, rfl, rfl, rfl, rfl, rfl⟩

/-- `advancePointer` changes the rooms alone. -/
@[simp] theorem advancePointer_frame (t : Trial) :
    (advancePointer t s).clock = s.clock ∧ (advancePointer t s).panels = s.panels ∧
    (advancePointer t s).menu = s.menu ∧ (advancePointer t s).kitchens = s.kitchens ∧
    (advancePointer t s).profile = s.profile ∧ (advancePointer t s).overlays = s.overlays ∧
    (advancePointer t s).dispositions = s.dispositions ∧ (advancePointer t s).settings = s.settings ∧
    (advancePointer t s).store = s.store ∧ (advancePointer t s).engine = s.engine ∧
    (advancePointer t s).catering = s.catering ∧ (advancePointer t s).composer = s.composer ∧
    (advancePointer t s).loop = s.loop ∧ (advancePointer t s).exceptions = s.exceptions ∧
    (advancePointer t s).ports = s.ports ∧ (advancePointer t s).deliveries = s.deliveries ∧
    (advancePointer t s).pending = s.pending :=
  ⟨rfl, rfl, rfl, rfl, rfl, rfl, rfl, rfl, rfl, rfl, rfl, rfl, rfl, rfl, rfl, rfl, rfl⟩

/-- `updLoop` changes the loop alone. -/
@[simp] theorem updLoop_frame (f : Loop → Loop) :
    (updLoop f s).clock = s.clock ∧ (updLoop f s).rooms = s.rooms ∧ (updLoop f s).panels = s.panels ∧
    (updLoop f s).menu = s.menu ∧ (updLoop f s).kitchens = s.kitchens ∧ (updLoop f s).profile = s.profile ∧
    (updLoop f s).overlays = s.overlays ∧ (updLoop f s).dispositions = s.dispositions ∧
    (updLoop f s).settings = s.settings ∧ (updLoop f s).store = s.store ∧ (updLoop f s).engine = s.engine ∧
    (updLoop f s).catering = s.catering ∧ (updLoop f s).composer = s.composer ∧
    (updLoop f s).exceptions = s.exceptions ∧ (updLoop f s).ports = s.ports ∧
    (updLoop f s).deliveries = s.deliveries ∧ (updLoop f s).pending = s.pending :=
  ⟨rfl, rfl, rfl, rfl, rfl, rfl, rfl, rfl, rfl, rfl, rfl, rfl, rfl, rfl, rfl, rfl, rfl⟩

/-- `dueBeacon` changes the loop alone, and of it the beacon held back. -/
@[simp] theorem dueBeacon_frame :
    (dueBeacon s).clock = s.clock ∧ (dueBeacon s).rooms = s.rooms ∧ (dueBeacon s).panels = s.panels ∧
    (dueBeacon s).menu = s.menu ∧ (dueBeacon s).kitchens = s.kitchens ∧ (dueBeacon s).profile = s.profile ∧
    (dueBeacon s).overlays = s.overlays ∧ (dueBeacon s).dispositions = s.dispositions ∧
    (dueBeacon s).settings = s.settings ∧ (dueBeacon s).store = s.store ∧ (dueBeacon s).engine = s.engine ∧
    (dueBeacon s).catering = s.catering ∧ (dueBeacon s).composer = s.composer ∧
    (dueBeacon s).exceptions = s.exceptions ∧ (dueBeacon s).ports = s.ports ∧
    (dueBeacon s).deliveries = s.deliveries ∧ (dueBeacon s).pending = s.pending ∧
    (dueBeacon s).loop.awaited = s.loop.awaited ∧ (dueBeacon s).loop.state = s.loop.state :=
  ⟨rfl, rfl, rfl, rfl, rfl, rfl, rfl, rfl, rfl, rfl, rfl, rfl, rfl, rfl, rfl, rfl, rfl, rfl, rfl⟩

/-- `updPanel` changes the panels alone. -/
@[simp] theorem updPanel_frame (a : Addr) (f : Panel → Panel) :
    (updPanel a f s).clock = s.clock ∧ (updPanel a f s).rooms = s.rooms ∧ (updPanel a f s).menu = s.menu ∧
    (updPanel a f s).kitchens = s.kitchens ∧ (updPanel a f s).profile = s.profile ∧
    (updPanel a f s).overlays = s.overlays ∧ (updPanel a f s).dispositions = s.dispositions ∧
    (updPanel a f s).settings = s.settings ∧ (updPanel a f s).store = s.store ∧
    (updPanel a f s).engine = s.engine ∧ (updPanel a f s).catering = s.catering ∧
    (updPanel a f s).composer = s.composer ∧ (updPanel a f s).loop = s.loop ∧
    (updPanel a f s).exceptions = s.exceptions ∧ (updPanel a f s).ports = s.ports ∧
    (updPanel a f s).deliveries = s.deliveries ∧ (updPanel a f s).pending = s.pending :=
  ⟨rfl, rfl, rfl, rfl, rfl, rfl, rfl, rfl, rfl, rfl, rfl, rfl, rfl, rfl, rfl, rfl, rfl⟩

/-- `loopSend` changes the ports alone. -/
@[simp] theorem loopSend_frame (b : Bytes) :
    (loopSend b s).clock = s.clock ∧ (loopSend b s).rooms = s.rooms ∧ (loopSend b s).panels = s.panels ∧
    (loopSend b s).menu = s.menu ∧ (loopSend b s).kitchens = s.kitchens ∧
    (loopSend b s).profile = s.profile ∧ (loopSend b s).overlays = s.overlays ∧
    (loopSend b s).dispositions = s.dispositions ∧ (loopSend b s).settings = s.settings ∧
    (loopSend b s).store = s.store ∧ (loopSend b s).engine = s.engine ∧
    (loopSend b s).catering = s.catering ∧ (loopSend b s).composer = s.composer ∧
    (loopSend b s).loop = s.loop ∧ (loopSend b s).exceptions = s.exceptions ∧
    (loopSend b s).deliveries = s.deliveries ∧ (loopSend b s).pending = s.pending :=
  ⟨rfl, rfl, rfl, rfl, rfl, rfl, rfl, rfl, rfl, rfl, rfl, rfl, rfl, rfl, rfl, rfl, rfl⟩

/-- `clearLossLatch` changes the loop alone. -/
@[simp] theorem clearLossLatch_frame :
    (clearLossLatch s).clock = s.clock ∧ (clearLossLatch s).rooms = s.rooms ∧
    (clearLossLatch s).panels = s.panels ∧ (clearLossLatch s).menu = s.menu ∧
    (clearLossLatch s).kitchens = s.kitchens ∧ (clearLossLatch s).profile = s.profile ∧
    (clearLossLatch s).overlays = s.overlays ∧ (clearLossLatch s).dispositions = s.dispositions ∧
    (clearLossLatch s).settings = s.settings ∧ (clearLossLatch s).store = s.store ∧
    (clearLossLatch s).engine = s.engine ∧ (clearLossLatch s).catering = s.catering ∧
    (clearLossLatch s).composer = s.composer ∧ (clearLossLatch s).exceptions = s.exceptions ∧
    (clearLossLatch s).ports = s.ports ∧ (clearLossLatch s).deliveries = s.deliveries ∧
    (clearLossLatch s).pending = s.pending :=
  ⟨rfl, rfl, rfl, rfl, rfl, rfl, rfl, rfl, rfl, rfl, rfl, rfl, rfl, rfl, rfl, rfl, rfl⟩

/-- `markStale` changes the loop alone. -/
@[simp] theorem markStale_frame (a : Addr) :
    (markStale a s).clock = s.clock ∧ (markStale a s).rooms = s.rooms ∧ (markStale a s).panels = s.panels ∧
    (markStale a s).menu = s.menu ∧ (markStale a s).kitchens = s.kitchens ∧
    (markStale a s).profile = s.profile ∧ (markStale a s).overlays = s.overlays ∧
    (markStale a s).dispositions = s.dispositions ∧ (markStale a s).settings = s.settings ∧
    (markStale a s).store = s.store ∧ (markStale a s).engine = s.engine ∧
    (markStale a s).catering = s.catering ∧ (markStale a s).composer = s.composer ∧
    (markStale a s).exceptions = s.exceptions ∧ (markStale a s).ports = s.ports ∧
    (markStale a s).deliveries = s.deliveries ∧ (markStale a s).pending = s.pending :=
  ⟨rfl, rfl, rfl, rfl, rfl, rfl, rfl, rfl, rfl, rfl, rfl, rfl, rfl, rfl, rfl, rfl, rfl⟩

/-- `dropUplink` changes the ports alone. -/
@[simp] theorem dropUplink_frame :
    (dropUplink s).clock = s.clock ∧ (dropUplink s).rooms = s.rooms ∧ (dropUplink s).panels = s.panels ∧
    (dropUplink s).menu = s.menu ∧ (dropUplink s).kitchens = s.kitchens ∧
    (dropUplink s).profile = s.profile ∧ (dropUplink s).overlays = s.overlays ∧
    (dropUplink s).dispositions = s.dispositions ∧ (dropUplink s).settings = s.settings ∧
    (dropUplink s).store = s.store ∧ (dropUplink s).engine = s.engine ∧
    (dropUplink s).catering = s.catering ∧ (dropUplink s).composer = s.composer ∧
    (dropUplink s).loop = s.loop ∧ (dropUplink s).exceptions = s.exceptions ∧
    (dropUplink s).deliveries = s.deliveries ∧ (dropUplink s).pending = s.pending :=
  ⟨rfl, rfl, rfl, rfl, rfl, rfl, rfl, rfl, rfl, rfl, rfl, rfl, rfl, rfl, rfl, rfl, rfl⟩

/-- `dropCascade` changes the ports alone. -/
@[simp] theorem dropCascade_frame :
    (dropCascade s).clock = s.clock ∧ (dropCascade s).rooms = s.rooms ∧ (dropCascade s).panels = s.panels ∧
    (dropCascade s).menu = s.menu ∧ (dropCascade s).kitchens = s.kitchens ∧
    (dropCascade s).profile = s.profile ∧ (dropCascade s).overlays = s.overlays ∧
    (dropCascade s).dispositions = s.dispositions ∧ (dropCascade s).settings = s.settings ∧
    (dropCascade s).store = s.store ∧ (dropCascade s).engine = s.engine ∧
    (dropCascade s).catering = s.catering ∧ (dropCascade s).composer = s.composer ∧
    (dropCascade s).loop = s.loop ∧ (dropCascade s).exceptions = s.exceptions ∧
    (dropCascade s).deliveries = s.deliveries ∧ (dropCascade s).pending = s.pending :=
  ⟨rfl, rfl, rfl, rfl, rfl, rfl, rfl, rfl, rfl, rfl, rfl, rfl, rfl, rfl, rfl, rfl, rfl⟩

/-- `forwardDown` changes the ports alone. -/
@[simp] theorem forwardDown_frame (f : EthFrame) :
    (forwardDown f s).clock = s.clock ∧ (forwardDown f s).rooms = s.rooms ∧
    (forwardDown f s).panels = s.panels ∧ (forwardDown f s).menu = s.menu ∧
    (forwardDown f s).kitchens = s.kitchens ∧ (forwardDown f s).profile = s.profile ∧
    (forwardDown f s).overlays = s.overlays ∧ (forwardDown f s).dispositions = s.dispositions ∧
    (forwardDown f s).settings = s.settings ∧ (forwardDown f s).store = s.store ∧
    (forwardDown f s).engine = s.engine ∧ (forwardDown f s).catering = s.catering ∧
    (forwardDown f s).composer = s.composer ∧ (forwardDown f s).loop = s.loop ∧
    (forwardDown f s).exceptions = s.exceptions ∧ (forwardDown f s).deliveries = s.deliveries ∧
    (forwardDown f s).pending = s.pending :=
  ⟨rfl, rfl, rfl, rfl, rfl, rfl, rfl, rfl, rfl, rfl, rfl, rfl, rfl, rfl, rfl, rfl, rfl⟩

/-- `readStraps` changes the ports alone. -/
@[simp] theorem readStraps_frame (n : Fin 8) :
    (readStraps n s).clock = s.clock ∧ (readStraps n s).rooms = s.rooms ∧
    (readStraps n s).panels = s.panels ∧ (readStraps n s).menu = s.menu ∧
    (readStraps n s).kitchens = s.kitchens ∧ (readStraps n s).profile = s.profile ∧
    (readStraps n s).overlays = s.overlays ∧ (readStraps n s).dispositions = s.dispositions ∧
    (readStraps n s).settings = s.settings ∧ (readStraps n s).store = s.store ∧
    (readStraps n s).engine = s.engine ∧ (readStraps n s).catering = s.catering ∧
    (readStraps n s).composer = s.composer ∧ (readStraps n s).loop = s.loop ∧
    (readStraps n s).exceptions = s.exceptions ∧ (readStraps n s).deliveries = s.deliveries ∧
    (readStraps n s).pending = s.pending :=
  ⟨rfl, rfl, rfl, rfl, rfl, rfl, rfl, rfl, rfl, rfl, rfl, rfl, rfl, rfl, rfl, rfl, rfl⟩

/-- `setResetLine` changes the ports alone. -/
@[simp] theorem setResetLine_frame (b : Bool) :
    (setResetLine b s).clock = s.clock ∧ (setResetLine b s).rooms = s.rooms ∧
    (setResetLine b s).panels = s.panels ∧ (setResetLine b s).menu = s.menu ∧
    (setResetLine b s).kitchens = s.kitchens ∧ (setResetLine b s).profile = s.profile ∧
    (setResetLine b s).overlays = s.overlays ∧ (setResetLine b s).dispositions = s.dispositions ∧
    (setResetLine b s).settings = s.settings ∧ (setResetLine b s).store = s.store ∧
    (setResetLine b s).engine = s.engine ∧ (setResetLine b s).catering = s.catering ∧
    (setResetLine b s).composer = s.composer ∧ (setResetLine b s).loop = s.loop ∧
    (setResetLine b s).exceptions = s.exceptions ∧ (setResetLine b s).deliveries = s.deliveries ∧
    (setResetLine b s).pending = s.pending :=
  ⟨rfl, rfl, rfl, rfl, rfl, rfl, rfl, rfl, rfl, rfl, rfl, rfl, rfl, rfl, rfl, rfl, rfl⟩

/-- `discardUnsent` changes the ports alone. -/
@[simp] theorem discardUnsent_frame :
    (discardUnsent s).clock = s.clock ∧ (discardUnsent s).rooms = s.rooms ∧
    (discardUnsent s).panels = s.panels ∧ (discardUnsent s).menu = s.menu ∧
    (discardUnsent s).kitchens = s.kitchens ∧ (discardUnsent s).profile = s.profile ∧
    (discardUnsent s).overlays = s.overlays ∧ (discardUnsent s).dispositions = s.dispositions ∧
    (discardUnsent s).settings = s.settings ∧ (discardUnsent s).store = s.store ∧
    (discardUnsent s).engine = s.engine ∧ (discardUnsent s).catering = s.catering ∧
    (discardUnsent s).composer = s.composer ∧ (discardUnsent s).loop = s.loop ∧
    (discardUnsent s).exceptions = s.exceptions ∧ (discardUnsent s).deliveries = s.deliveries ∧
    (discardUnsent s).pending = s.pending :=
  ⟨rfl, rfl, rfl, rfl, rfl, rfl, rfl, rfl, rfl, rfl, rfl, rfl, rfl, rfl, rfl, rfl, rfl⟩

/-- `loopForward` changes the ports alone. -/
@[simp] theorem loopForward_frame (b : Bytes) (now : Nat) :
    (loopForward b now s).clock = s.clock ∧ (loopForward b now s).rooms = s.rooms ∧
    (loopForward b now s).panels = s.panels ∧ (loopForward b now s).menu = s.menu ∧
    (loopForward b now s).kitchens = s.kitchens ∧ (loopForward b now s).profile = s.profile ∧
    (loopForward b now s).overlays = s.overlays ∧ (loopForward b now s).dispositions = s.dispositions ∧
    (loopForward b now s).settings = s.settings ∧ (loopForward b now s).store = s.store ∧
    (loopForward b now s).engine = s.engine ∧ (loopForward b now s).catering = s.catering ∧
    (loopForward b now s).composer = s.composer ∧ (loopForward b now s).loop = s.loop ∧
    (loopForward b now s).exceptions = s.exceptions ∧ (loopForward b now s).deliveries = s.deliveries ∧
    (loopForward b now s).pending = s.pending :=
  ⟨rfl, rfl, rfl, rfl, rfl, rfl, rfl, rfl, rfl, rfl, rfl, rfl, rfl, rfl, rfl, rfl, rfl⟩

end Sys2Proof.Machine
end

