-- ==== Sys2Proof/Safety.lean ====
section
/-!
DEFINITION. The terms that the statements use: the invariants of the blocks, each with the rule that gives it,
and what it is for a request to be answered.
-/

namespace Sys2Proof.Machine

/-! ## Invariants -/

/-- The clock is within its ranges (`01` 1.1); it stands at 0 while UNSET (R12), and its sub-second count is 0
while it does not run (R1, R2). -/
def Clock.Legal (c : Clock) : Prop :=
  c.day ≤ 65535 ∧ c.minute < 1440 ∧ c.second < 60 ∧ c.subSecond < 32768 ∧
    (c.state = .unset → c.day = 0 ∧ c.minute = 0 ∧ c.second = 0) ∧ (c.state ≠ .running → c.subSecond = 0)

/-- The admission queue holds at most 16 entries and none while the engine is IDLE (R49, R50), and the move
stack at most 5 frames (R74). -/
def Engine.Legal (e : Engine) : Prop :=
  e.queue.length ≤ 16 ∧ (e.inFlight = none → e.queue = []) ∧
    ∀ f, e.inFlight = some f → f.stack.length ≤ 5

/-- The counters, the notice queues and the lost counts are within their bounds (R155, R156). -/
def Exceptions.Legal (e : Exceptions) : Prop :=
  (∀ i, e.counters.get i ≤ 65535) ∧ (∀ q, (e.queues.get q).length ≤ 32) ∧ ∀ q, e.lost.get q ≤ 255

/-- Page `i` carries a day that is `i` mod 14 (R105). -/
def Catering.Legal (c : Catering) : Prop := ∀ i, (c.pages.get i).tag % 14 = i.val

/-- Loop settings within their ranges (`09` 9.2). -/
def LoopSettings.Legal (l : LoopSettings) : Prop :=
  4 ≤ l.windows ∧ l.windows ≤ 16 ∧ 10 ≤ l.windowTime ∧ l.windowTime ≤ 100 ∧ 1 ≤ l.timeout ∧ l.timeout ≤ 15

/-- The Loop Controller's counts are within their bounds, the current window is one of the cycle's, and no frame
is awaited or held back while the loop is DOWN (R135 to R138, R142). -/
def Loop.Legal (l : Loop) : Prop :=
  4 ≤ l.active.windows ∧ l.active.windows ≤ 16 ∧ l.currentWindow < l.active.windows ∧ l.cycleCount < 256 ∧
    l.sequence < 16 ∧ l.misses ≤ 255 ∧ l.checkFailures ≤ 65535 ∧ l.strays ≤ 65535 ∧
    (l.state = .down → l.awaited = none ∧ l.held = none)

/-- A panel's counts and lists are within their bounds, its counts agree with its state, and its binding fits its
kind (R143, R144, R146, R147, R149). -/
def Panel.Legal (p : Panel) : Prop :=
  bindingFits p.kind p.binding = true ∧
  p.misses ≤ 3 ∧ (p.state = .unknown ∨ p.state = .present → p.misses ≤ 2) ∧ (p.state = .absent → p.misses = 3) ∧
    p.violations ≤ 3 ∧ (p.violations = 3 ↔ p.state = .muted) ∧ p.callsInWindow ≤ 2 ∧ p.replies.length ≤ 4 ∧
    p.tickets.length ≤ 12

/-- Each cell of the pool is on the free list or held by one record (R29), no id has two records (R35), and the
walk-in counter is a number of R36. -/
def Store.Legal (st : Store) : Prop :=
  (st.free ++ st.records.flatMap fun b => b.cells).Perm (List.range 3072) ∧ (st.records.map fun b => b.id).Nodup ∧
    st.walkIn < 256

/-- A BOOK past its check for a duplicate id, and not yet placed, names an id that has no record (R35, R58). -/
def NewIdInHand (s : State) : Prop :=
  ∀ (f : Flight) (via : Via) (ask : BookAsk), s.engine.inFlight = some f → f.request = .book via ask →
    (f.phase = .place ∨ (∃ ids, f.phase = .displaceRequester ids) ∨
      ∃ n, f.phase = .check n ∧ n ≠ 1 ∧ n ≠ 2 ∧ n ≠ 3) → s.record? ask.id = none

/-- The bookings of each room list stand in the order of their spans, no two of which overlap (R37), and at most
one is CHECKED_IN (R97). -/
def ListsLegal (s : State) : Prop :=
  ∀ q, ((s.listed q).Pairwise fun a b => a.ss < b.ss ∧ a.se ≤ b.ss) ∧
    ((s.listed q).filter fun b => b.state == .checkedIn).length ≤ 1

/-- No id has two records or stands twice in a list, and each list holds records of the store that belong in it, with
a span of one grain at least that covers their end (R34, R35, R37). -/
def ListsAgree (s : State) : Prop :=
  (s.store.records.map fun b => b.id).Nodup ∧ ∀ q, (s.store.lists.get q).Nodup ∧
    ∀ id, id ∈ s.store.lists.get q →
      ∃ b, s.record? id = some b ∧ q ∈ listRooms s b ∧ b.ss < b.se ∧ b.qe ≤ b.se

/-- A booking stands in no room list, as one that is MOVING does (R37). -/
def InNoList (id : BookingId) (s : State) : Prop := ∀ q, id ∉ s.store.lists.get q

/-- A span of one grain at least meets no booking of a room's list (R57). -/
def FreeFor (q : RoomNo) (first last : Nat) (s : State) : Prop :=
  first < last ∧ ∀ c, c ∈ s.listed q → ¬ (first < c.se ∧ c.ss < last)

/-- What the engine has in hand to be inserted in a room list stands in none that it is to be inserted in, and its
span has been found free there (R38, R57, R73, R77). -/
def PlacementClear (s : State) : Prop :=
  ∀ f, s.engine.inFlight = some f →
    (∀ via ask, f.request = .book via ask → f.phase = .place →
      s.record? ask.id = none ∧ FreeFor (asRoom ask.room) f.span.first f.span.last s) ∧
    (∀ via ask b, f.request = .modify via ask → f.phase = .place → s.record? ask.id = some b →
      InNoList ask.id s ∧ FreeFor (resultRoom ask b) f.span.first f.span.last s) ∧
    (∀ via ask n k b, f.request = .modify via ask → f.phase = .check n → f.taken = some k →
      s.record? k.id = some b →
      (k.state = .booked ∨ k.state = .armed) ∧ InNoList k.id s ∧ FreeFor b.room b.ss b.se s) ∧
    (∀ refused id b q, f.phase = .partner refused →
      (∃ via ask, f.request = .book via ask ∧ ask.id = id) ∨ (∃ via ask, f.request = .modify via ask ∧ ask.id = id) →
      s.record? id = some b → b.joined = true → (s.rooms.get b.room).partner = some q →
      id ∉ s.store.lists.get q ∧ FreeFor q b.ss b.se s ∧
        (b.state = .checkedIn → ∀ c, c ∈ s.listed q → c.state ≠ .checkedIn)) ∧
    (∀ trial span a, f.phase = .placeMoving trial span → trial.alternate? = some a →
      FreeFor a span.first span.last s) ∧
    (∀ m b, (f.phase = .serve ∧ f.stack.head? = some m) ∨
        (∃ trial, trial.frame = m ∧ (f.phase = .tryNext trial ∨ f.phase = .recheck trial ∨
          ∃ span, f.phase = .placeMoving trial span)) →
      s.record? m.booking = some b → InNoList m.booking s ∧ b.qs < b.qe) ∧
    ∀ place r choice n, f.request = .bookNow place r choice → f.phase = .check n →
      1 ≤ choice ∧ (n = 0 ∨ 5 ≤ n → f.qs < f.qe)

/-- The engine has a CHECKED_IN booking in hand that it is about to insert in a room's list as its partner room, a
joined requester tapped between its two insertions (R38). -/
def Entering (s : State) (q : RoomNo) (b : Record) : Prop :=
  b.state = .checkedIn ∧ b.joined = true ∧ (s.rooms.get b.room).partner = some q ∧
    ∃ f refused, s.engine.inFlight = some f ∧ f.phase = .partner refused ∧
      ((∃ via ask, f.request = .book via ask ∧ s.record? ask.id = some b) ∨
        ∃ via ask, f.request = .modify via ask ∧ s.record? ask.id = some b)

/-! ## Measures -/

/-- A clock's time in seconds from day 0, 00:00:00. -/
def Clock.seconds (c : Clock) : Nat := c.day * 86400 + c.minute * 60 + c.second

/-- The load that R105 gives a slot of a kitchen: the sum of the loads of its counted orders, those in any state
but CANCELLED. -/
def countedLoad (s : State) (k : KitchenNo) (day : Nat) (slot : Fin 96) : Nat :=
  let orders : List Order := s.store.records.filterMap fun b => b.order
  ((orders.filter fun o => o.state != .cancelled && o.kitchen == k && o.qd / 288 == day &&
    o.qd % 288 / 3 == slot.val).map fun o => o.load).sum

/-! ## Answers -/

/-- The response that answers a request is made and leaves the uplink port, or is discarded where that link is
DOWN, and nothing else of the ports changes (R165). That it may still be waiting to leave is counted (R169). -/
def Answered (via : Via) (k : Kind) (a : Answer) (s t : State) : Prop :=
  t.ports = { s.ports with
    uplinkOut := s.ports.uplinkOut ++ if s.ports.uplinkUp then [responseFrame t via k.code a] else []
    unsent := s.ports.unsent + if s.ports.uplinkUp then 1 else 0 }

/-- The engine when an admission has ended: it takes the entry at the head of its queue, or is IDLE (R50). -/
def Engine.afterEnd (e : Engine) : Engine :=
  match e.queue with
  | [] => { queue := [], inFlight := none }
  | r :: rest => { queue := rest, inFlight := some (newFlight r) }

/-- An uplink admission ends with nothing done but its answer (R53, R57, R58). -/
def EndsWith (via : Via) (k : Kind) (a : Answer) (s t : State) : Prop :=
  t = { s with engine := s.engine.afterEnd, ports := t.ports } ∧ Answered via k a s t

/-- A record has been inserted into the list of a room, behind every record whose span does not begin after its own,
no other list having changed (R37, R38). -/
def InsertedInto (q : RoomNo) (b : Record) (s t : State) : Prop :=
  ∃ before after, s.store.lists.get q = before ++ after ∧
    t.store.lists = s.store.lists.set q (before ++ b.id :: after) ∧
    (∀ x, x ∈ before → ∀ c, t.record? x = some c → c.ss ≤ b.ss) ∧
    ∀ x, after.head? = some x → ∃ c, t.record? x = some c ∧ b.ss < c.ss

/-- A list holds the records of another in the order of their Ss, those that stand level keeping their order (R74). -/
def InSpanOrder (cs l : List Record) : Prop :=
  l.Perm cs ∧ (l.Pairwise fun a b => a.ss ≤ b.ss) ∧
    ∀ n, (l.filter fun b => b.ss == n) = cs.filter fun b => b.ss == n

/-- The engine may take its next step on the request in flight: power is good, and no room waits with its
vacate-pending flag for a place of the queue (R24). -/
def AtWork (s : State) (f : Flight) : Prop :=
  s.ports.powerGood = true ∧ s.engine.inFlight = some f ∧ ∀ r, (s.rooms.get r).vacatePending = false

/-- The reply entry made for a call holds an answer, if the entry still stands (R147). -/
def ReplyGiven (p : ReplyPlace) (a : CallAnswer) (t : State) : Prop :=
  ∀ e, e ∈ (t.panels.get p.panel).replies → e.serial = p.serial → e.state = .ready a

/-! ## Rows (R121 to R124, R127) -/

/-- A text in the glyph codes of R121. -/
def glyphsOfText (t : String) : Bytes := t.toList.map fun c => BitVec.ofNat 8 c.toNat

/-- A row holds the texts given, each from a cell on in one attribute, and blanks in every other cell. -/
def RowShows (row : Row) (texts : List (Nat × Attr × Bytes)) : Prop :=
  ∀ j : Fin 24,
    (∀ x i g, x ∈ texts → x.2.2[i]? = some g → x.1 + i = j.val → row.get j = ⟨g, x.2.1⟩) ∧
    ((∀ x i, x ∈ texts → i < x.2.2.length → x.1 + i ≠ j.val) → row.get j = ⟨0x20#8, .normal⟩)

/-- A grain as a time of its day, hh:mm (R124). -/
def timeGlyphs (q : Nat) : Bytes :=
  let minute := 5 * (q % 288)
  [BitVec.ofNat 8 (48 + minute / 600), BitVec.ofNat 8 (48 + minute / 60 % 10), 0x3A#8,
    BitVec.ofNat 8 (48 + minute % 60 / 10), BitVec.ofNat 8 (48 + minute % 10)]

/-- A number in decimal without leading zeros, ending at a cell (R127). -/
def numberAt (last : Nat) (a : Attr) (places n : Nat) : List (Nat × Attr × Bytes) :=
  ((List.range places).filter fun i => i == 0 || decide (10 ^ i ≤ n)).map fun i =>
    (last - i, a, [BitVec.ofNat 8 (48 + n / 10 ^ i % 10)])

/-- The four hexadecimal digits of a booking id, ending at a cell (R127). -/
def idAt (last : Nat) (a : Attr) (id : BookingId) : List (Nat × Attr × Bytes) :=
  (List.range 4).map fun i =>
    let d := id.toNat / 16 ^ i % 16
    (last - i, a, [BitVec.ofNat 8 (if d < 10 then 48 + d else 55 + d)])

/-- The current booking of a room's list: the one CHECKED_IN, else the ARMED one nearest the head, else none (R122). -/
def CurrentIs (l : List Record) : Option Record → Prop
  | some b => ∃ before after, l = before ++ b :: after ∧
      ((b.state = .checkedIn ∧ ∀ c, c ∈ before → c.state ≠ .checkedIn) ∨
        (b.state = .armed ∧ (∀ c, c ∈ l → c.state ≠ .checkedIn) ∧ ∀ c, c ∈ before → c.state ≠ .armed))
  | none => ∀ c, c ∈ l → c.state ≠ .checkedIn ∧ c.state ≠ .armed

/-- The next booking: the first BOOKED or ARMED one other than the current one, else none (R122). -/
def NextIs (l : List Record) (current : Option Record) : Option Record → Prop
  | some b => ∃ before after, l = before ++ b :: after ∧ (b.state = .booked ∨ b.state = .armed) ∧
      (∀ c, current = some c → b.id ≠ c.id) ∧
      ∀ c, c ∈ before → c.state = .booked ∨ c.state = .armed → ∃ d, current = some d ∧ c.id = d.id
  | none => ∀ c, c ∈ l → c.state = .booked ∨ c.state = .armed → ∃ d, current = some d ∧ c.id = d.id

/-- What row 0 of a door face of room `r` shows at grain `g`: its name and its status word (R123, R124). -/
def StatusShown (s : State) (r : RoomNo) (g : Nat) (current next : Option Record) (row : Row) : Prop :=
  let shows (word : String) (a : Attr) : Prop :=
    RowShows row [(0, .normal, (s.rooms.get r).name.take 15), (24 - word.length, a, glyphsOfText word)]
  match (s.rooms.get r).state with
  | .outOfService | .unconfigured => shows "CLOSED" .accent
  | .held => shows "HELD" .accent
  | .inService =>
    (∀ b, current = some b →
      (b.joined = true ∧ b.room ≠ r → shows "JOINED" .inverse) ∧
      (¬ (b.joined = true ∧ b.room ≠ r) → b.state = .checkedIn → shows "IN USE" .inverse) ∧
      (¬ (b.joined = true ∧ b.room ≠ r) → b.state = .armed → shows "CHECK IN" .inverse)) ∧
    (current = none →
      (∀ b, next = some b → b.ss ≤ g + 2 → shows "SOON" .accent) ∧
      ((∀ b, next = some b → g + 2 < b.ss) → shows "FREE" .normal))

/-! ## Text units (R128 to R130) -/

/-- The cursor advances by the mode (R129). -/
def CursorMoves (a a' : FreeArea) : Prop :=
  a' = { a with row := a'.row, cell := a'.cell } ∧
    (a.mode = .run →
      a'.cell = (if a.cell < a.right then a.cell + 1 else a.left) ∧
      a'.row = (if a.cell < a.right then a.row else if a.row < a.bottom then a.row + 1 else a.top)) ∧
    (a.mode = .stack →
      a'.row = (if a.row < a.bottom then a.row + 1 else a.top) ∧
      a'.cell = (if a.row < a.bottom then a.cell else if a.cell < a.right then a.cell + 1 else a.left))

/-- The glyphs are written one by one at the cursor, which advances after each; a cell written twice holds what was
written last, and every other cell stands (R129). -/
def GlyphsWritten (g : Bytes) (r r' : TextRun) : Prop :=
  ∃ cursor : Nat → FreeArea, cursor 0 = r.area ∧ cursor g.length = r'.area ∧
    (∀ n, n < g.length → CursorMoves (cursor n) (cursor (n + 1))) ∧
    ∀ (i : Fin 8) (j : Fin 24), (r'.own.get i).get j =
      match (List.range g.length).reverse.find? fun n => (cursor n).row == i.val && (cursor n).cell == j.val with
      | some n => ⟨g.getD n 0x20#8, r.area.attr⟩
      | none => (r.own.get i).get j

/-- What one unit of a PANEL_TEXT makes of the face, the free area and the counts that the units before it left:
ignored after END; else a LEVEL that waits for its value is abandoned by any unit but LEVEL_VALUE, and the unit acts
as R129 and R130 give. -/
def UnitTaken (r : TextRun) (u : TextUnit) (r' : TextRun) : Prop :=
  let n := r.counts
  let gone := if r.expected then 1 else 0
  let applied (clamped : Bool) : TextCounts :=
    ⟨n.applied + 1, n.clamped + (if clamped then 1 else 0), n.abandoned + gone, n.ignored⟩
  let ignored (lost : Nat) : TextCounts := ⟨n.applied, n.clamped, n.abandoned + lost, n.ignored + 1⟩
  let a := r.area
  (r.ended = true → r' = { r with counts := ignored 0 }) ∧
  (r.ended = false → match u with
    | .level => r' = { r with expected := true, counts := { n with abandoned := n.abandoned + gone } }
    | .levelValue v =>
      (r.expected = false → r' = { r with counts := ignored 0 }) ∧
      (r.expected = true → r' = { r with
        expected := false
        area := { a with level := min v 15 }
        counts := { n with applied := n.applied + 2, clamped := n.clamped + if 15 < v then 1 else 0 } })
    | .window t b l e =>
      let top := max 4 (min t 7)
      let bottom := max top (min b 7)
      let left := min l 23
      let right := max left (min e 23)
      r' = { r with
        expected := false
        area := { a with top := top, bottom := bottom, left := left, right := right, row := top, cell := left }
        counts := applied (decide (top ≠ t ∨ bottom ≠ b ∨ left ≠ l ∨ right ≠ e)) }
    | .cursor row cell =>
      let within := a.top ≤ row ∧ row ≤ a.bottom ∧ a.left ≤ cell ∧ cell ≤ a.right
      (within → r' = { r with
        expected := false, area := { a with row := row, cell := cell }, counts := applied false }) ∧
      (¬ within → r' = { r with
        expected := false, area := { a with row := a.top, cell := a.left }, counts := applied true })
    | .mode c =>
      (c = 0 → r' = { r with expected := false, area := { a with mode := .run }, counts := applied false }) ∧
      (c = 1 → r' = { r with expected := false, area := { a with mode := .stack }, counts := applied false }) ∧
      (2 ≤ c → r' = { r with expected := false, counts := ignored gone })
    | .attr c =>
      (c = 0 → r' = { r with expected := false, area := { a with attr := .normal }, counts := applied false }) ∧
      (c = 1 → r' = { r with expected := false, area := { a with attr := .inverse }, counts := applied false }) ∧
      (c = 2 → r' = { r with expected := false, area := { a with attr := .accent }, counts := applied false }) ∧
      (3 ≤ c → r' = { r with expected := false, counts := ignored gone })
    | .glyphs g =>
      r' = { r with expected := false, own := r'.own, area := r'.area, counts := applied false } ∧
        GlyphsWritten g r r'
    | .clear =>
      r' = { r with
        expected := false, own := r'.own, area := { a with row := a.top, cell := a.left }, counts := applied false } ∧
      ∀ (i : Fin 8) (j : Fin 24), (r'.own.get i).get j =
        if a.top ≤ i.val ∧ i.val ≤ a.bottom ∧ a.left ≤ j.val ∧ j.val ≤ a.right then ⟨0x20#8, .normal⟩
        else (r.own.get i).get j
    | .finish => r' = { r with expected := false, ended := true, counts := applied false })

/-! ## Release and retirement (R39 to R43, R116 to R118) -/

/-- The state after release that R116 gives an order. -/
def Order.afterRelease (o : Order) : Order :=
  match o.state with
  | .placed => { o with state := .cancelled, dispatchPending := false }
  | .dispatched | .accepted => { o with state := .wasted }
  | .delivered | .wasted | .cancelled => o

/-- The record as R39 leaves it with a release reason: its retire grain is computed from its order after release. -/
def Record.afterRelease (why : ReleaseReason) (b : Record) : Record :=
  let b' : Record := { b with
    state := .released, releaseReason := some why, order := b.order.map Order.afterRelease }
  { b' with retireGrain := retireGrainOf b' }

/-- A released record stays in the store until its retire grain: its order is then still counted (R39, R41). -/
def Record.stays (b : Record) : Bool := b.order.any fun o => o.state != .placed && o.state != .cancelled

/-- The order has a ticket: DISPATCHED or ACCEPTED (R112). -/
def Record.served (b : Record) : Bool := b.order.any fun o => o.state == .dispatched || o.state == .accepted

/-- The part with CATERING_WASTE raised for a booking whose order goes to waste (R116). -/
def wasteRaised (b : Record) (s : State) : State :=
  match b.order with
  | some o => if b.served then
      raise .cateringWaste (.booking b.id) (some b.room) (BitVec.ofNat 32 o.kitchen.val) s else s
  | none => s

/-- The tickets of the bookings named are gone from the lists of their orders' kitchens, whose pantry faces are
composed anew, and every other ticket and every other face stands (R116, R118, R127). -/
def TicketsGone (gone : List Record) (s t : State) : Prop :=
  let lost (k : KitchenNo) (u : Ticket) : Bool :=
    gone.any fun b => b.id == u.booking && b.order.any fun o => o.kitchen == k
  (∀ k, t.catering.tickets.get k = (s.catering.tickets.get k).filter fun u => !lost k u) ∧
    ∀ a, let f := s.composer.faces.get a
      let f' := t.composer.faces.get a
      match (s.panels.get a).kitchen? with
      | some k =>
        if (s.catering.tickets.get k).any (lost k) then
          f' = { f with own := pantryRows t k, dirty := f'.dirty } ∧ ∀ i, f.dirty.get i = true → f'.dirty.get i = true
        else f' = f
      | none => f' = f

/-- The load table keeps its days, and the loads of the orders named are taken from the slots whose page carries
their day (R105). -/
def LoadsGone (gone : List Order) (s t : State) : Prop :=
  ∀ i, (t.catering.pages.get i).tag = (s.catering.pages.get i).tag ∧
    ∀ (k : KitchenNo) (slot : Fin 96),
      ((t.catering.pages.get i).loads.get k).get slot = ((s.catering.pages.get i).loads.get k).get slot -
        ((gone.filter fun o => o.kitchen == k && o.qd / 288 % 14 == i.val &&
          (s.catering.pages.get i).tag == o.qd / 288 && o.qd % 288 / 3 == slot.val).map fun o => o.load).sum

/-- The cells of the records named have joined the tail of the free list, record by record, those of each in
ascending number, and the STORE_LOW arm has been judged (R29, R31). -/
def CellsReturned (gone : List Record) (s t : State) : Prop :=
  (∃ cells : List (List Nat), List.Forall₂ (fun b c => c.Perm b.cells ∧ c.Pairwise (· ≤ ·)) gone cells ∧
    t.store.free = s.store.free ++ cells.flatten) ∧
  t.store.storeLowArmed = (s.store.storeLowArmed || (!gone.isEmpty && decide (64 ≤ t.store.free.length)))

/-- A booking has been released: it leaves its lists, whose rooms are marked, its order takes its state after release
(R116), and it retires at once, or, its order being counted still, joins the retire list by its retire grain (R39,
R41, R43). -/
def Released (why : ReleaseReason) (b : Record) (s t : State) : Prop :=
  let b' := b.afterRelease why
  (∀ x, x ≠ b.id → t.record? x = s.record? x) ∧ t.record? b.id = (if b.stays then some b' else none) ∧
  (∀ q, t.store.lists.get q =
    if q ∈ listRooms s b then (s.store.lists.get q).filter (fun x => x != b.id) else s.store.lists.get q) ∧
  (∀ q, t.composer.roomMarks.get q = (s.composer.roomMarks.get q ||
    (listRooms s b).contains q && (s.store.lists.get q).contains b.id)) ∧
  (b.stays = true → ∃ before after, s.store.retireList = before ++ after ∧
    t.store.retireList = before ++ b.id :: after ∧
    (∀ x, x ∈ before → ∀ c, t.record? x = some c → c.retireGrain ≤ b'.retireGrain) ∧
    ∀ x, after.head? = some x → ∃ c, t.record? x = some c ∧ b'.retireGrain < c.retireGrain) ∧
  (b.stays = false → t.store.retireList = s.store.retireList.filter fun x => x != b.id) ∧
  CellsReturned (if b.stays then [] else [b]) s t ∧ t.store.walkIn = s.store.walkIn ∧
  TicketsGone (if b.served || !b.stays then [b] else []) s t ∧
  LoadsGone (b.order.filter fun o => o.state == .placed).toList s t

/-! ## Tickets handed over (R149) -/

/-- A TICKET frame with this content has been handed over for a kitchen's pantry panel (R112, R149): it takes the
place of the frame for its booking, or the tail, or, where 12 frames stand, the tail once those without a ticket any
more have been dropped; else it is dropped. A kitchen without a pantry panel hands nothing over. -/
def TicketHanded (k : KitchenNo) (u : Ticket) (s : State) (panels : Tab Panel 112) : Prop :=
  (¬ (∃ a, (s.kitchens.get k).pantry = some a ∧ (s.panels.get a).kind = .pantry) → panels = s.panels) ∧
  ∀ a, (s.kitchens.get k).pantry = some a → (s.panels.get a).kind = .pantry →
    let l := (s.panels.get a).tickets
    let flying (id : BookingId) : Bool := s.loop.awaited.any fun w => !w.stale && w.carried == .ticket a id
    let frame : TicketFrame := ⟨u.booking, k, u.roomName, u.qd, u.load, false⟩
    let lists : List TicketFrame :=
      if l.any fun e => e.booking == u.booking then
        l.map fun e => if e.booking == u.booking then
          { frame with replaced := e.replaced || flying u.booking } else e
      else if l.length < 12 then l ++ [frame]
      else
        let kept := l.filter fun e => flying e.booking ||
          (s.catering.tickets.get e.kitchen).any fun v => v.booking == e.booking
        if kept.length < 12 then kept ++ [frame] else kept
    panels = s.panels.set a { s.panels.get a with tickets := lists }

/-! ## Due work (R42, R88 to R90) -/

/-- The grain scan of grain `g` has something to do with a record: to arm it, to release it, to end it or to
retire it. -/
def ScanDue (g : Nat) (s : State) (b : Record) : Prop :=
  let e := s.rooms.get b.room
  (b.state = .booked ∧ b.qs ≤ g + e.earlyWindow) ∨
    (b.state = .armed ∧ e.grace ≠ 0 ∧ min (b.qs + e.grace) b.qe ≤ g) ∨
    (b.state = .armed ∧ e.grace = 0 ∧ b.qe ≤ g) ∨
    (b.state = .checkedIn ∧ b.qe ≤ g) ∨
    ((b.state = .ended ∨ b.state = .released) ∧ b.retireGrain ≤ g)

/-- The scan of grain `g` arms a BOOKED record (R88). -/
def Record.arms (g : Nat) (s : State) (b : Record) : Bool :=
  b.state == .booked && decide (b.qs ≤ g + (s.rooms.get b.room).earlyWindow)

/-- It releases one that is, or so becomes, ARMED, under a grace that has run out or ends with the booking (R89). -/
def Record.missed (g : Nat) (s : State) (b : Record) : Bool :=
  let grace := (s.rooms.get b.room).grace
  (b.state == .armed || b.arms g s) && decide (grace ≠ 0 ∧ (b.qs + grace ≤ g ∨ b.qe ≤ g))

/-- It ends such a one without grace at its end (R90). -/
def Record.unattended (g : Nat) (s : State) (b : Record) : Bool :=
  (b.state == .armed || b.arms g s) && decide ((s.rooms.get b.room).grace = 0 ∧ b.qe ≤ g)

/-- It ends a CHECKED_IN one at its end (R90). -/
def Record.attended (g : Nat) (b : Record) : Bool := b.state == .checkedIn && decide (b.qe ≤ g)

/-- The record after the transitions of the scan (R88 to R91). -/
def Record.scanned (g : Nat) (s : State) (b : Record) : Record :=
  if b.missed g s then b.afterRelease .noShow
  else if b.unattended g s then { b with state := .ended, endReason := some .unattended }
  else if b.attended g then { b with state := .ended, endReason := some .normal }
  else if b.arms g s then { b with state := .armed }
  else b

/-- It retires: released with no counted order, or ENDED or RELEASED with its retire grain come (R39, R42). -/
def Record.retired (g : Nat) (s : State) (b : Record) : Bool :=
  (b.missed g s && !b.stays) ||
    (((b.scanned g s).state == .ended || (b.scanned g s).state == .released) &&
      decide ((b.scanned g s).retireGrain ≤ g))

end Sys2Proof.Machine
end

