-- ==== Sys2Proof/WellFormed.lean ====
section
/-!
DEFINITION. Which commands the byte fields of chapter 12 can carry. A command that fails a check here has an
operand too large for its field, or a fixed field of the wrong length; the step gives such a command a
meaning all the same, so no statement needs these checks, but a sender can only send well-formed commands.
-/

namespace Sys2Proof

/-- A number that one byte carries. -/
abbrev isU8 (n : Nat) : Bool := decide (n < 256)

/-- A number that two bytes carry. -/
abbrev isU16 (n : Nat) : Bool := decide (n < 65536)

/-- An optional one-byte field: FFh stands for absent, so a present value is below it (R170). -/
def optU8 : Option Nat → Bool
  | none => true
  | some n => isU8 n

/-- A glyph string in a field of `size` glyph bytes (R170). -/
def GlyphField.wf (size : Nat) (g : GlyphField) : Bool := isU8 g.length && g.cells.length == size

/-- The order positions of a BOOK or MODIFY: eight lines, each two bytes (`12` 12.3). -/
def OrderAsk.wf (o : OrderAsk) : Bool :=
  isU8 o.offset && isU8 o.count && o.lines.length == 8 && o.lines.all fun l => isU8 l.1 && isU8 l.2

def optAll {α : Type} (p : α → Bool) : Option α → Bool
  | none => true
  | some a => p a

/-- The fields of a BOOK (`12` 12.7). -/
def BookAsk.wf (b : BookAsk) : Bool :=
  isU8 b.room && isU8 b.cls && isU16 b.attendees && isU16 b.day && isU16 b.minute && isU16 b.duration &&
    optAll (GlyphField.wf 24) b.title && optAll OrderAsk.wf b.order

/-- The times of a MODIFY. -/
def AskTimes.wf (t : AskTimes) : Bool := isU16 t.day && isU16 t.minute && isU16 t.duration

/-- The fields of a MODIFY (`12` 12.7). -/
def ModifyAsk.wf (m : ModifyAsk) : Bool :=
  optAll AskTimes.wf m.times && optU8 m.room && optAll (fun a => isU16 a) m.attendees &&
    optAll (optAll (GlyphField.wf 24)) m.title && optAll (optAll OrderAsk.wf) m.order

/-- The operands fit the fields that carry them. -/
def Instr.wf : Instr → Bool
  | .clockSet _ day minute second _ => isU16 day && isU16 minute && isU8 second
  | .book _ ask => ask.wf
  | .modify _ ask => ask.wf
  | .listRoom _ room day start => isU8 room && isU16 day && isU16 start
  | .tableRead _ table index => isU8 table && isU16 index
  | .tableWrite _ table index mask _ =>
      isU8 table && isU16 index && decide (1 ≤ mask.length) && decide (mask.length ≤ 12)
  | .roomStateWrite _ room code => isU16 room && isU8 code
  | .alternatesWrite _ room entries => isU16 room && decide (entries.length ≤ 8) && entries.all isU8
  | .capacityPartnerWrite _ room capacity partner => isU16 room && optU8 capacity && optU8 partner
  | .roomNameWrite _ room name => isU16 room && name.wf 24
  | .panelKindBindingWrite _ address kind binding => isU16 address && optU8 kind && optU8 binding
  | .kitchenStateWrite _ kitchen code => isU16 kitchen && isU8 code
  | .kitchenNameWrite _ kitchen name => isU16 kitchen && name.wf 16
  | .capacityProfileWrite _ kitchen slots =>
      isU16 kitchen && slots.all fun p => decide (p.1 < 96) && isU16 p.2
  | .overlayWrite _ overlay rows =>
      isU16 overlay && rows.all fun p => decide (p.1 < 8) && p.2.length == 48
  | .dispositionWrite _ cls action level => isU16 cls && optU8 action && optU8 level
  | .loopSettingsWrite _ windows windowTime timeout => optU8 windows && optU8 windowTime && optU8 timeout
  | .noticePeek _ queue => isU8 queue
  | .noticeTake _ queue count => isU8 queue && isU8 count
  | .noticeFlush _ queue => isU8 queue
  | .panelText _ address _ => isU8 address
  | .panelOverlay _ target choice => isU8 target && isU8 choice
  | .call origin sequence payload => isU8 origin && decide (sequence < 16) && isU8 payload.length
  | .grainScan pieces => decide (pieces ≤ 97)
  | .dispatchPass pieces => decide (pieces ≤ 8)
  | .zoneRowRecompose pieces => decide (pieces ≤ 96)
  | .referenceEdge | .referenceLost | .dayRollover | .clockRead _ | .uplinkFrame _ | .cascadeFrame _
  | .cancel _ _ | .admissionCheck | .displacement | .moveFramePop _ | .vacate | .bookNow | .extend | .endNow
  | .tap | .accept | .delivered | .query _ _ | .signalLossLatchClear _ | .alertClear _ _
  | .countersRead _ _ | .loopEcho _ | .partReset _ | .lineReset _ | .resetLineAssert _
  | .resetLineRelease _ | .powerOnReset _ | .powerGoodFall | .hold | .signalPresent | .signalAbsent
  | .windowOpen _ | .ownFrameSend _ | .ownFrameReturn _ _ | .returnTimeout | .panelFrame _ _
  | .linkStateChange _ _ => true

end Sys2Proof
end

