-- ==== Sys2Proof/Certificates/Slice0/Obligations.lean ====
section
/-!
DEFINITION. The statements for the provers. Each is about one command or a few of one shape, about what every
step keeps, or about a byte image. A statement about a command says which state it answers, and with it which
parts of the state stand as they were: a state written `{ s with a := t.a }` differs from `s` in `a` alone. The
hypotheses are on the state and the operands.
-/

open Sys2Proof Sys2Proof.Machine

/-! ## The step, and what every command keeps -/

/-- The step takes the command at the front and carries it out with the rest still waiting. On an empty queue it
idles: that clause is the model's choice (notes/assumptions/2.md), and no rule of the spec. -/
def Obligations.StepRunsTheFrontCommand : Prop :=
  (∀ (c : Instr) (rest : List Instr) (s : State),
    s.pending = c :: rest → step s = exec c { s with pending := rest }) ∧
  ∀ s : State, s.pending = [] → step s = .next s

/-- Every command completes, whatever the state and its operands, and leaves the commands that wait alone. That the part
has no fault and no command without an effect is the model's reading of the spec (DEDUCED, notes/assumptions/44.md):
the spec gives every row an effect in every state, if only that it leaves the part as it was, and names no stop. -/
def Obligations.EveryCommandCompletesAndLeavesTheQueue : Prop :=
  ∀ (c : Instr) (s : State), ∃ t, exec c s = .next t ∧ t.pending = s.pending

/-- The invariants hold after the power-on reset (R12, R46, R52, R87, R105, R136, R151, R161), those of the record pool
and of the room lists among them. The levels of the lines from outside are the model's choice
(notes/assumptions/1.md), and no clause reads them. -/
def Obligations.InvariantsHoldAtReset : Prop :=
  State.reset.clock.Legal ∧ State.reset.engine.Legal ∧ State.reset.exceptions.Legal ∧
    State.reset.catering.Legal ∧ State.reset.settings.Legal ∧ State.reset.loop.Legal ∧
    (∀ a, (State.reset.panels.get a).Legal) ∧
    State.reset.store.Legal ∧ NewIdInHand State.reset ∧
    ListsLegal State.reset ∧ ListsAgree State.reset ∧ PlacementClear State.reset

/-- Every step keeps the clock within the ranges of `01` 1.1, at 0 while UNSET and with the sub-second count 0
while it does not run, where the commands that wait fit the fields that carry them (R1, R2, R8, R12). -/
def Obligations.StepKeepsTheClockLegal : Prop :=
  ∀ s t : State, s.clock.Legal → (∀ c, c ∈ s.pending → c.wf = true) → step s = .next t →
    t.clock.Legal ∧ ∀ c, c ∈ t.pending → c.wf = true

/-- Every step keeps the bounds of what can queue, and the days of the load pages: at most 16 entries in the admission
queue, and none while the engine is IDLE (R49, R50); at most 5 frames in the move stack (R74); the class counters,
notice queues and lost counts within theirs (R155, R156); each page carrying a day of its own number modulo 14
(R105). Every step keeps each cell of the pool on the free list or with one record, 3072 in all (R29), and ids
unique (R35), a BOOK past its check for a duplicate naming an id that has no record. Every step keeps each room list
in the order of its spans, none overlapping (R37), and at most one of its bookings CHECKED_IN (R97), where the lists
hold records that belong in them and what the engine has in hand to insert has been found free there. -/
def Obligations.StepKeepsTheQueuesAndPagesLegal : Prop :=
  ∀ s t : State, step s = .next t →
    (s.engine.Legal → s.exceptions.Legal → s.catering.Legal →
      t.engine.Legal ∧ t.exceptions.Legal ∧ t.catering.Legal) ∧
    (s.store.Legal → NewIdInHand s → t.store.Legal ∧ NewIdInHand t) ∧
    (ListsLegal s → ListsAgree s → PlacementClear s → ListsLegal t)

/-- Every step keeps the loop settings and the Loop Controller's counts within their ranges, and awaits no frame and
holds none back while the loop is DOWN (R135 to R138, R142). That a beacon held back is dropped as the loop goes
DOWN is the model's choice (notes/assumptions/58.md). -/
def Obligations.StepKeepsTheLoopLegal : Prop :=
  ∀ s t : State, s.settings.Legal → s.loop.Legal → step s = .next t → t.settings.Legal ∧ t.loop.Legal

/-- Every step keeps each panel's counts, replies and TICKET frames within their bounds, and its counts agreeing
with its state (R143, R144, R146, R147, R149). That a binding fits its kind is the model's reading of R143 for kind
NONE (notes/assumptions/32.md). -/
def Obligations.StepKeepsThePanelsLegal : Prop :=
  ∀ s t : State, (∀ a, (s.panels.get a).Legal) → step s = .next t → ∀ a, (t.panels.get a).Legal

/-- No command but the power-on reset changes a locked capacity or a locked partner, or opens a lock (R14, R15). -/
def Obligations.LockedCapacityAndPartnerStand : Prop :=
  ∀ (c : Instr) (s t : State), (∀ straps, c ≠ .powerOnReset straps) → exec c s = .next t → ∀ r,
    ((s.rooms.get r).capacityLocked = true →
      (t.rooms.get r).capacityLocked = true ∧ (t.rooms.get r).capacity = (s.rooms.get r).capacity) ∧
    ((s.rooms.get r).partnerLocked = true →
      (t.rooms.get r).partnerLocked = true ∧ (t.rooms.get r).partner = (s.rooms.get r).partner)

/-! ## The campus clock (chapter 1, with R106 and R107) -/

/-- What an edge of the reference does to a powered part (R1, R2, R6, R7): it is PRESENT; a RUNNING clock counts, a
boundary goes to its three owners at a new grain, a rollover at a new day, and the clock halts at the end of its
range. -/
def Obligations.ReferenceEdgeAdvancesARunningClock : Prop :=
  ∀ s : State, s.ports.powerGood = true → s.clock.Legal → ∃ t, exec .referenceEdge s = .next t ∧
    (s.clock.state ≠ .running → t = { s with clock := { s.clock with reference := true } }) ∧
    (s.clock.state = .running →
      (s.clock.subSecond < 32767 →
        t = { s with clock := { s.clock with reference := true, subSecond := s.clock.subSecond + 1 } }) ∧
      (s.clock.subSecond = 32767 →
        (s.clock.day = 65535 ∧ s.clock.minute = 1439 ∧ s.clock.second = 59 →
          t = raise .clockStopped .none none 1#32
            { s with clock := { s.clock with reference := true, subSecond := 0, state := .halted } }) ∧
        (¬ (s.clock.day = 65535 ∧ s.clock.minute = 1439 ∧ s.clock.second = 59) →
          t = { s with clock := t.clock, deliveries := t.deliveries } ∧ t.clock.Legal ∧
          t.clock.seconds = s.clock.seconds + 1 ∧ t.clock.subSecond = 0 ∧ t.clock.state = .running ∧
          t.clock.reference = true ∧
          t.deliveries =
            (let turn := s.clock.second = 59 ∧ (s.clock.minute + 1) % 5 = 0
             let day := s.clock.second = 59 ∧ s.clock.minute = 1439
             let g := t.clock.day * 288 + t.clock.minute / 5
             { s.deliveries with
               storeBoundaries := s.deliveries.storeBoundaries ++ if turn then [g] else []
               cateringBoundaries := s.deliveries.cateringBoundaries ++ if turn then [g] else []
               faceBoundaries := s.deliveries.faceBoundaries ++ if turn then [g] else []
               rollovers := s.deliveries.rollovers ++ if day then [⟨s.clock.day + 1, 1⟩] else [] }))))

/-- Two seconds without an edge (R2): the reference is ABSENT, and a RUNNING clock halts where it stands, with
CLOCK_STOPPED of detail 0. What the occurrence does is written out (R152, R155, R156, R159): it is counted; by its
class's action it is noticed, or lost where the queue is full, and latched; with no subject, HOLD closes nothing. -/
def Obligations.ReferenceLostHaltsARunningClock : Prop :=
  ∀ s : State, s.ports.powerGood = true →
    (s.clock.reference = true → s.clock.state = .running → ∃ t, exec .referenceLost s = .next t ∧
      t = { s with clock := { s.clock with reference := false, state := .halted, subSecond := 0 },
                   exceptions := t.exceptions } ∧
      (let d := s.dispositions.get 19
       let q := s.exceptions.queues.get 3
       t.exceptions =
         { s.exceptions with
           counters := s.exceptions.counters.set 19 (min (s.exceptions.counters.get 19 + 1) 65535)
           queues := if d.action ≠ .count ∧ q.length < 32 then
               s.exceptions.queues.set 3 (q ++ [⟨.clockStopped, .none, 0#32, s.clock.grain⟩])
             else s.exceptions.queues
           lost := if d.action ≠ .count ∧ 32 ≤ q.length then
               s.exceptions.lost.set 3 (min (s.exceptions.lost.get 3 + 1) 255)
             else s.exceptions.lost
           latches := if d.action = .notifyAlert ∨ d.action = .hold then s.exceptions.latches.set 19 true
             else s.exceptions.latches })) ∧
    (s.clock.reference = false ∨ s.clock.state ≠ .running →
      exec .referenceLost s = .next { s with clock := { s.clock with reference := false } })

/-- A CLOCK_SET is checked, its form before the reference, and one that fails a check, or that would move a clock
that has run back by two grains or more without FORCE, is answered and changes nothing else (R8, R10). One that
finds the clock UNSET loads the time and starts it, and gives the load pages the days of the new horizon with their
loads as they stand: no boundary, no rollover, no exception (R8, R106). -/
def Obligations.ClockSetIsCheckedThenStartsAnUnsetClock : Prop :=
  ∀ (via : Via) (day minute second : Nat) (force : Bool) (s : State), s.taking = true →
    let i : Instr := .clockSet via day minute second force
    (1439 < minute ∨ 59 < second → exec i s = .next (respond via .clockSet ⟨.malformed, none, []⟩ s)) ∧
    (minute ≤ 1439 → second ≤ 59 →
      (s.clock.reference = false → exec i s = .next (respond via .clockSet ⟨.refused, some .noReference, []⟩ s)) ∧
      (s.clock.reference = true → s.clock.state ≠ .unset → force = false →
        (day * 288 + minute / 5) + 2 ≤ s.clock.day * 288 + s.clock.minute / 5 →
        exec i s = .next (respond via .clockSet ⟨.refused, some .clockBackward, []⟩ s)) ∧
      (s.clock.reference = true → s.clock.state = .unset → ∃ t, exec i s = .next t ∧
        t = { s with clock := t.clock, catering := t.catering, ports := t.ports } ∧
        t.clock = ⟨day, minute, second, 0, .running, true⟩ ∧ t.catering.tickets = s.catering.tickets ∧
        (∀ i, day ≤ (t.catering.pages.get i).tag ∧ (t.catering.pages.get i).tag ≤ day + 13 ∧
          (t.catering.pages.get i).tag % 14 = i.val ∧
          (t.catering.pages.get i).loads = (s.catering.pages.get i).loads) ∧
        Answered via .clockSet (.done (setContents t.clock false 0)) s t))

/-- A CLOCK_SET that does not move the day back, of a clock that has run: a RUNNING clock that comes to a later
grain raises one boundary, and CLOCK_JUMP where the set moves it by two grains or more either way; a HALTED one
raises neither; a later day is a rollover whose crossing count is 14 at most (R7 to R10). That CLOCK_JUMP is raised
before the time is loaded is the model's reading of the stamp that R11 gives it (notes/assumptions/14.md), and the
difference in the answer of a HALTED clock's set is the model's too (notes/assumptions/15.md). -/
def Obligations.ClockSetMovesAClockOnwardOrWithinItsDay : Prop :=
  ∀ (via : Via) (day minute second : Nat) (force : Bool) (s : State), s.taking = true →
    minute ≤ 1439 → second ≤ 59 → s.clock.reference = true → s.clock.state ≠ .unset → s.clock.day ≤ day →
    let old : Nat := s.clock.day * 288 + s.clock.minute / 5
    let new : Nat := day * 288 + minute / 5
    let delta : Int := (new : Int) - (old : Int)
    let running : Bool := s.clock.state == .running
    let jump : Bool := running && (decide (old + 2 ≤ new) || decide (new + 2 ≤ old))
    old ≤ new + 1 ∨ force = true →
    ∃ t, exec (.clockSet via day minute second force) s = .next t ∧
      t = { s with clock := t.clock, deliveries := t.deliveries, exceptions := t.exceptions, ports := t.ports } ∧
      t.clock = ⟨day, minute, second, 0, .running, true⟩ ∧
      t.exceptions =
        (if jump then (raise .clockJump .none none (BitVec.ofInt 32 delta) s).exceptions else s.exceptions) ∧
      t.deliveries =
        (let b := if running = true ∧ old < new then [new] else []
         { s.deliveries with
           storeBoundaries := s.deliveries.storeBoundaries ++ b
           cateringBoundaries := s.deliveries.cateringBoundaries ++ b
           faceBoundaries := s.deliveries.faceBoundaries ++ b
           rollovers := s.deliveries.rollovers ++
             if s.clock.day < day then [⟨day, min (day - s.clock.day) 14⟩] else [] }) ∧
      Answered via .clockSet (.done (setContents t.clock jump delta)) s t

/-- A CLOCK_SET that moves the day back loads the time, raises no boundary and no rollover, and is answered with its
difference (R8 to R10); of a RUNNING clock moved by two grains or more it raises CLOCK_JUMP first. The load pages
are realigned (R107): one within N to N + 13 stands. For one beyond, the counted orders of its day are cut: the
record of an ENDED or RELEASED booking retires (R43), any other order becomes CANCELLED with CATERING_DROPPED of
detail 2 and its booking's retire grain computed anew (R40), and their tickets go; the page takes the day of the
horizon that is congruent to it, with the loads of the counted orders of that day added up anew (R105). Points where
the spec leaves a choice are the model's: CLOCK_JUMP before the load of the time (notes/assumptions/14.md) and its
flag in the answer (notes/assumptions/15.md); rollovers not yet taken are applied first (notes/assumptions/16.md);
the order of the cuts (notes/assumptions/17.md); and CATERING_DROPPED is stamped with the grain after the set
(notes/assumptions/47.md). -/
def Obligations.ClockSetToAnEarlierDayRealignsThePages : Prop :=
  ∀ (via : Via) (day minute second : Nat) (force : Bool) (s : State), s.taking = true → s.catering.Legal →
    minute ≤ 1439 → second ≤ 59 → s.clock.reference = true → s.clock.state ≠ .unset → day < s.clock.day →
    (s.clock.day * 288 + s.clock.minute / 5 ≤ day * 288 + minute / 5 + 1 ∨ force = true) →
    let delta : Int := ((day * 288 + minute / 5 : Nat) : Int) - ((s.clock.day * 288 + s.clock.minute / 5 : Nat) : Int)
    let jump : Bool := s.clock.state == .running && decide (delta ≤ -2)
    ∃ t, exec (.clockSet via day minute second force) s = .next t ∧
      t = { s with clock := t.clock, store := t.store, catering := t.catering, composer := t.composer,
                   exceptions := t.exceptions, deliveries := t.deliveries, ports := t.ports } ∧
      t.clock = ⟨day, minute, second, 0, .running, true⟩ ∧ t.catering.Legal ∧
      (∀ i, (t.catering.pages.get i).tag ≤ day + 13) ∧
      t.deliveries = { s.deliveries with rollovers := [] } ∧ t.engine = s.engine ∧ t.loop = s.loop ∧
      t.settings = s.settings ∧ t.profile = s.profile ∧ t.menu = s.menu ∧
      Answered via .clockSet (.done (setContents t.clock jump delta)) s t ∧
      (s.deliveries.rollovers = [] → (s.store.records.map (·.id)).Nodup →
        let cut (o : Order) : Bool := o.state != .cancelled &&
          (s.catering.pages.get ⟨o.qd / 288 % 14, Nat.mod_lt _ (by decide)⟩).tag == o.qd / 288 &&
          decide (day + 13 < o.qd / 288)
        let ended (b : Record) : Bool := b.state == .ended || b.state == .released
        let cutOn (i : Fin 14) (b : Record) : Bool := b.order.any fun o => cut o && o.qd / 288 % 14 == i.val
        let dropped := (List.finRange 14).flatMap fun i => s.store.records.filter fun b => cutOn i b && !ended b
        let retired := s.store.records.filter fun b => b.order.any cut && ended b
        let before : State := if jump then raise .clockJump .none none (BitVec.ofInt 32 delta) s else s
        (∀ b, b ∈ s.store.records → t.record? b.id =
          match b.order with
          | none => some b
          | some o =>
            if cut o = false then some b
            else if ended b then none
            else some { b with order := some { o with state := .cancelled, dispatchPending := false }
                               retireGrain := b.se }) ∧
        (∀ id, s.record? id = none → t.record? id = none) ∧
        (∀ q, t.store.lists.get q = (s.store.lists.get q).filter fun id =>
          !(retired.any fun b => b.id == id && (listRooms s b).contains q)) ∧
        t.store.retireList = s.store.retireList.filter (fun id => !(retired.any fun b => b.id == id)) ∧
        (∃ cells, cells.Perm (retired.flatMap (·.cells)) ∧ t.store.free = s.store.free ++ cells) ∧
        (∀ k, t.catering.tickets.get k = (s.catering.tickets.get k).filter fun u =>
          !(s.store.records.any fun b => b.id == u.booking && b.order.any fun o => cut o && o.kitchen == k)) ∧
        t.exceptions = (dropped.foldl (fun u b => raise .cateringDropped (.booking b.id) (some b.room) 2#32 u)
          { before with clock := t.clock }).exceptions ∧
        ∀ i, let page := s.catering.pages.get i
          let page' := t.catering.pages.get i
          (page.tag ≤ day + 13 → page' = page) ∧
          (day + 13 < page.tag → day ≤ page'.tag ∧ page'.tag ≤ day + 13 ∧ page'.tag % 14 = i.val ∧
            ∀ (k : KitchenNo) (slot : Fin 96), (page'.loads.get k).get slot =
              countedLoad t k page'.tag slot))

/-- The Catering Scheduler takes the oldest rollover: each page whose day has passed is emptied and given the day
of the horizon from the new day that is congruent to it; every other page, and the ticket lists, stand (R106). -/
def Obligations.DayRolloverGivesPassedPagesToTheHorizon : Prop :=
  ∀ (r : Rollover) (rest : List Rollover) (s : State), s.ports.powerGood = true →
    s.deliveries.rollovers = r :: rest →
    ∃ t, exec .dayRollover s = .next t ∧
      t = { s with deliveries := { s.deliveries with rollovers := rest }, catering := t.catering } ∧
      t.catering.tickets = s.catering.tickets ∧
      ∀ i, ((s.catering.pages.get i).tag < r.day →
          ∃ d, r.day ≤ d ∧ d ≤ r.day + 13 ∧ d % 14 = i.val ∧ t.catering.pages.get i = emptyPage d) ∧
        (r.day ≤ (s.catering.pages.get i).tag → t.catering.pages.get i = s.catering.pages.get i)

/-! ## Requests that only read (R11, R44, R45, R166) -/

/-- The requests that read the part answer what stands and change nothing: CLOCK_READ the clock, the current grain
and the horizon end, in every clock state (R11); QUERY the record or UNKNOWN_ID, with the store summary (R44);
LIST_ROOM the records of a room's list that touch a day, 40 at most from the start index, with the next index where
more remain (R45); TABLE_READ the entry's image, or 46 bytes of all ones for an absent entry (R166). -/
def Obligations.ReadsAnswerWhatStandsAndChangeNothing : Prop :=
  ∀ (via : Via) (s : State), s.taking = true →
    let answers (i : Instr) (k : Kind) (a : Answer) : Prop :=
      ∃ t, exec i s = .next t ∧ t = { s with ports := t.ports } ∧ Answered via k a s t
    let summary : Bytes := word16 s.store.free.length ++ word16 s.store.records.length
    answers (.clockRead via) .clockRead (.done
      (word16 s.clock.day ++ word16 s.clock.minute ++
        [byte s.clock.second, byte s.clock.state.code, byte (if s.clock.reference then 1 else 0), 0x00#8] ++
        word32 (s.clock.day * 288 + s.clock.minute / 5) ++
        word32 (min (s.clock.day * 288 + 4032) 18874367))) ∧
    (∀ id, (∀ b, s.record? id = some b → answers (.query via id) .query (.done (recordImage b ++ summary))) ∧
      (s.record? id = none → answers (.query via id) .query ⟨.refused, some .unknownId, summary⟩)) ∧
    (∀ (r : RoomNo) (day start : Nat), day ≤ 65535 →
      let l := (s.listed r).filter fun b => decide (b.ss < day * 288 + 288 ∧ day * 288 < b.se)
      let page := (l.drop start).take 40
      answers (.listRoom via r.val day start) .listRoom (.done
        (word16 l.length ++ [byte page.length] ++
          (if start + page.length < l.length then word16 (start + page.length) else [0xFF#8, 0xFF#8]) ++ summary ++
          page.flatMap listEntry))) ∧
    (∀ room day start : Nat, 96 ≤ room ∨ 65535 < day →
      answers (.listRoom via room day start) .listRoom ⟨.malformed, none, []⟩) ∧
    (∀ table index : Nat, answers (.tableRead via table index) .tableRead (.done (tableImage s table index)) ∧
      (9 ≤ table ∨ (table = 1 ∧ 96 ≤ index) ∨ (table = 2 ∧ (index = 0 ∨ 112 < index)) ∨
        (table = 3 ∧ 256 ≤ index) ∨ ((table = 4 ∨ table = 5 ∨ table = 6) ∧ 8 ≤ index) ∨
        (table = 7 ∧ 22 ≤ index) ∨ ((table = 0 ∨ table = 8) ∧ index ≠ 0) →
        tableImage s table index = List.replicate 46 0xFF#8))

/-! ## The ports (chapter 11) -/

/-- A sound request frame that names this part is claimed (R162, R164): it does what the command of the request it
spells does; where its version is not 1, or its kind or payload spells no request, it is answered MALFORMED by the
port, with the kind code as received. -/
def Obligations.ClaimedFrameDoesItsRequest : Prop :=
  ∀ (f : EthFrame) (e : Envelope) (s : State), s.taking = true → f.frameType = 0x9A61#16 → f.checkOk = true →
    readEnvelope f.body = some e → e.direction = 0 → e.target = s.ports.node.val →
    let via : Via := ⟨f.source, f.destination, e.tag⟩
    (∀ i, e.version = 1 → readRequest via e.kind e.payload = some i → exec (.uplinkFrame f) s = exec i s) ∧
    (e.version ≠ 1 ∨ readRequest via e.kind e.payload = none →
      exec (.uplinkFrame f) s = .next (respondCode via e.kind ⟨.malformed, none, []⟩ s))

/-- What becomes of a frame that this part does not claim. At the uplink port (R162): ignored for its type, dropped and
counted for its checks or its direction, sent on from the cascade port as it came, or answered NO_ROUTE. At the
cascade port (R163): ignored for its type, dropped and counted for its checks, and else sent on from the uplink port
as it came, whatever node and direction it names, or discarded where that link is DOWN. A receiver's report of its
link is recorded. Two clauses are the model's choices: that the report is recorded also by a part without power
(notes/assumptions/37.md), and that the responses made before a frame sent on have left by then
(notes/assumptions/6.md). -/
def Obligations.UnclaimedFramesAreRouted : Prop :=
  ∀ (f : EthFrame) (s : State),
    (s.taking = true →
      (f.frameType ≠ 0x9A61#16 → exec (.uplinkFrame f) s = .next s ∧ exec (.cascadeFrame f) s = .next s) ∧
      (f.frameType = 0x9A61#16 →
        (f.checkOk = false ∨ readEnvelope f.body = none →
          exec (.uplinkFrame f) s =
            .next { s with ports := { s.ports with uplinkDrops := min (s.ports.uplinkDrops + 1) 65535 } } ∧
          exec (.cascadeFrame f) s =
            .next { s with ports := { s.ports with cascadeDrops := min (s.ports.cascadeDrops + 1) 65535 } }) ∧
        ∀ e, f.checkOk = true → readEnvelope f.body = some e →
          (e.direction ≠ 0 → exec (.uplinkFrame f) s =
            .next { s with ports := { s.ports with uplinkDrops := min (s.ports.uplinkDrops + 1) 65535 } }) ∧
          (e.direction = 0 → s.ports.node.val < e.target → s.ports.cascadeUp = true →
            exec (.uplinkFrame f) s =
              .next { s with ports := { s.ports with cascadeOut := s.ports.cascadeOut ++ [f] } }) ∧
          (e.direction = 0 → e.target < s.ports.node.val ∨ (s.ports.node.val < e.target ∧ s.ports.cascadeUp = false) →
            exec (.uplinkFrame f) s =
              .next (respondCode ⟨f.source, f.destination, e.tag⟩ e.kind ⟨.noRoute, none, []⟩ s)) ∧
          exec (.cascadeFrame f) s =
            .next (if s.ports.uplinkUp then
              { s with ports := { s.ports with uplinkOut := s.ports.uplinkOut ++ [f], unsent := 0 } } else s))) ∧
    ∀ up : Bool,
      exec (.linkStateChange true up) s = .next { s with ports := { s.ports with uplinkUp := up } } ∧
      exec (.linkStateChange false up) s = .next { s with ports := { s.ports with cascadeUp := up } }

/-- A request envelope reads back from its bytes, with anything that follows them, and so does a loop frame whose
payload is as long as its kind requires (`12` 12.2, 12.5, R171, R172). -/
def Obligations.FramesReadBackFromTheirBytes : Prop :=
  (∀ (target kind : Nat) (tag : BitVec 16) (payload tail : Bytes), target < 256 → kind < 256 →
    payload.length < 65536 →
    readEnvelope (requestBytes target kind tag payload ++ tail) =
      some { version := 1, direction := 0, target := target, kind := kind, tag := tag, payload := payload }) ∧
  ∀ (f : LoopFrame) (tail : Bytes), f.destination < 256 → f.origin < 256 → f.kind < 256 →
    f.payload.length < 256 → requiredPayload f.kind f.payload ≤ f.payload.length →
    readLoop (f.bytes ++ tail) = some f

/-! ## Table writes (R167, with chapters 2, 7, 8, 9 and 10) -/

/-- A TABLE_WRITE to an absent entry, and one with an empty mask, change no state, and are answered DONE with two empty
masks and the entry's image (R167). One of a menu entry (T3) gives each field that the mask names the value of its
place in the image, the weight brought to 15 at most and the lead to 36, and leaves the others (R102). So do one of
a room's setup, turnaround, grace, early window, check-in mode, move policy and serving kitchen (T1, R13), which
tells no block (R26); one of a panel's window (T2, R143); and one of a kitchen's accept limit and pantry panel (T4,
R103). One of the loop status (T8) writes its signal-loss latch alone, where the image has 1 for it (R137); that
another value is reported in neither mask is the model's reading (notes/assumptions/33.md). A read-only field that
the mask names is ignored. That a mask bit which names no field of its table is reported in neither mask is the
model's choice (notes/assumptions/29.md). -/
def Obligations.TableWriteTakesNamedFieldsAlone : Prop :=
  ∀ (via : Via) (s : State), s.taking = true →
    (∀ (table index : Nat) (mask image : Bytes), (∀ a, (s.panels.get a).Legal) →
      (9 ≤ table ∨ (table = 1 ∧ 96 ≤ index) ∨ (table = 2 ∧ (index = 0 ∨ 112 < index)) ∨
        (table = 3 ∧ 256 ≤ index) ∨ ((table = 4 ∨ table = 5 ∨ table = 6) ∧ 8 ≤ index) ∨
        (table = 7 ∧ 22 ≤ index) ∨ ((table = 0 ∨ table = 8) ∧ index ≠ 0) ∨ mask.all (· == 0#8) = true) →
      ∃ t, exec (.tableWrite via table index mask image) s = .next t ∧ t = { s with ports := t.ports } ∧
        Answered via .tableWrite
          (.done (byte mask.length :: (List.replicate (2 * mask.length) 0#8 ++ tableImage s table index))) s t) ∧
    (∀ (i : Fin 256) (mask : Byte) (image : Bytes),
      let e := s.menu.get i
      let e' : MenuItem :=
        { name := if mask.getLsbD 0 then ((image.drop 4).take 16).take (min (byteAt image 3) 16) else e.name
          weight := if mask.getLsbD 1 then min (byteAt image 0) 15 else e.weight
          lead := if mask.getLsbD 2 then min (byteAt image 1) 36 else e.lead
          mask := if mask.getLsbD 3 then image.getD 2 0#8 else e.mask }
      ∃ t, exec (.tableWrite via 3 i.val [mask] image) s = .next t ∧
        t = { s with menu := s.menu.set i e', ports := t.ports } ∧
        Answered via .tableWrite (.done
          ([1#8, byte (bits [mask.getLsbD 0 && decide (16 < byteAt image 3),
              mask.getLsbD 1 && decide (15 < byteAt image 0), mask.getLsbD 2 && decide (36 < byteAt image 1)]), 0#8] ++
            itemImage e')) s t) ∧
    (∀ (r : RoomNo) (hi lo : Byte) (image : Bytes), lo &&& 0x0F#8 = 0#8 → hi.getLsbD 3 = false →
      let e := s.rooms.get r
      let b (i : Nat) : Nat := byteAt image i
      let e' : Room := { e with
        setup := if lo.getLsbD 4 then min (b 4) 6 else e.setup
        turnaround := if lo.getLsbD 5 then min (b 5) 6 else e.turnaround
        grace := if lo.getLsbD 6 then min (b 6) 6 else e.grace
        earlyWindow := if lo.getLsbD 7 then max 1 (min (b 7) 6) else e.earlyWindow
        checkIn := if hi.getLsbD 0 then (if b 8 = 0 then .anyTap else if b 8 = 1 then .organiser else e.checkIn)
          else e.checkIn
        policy := if hi.getLsbD 1 then
          (if b 9 = 0 then .noDisplace else if b 9 = 1 then .displaceLower else e.policy) else e.policy
        kitchen := if hi.getLsbD 2 then (if h : b 10 < 8 then some ⟨b 10, h⟩ else none) else e.kitchen }
      ∃ t, exec (.tableWrite via 1 r.val [hi, lo] image) s = .next t ∧
        t = { s with rooms := s.rooms.set r e', ports := t.ports } ∧
        Answered via .tableWrite (.done
          ([2#8, byte (bits [false, false, hi.getLsbD 2 && decide (8 ≤ b 10 ∧ b 10 ≠ 255)]),
              byte (bits [false, false, false, false, lo.getLsbD 4 && decide (6 < b 4),
                lo.getLsbD 5 && decide (6 < b 5), lo.getLsbD 6 && decide (6 < b 6),
                lo.getLsbD 7 && decide (b 7 = 0 ∨ 6 < b 7)]),
              byte (bits [hi.getLsbD 0 && decide (2 ≤ b 8), hi.getLsbD 1 && decide (2 ≤ b 9), false, false,
                hi.getLsbD 4, hi.getLsbD 5]), 0#8] ++ roomImage e')) s t) ∧
    (∀ (a : Addr) (mask : Byte) (image : Bytes), mask &&& 0x03#8 = 0#8 →
      bindingFits (s.panels.get a).kind (s.panels.get a).binding = true →
      let p := s.panels.get a
      let v := byteAt image 2
      let p' : Panel := { p with
        window := if mask.getLsbD 2 then (if v = 255 then none else some (min v 15)) else p.window }
      ∃ t, exec (.tableWrite via 2 (a.val + 1) [mask] image) s = .next t ∧
        t = { s with panels := s.panels.set a p', ports := t.ports } ∧
        Answered via .tableWrite (.done
          ([1#8, byte (bits [false, false, mask.getLsbD 2 && decide (15 < v ∧ v ≠ 255)]), mask &&& 0x38#8] ++
            panelImage p')) s t) ∧
    (∀ (hi lo : Byte) (image : Bytes),
      let l : Loop := { s.loop with
        lossLatch := if lo.getLsbD 2 ∧ byteAt image 2 = 1 then !s.loop.signal else s.loop.lossLatch }
      ∃ t, exec (.tableWrite via 8 0 [hi, lo] image) s = .next t ∧ t = { s with loop := l, ports := t.ports } ∧
        Answered via .tableWrite (.done
          ([2#8, 0#8, 0#8, hi &&& 0x03#8, lo &&& 0xFB#8] ++ loopImage l)) s t) ∧
    ∀ (k : KitchenNo) (mask : Byte) (image : Bytes), mask &&& 0x09#8 = 0#8 →
      let e := s.kitchens.get k
      let b (i : Nat) : Nat := byteAt image i
      let e' : Kitchen := { e with
        acceptLimit := if mask.getLsbD 1 then max 1 (min (b 1) 12) else e.acceptLimit
        pantry := if mask.getLsbD 2 then
          (if h : b 2 - 1 < 112 ∧ 0 < b 2 then some ⟨b 2 - 1, h.1⟩ else none) else e.pantry }
      ∃ t, exec (.tableWrite via 4 k.val [mask] image) s = .next t ∧
        t = { s with kitchens := s.kitchens.set k e', ports := t.ports } ∧
        Answered via .tableWrite (.done
          ([1#8, byte (bits [false, mask.getLsbD 1 && decide (b 1 = 0 ∨ 12 < b 1),
              mask.getLsbD 2 && decide (b 2 = 0 ∨ (112 < b 2 ∧ b 2 ≠ 255))]), 0#8] ++ kitchenImage e')) s t

/-- A TABLE_WRITE that names the field of a row of its own does what that row's command does (R167): the state, the
name, the alternates, the capacity and partner of a room, the kind and binding of a panel, the state and name of a
kitchen, a slot of a capacity profile, a row of an overlay, a disposition, the loop settings, and the signal-loss
latch. The mask sizes are the smallest that reach the fields of their tables, which is the model's choice
(notes/assumptions/40.md), as is what a count of alternates above 8 comes to (notes/assumptions/30.md). -/
def Obligations.TableWriteOfOneFieldIsTheRowOfThatField : Prop :=
  ∀ (via : Via) (index code : Nat) (s : State), code < 256 →
    (∀ pad : Bytes, exec (.tableWrite via 1 index [0#8, 1#8] (byte code :: pad)) s =
      exec (.roomStateWrite via index code) s) ∧
    (∀ name : GlyphField, name.wf 24 = true →
      exec (.tableWrite via 1 index [0#8, 2#8] (List.replicate 21 0#8 ++ byte name.length :: name.cells)) s =
        exec (.roomNameWrite via index name) s) ∧
    (∀ pad : Bytes, exec (.tableWrite via 4 index [8#8] (byte code :: pad)) s =
      exec (.kitchenStateWrite via index code) s) ∧
    (∀ name : GlyphField, name.wf 16 = true →
      exec (.tableWrite via 4 index [1#8] (List.replicate 3 0#8 ++ byte name.length :: name.cells)) s =
        exec (.kitchenNameWrite via index name) s) ∧
    exec (.tableWrite via 8 0 [0#8, 4#8] [0#8, 0#8, 1#8]) s = exec (.signalLossLatchClear via) s ∧
    (∀ l : List Nat, l.length < 256 → (∀ n, n ∈ l → n < 256) →
      exec (.tableWrite via 1 index [8#8, 0#8] (List.replicate 11 0#8 ++ byte l.length :: (l.take 8).map byte)) s =
        exec (.alternatesWrite via index l) s) ∧
    (∀ capacity partner : Nat, capacity < 256 → partner < 256 →
      exec (.tableWrite via 1 index [0#8, 4#8] [0#8, 0#8, byte capacity, byte partner]) s =
        exec (.capacityPartnerWrite via index (some capacity) none) s ∧
      exec (.tableWrite via 1 index [0#8, 8#8] [0#8, 0#8, byte capacity, byte partner]) s =
        exec (.capacityPartnerWrite via index none (some partner)) s ∧
      exec (.tableWrite via 1 index [0#8, 12#8] [0#8, 0#8, byte capacity, byte partner]) s =
        exec (.capacityPartnerWrite via index (some capacity) (some partner)) s) ∧
    (∀ kind binding : Nat, kind < 256 → binding < 256 →
      exec (.tableWrite via 2 index [1#8] [byte kind, byte binding]) s =
        exec (.panelKindBindingWrite via index (some kind) none) s ∧
      exec (.tableWrite via 2 index [2#8] [byte kind, byte binding]) s =
        exec (.panelKindBindingWrite via index none (some binding)) s ∧
      exec (.tableWrite via 2 index [3#8] [byte kind, byte binding]) s =
        exec (.panelKindBindingWrite via index (some kind) (some binding)) s) ∧
    (∀ (slot : Fin 96) (capacity : Nat), capacity < 65536 →
      exec (.tableWrite via 5 index (maskBytes 12 (2 ^ slot.val))
          (List.replicate (2 * slot.val) 0#8 ++ word16 capacity)) s =
        exec (.capacityProfileWrite via index [(slot.val, capacity)]) s) ∧
    (∀ (row : Fin 8) (cells : Bytes), cells.length = 48 →
      exec (.tableWrite via 6 index [byte (2 ^ row.val)] (List.replicate (48 * row.val) 0#8 ++ cells)) s =
        exec (.overlayWrite via index [(row.val, cells)]) s) ∧
    (∀ action level : Nat, action < 256 → level < 256 →
      exec (.tableWrite via 7 index [1#8] [byte action, byte level]) s =
        exec (.dispositionWrite via index (some action) none) s ∧
      exec (.tableWrite via 7 index [2#8] [byte action, byte level]) s =
        exec (.dispositionWrite via index none (some level)) s ∧
      exec (.tableWrite via 7 index [3#8] [byte action, byte level]) s =
        exec (.dispositionWrite via index (some action) (some level)) s) ∧
    ∀ windows windowTime timeout : Nat, windows < 256 → windowTime < 256 → timeout < 256 →
      exec (.tableWrite via 0 0 [7#8] [byte windows, byte windowTime, byte timeout]) s =
        exec (.loopSettingsWrite via (some windows) (some windowTime) (some timeout)) s

/-- A write of a room's state. One other than UNCONFIGURED is taken (R20): a change clears the vacate-pending flag,
marks the room and re-evaluates the overlays of the panels bound to it or to the room it names as partner (R27), and
a change from IN_SERVICE or HELD to OUT_OF_SERVICE, with a BOOKED booking in the list, fires the VACATE trigger
(R23). UNCONFIGURED over another state is taken exactly where the room's list is empty, no MOVING booking has it as
its origin, and no admission is in flight (R22); else it is ignored, as is a code that names no state (R13). That
R22 is applied as written also where the room is UNCONFIGURED already is the model's reading
(notes/assumptions/31.md). That the answer to this row carries masks of the smallest size that reaches the fields of
its table is the model's choice (notes/assumptions/40.md), as is that the VACATE of this write takes a free place of
the queue ahead of a room already pending (notes/assumptions/10.md). -/
def Obligations.RoomStateWriteIsTakenOrIgnored : Prop :=
  ∀ (via : Via) (r : RoomNo) (s : State), s.taking = true →
    let e := s.rooms.get r
    let free := s.store.lists.get r = [] ∧ (∀ b, b ∈ s.store.records → b.state = .moving → b.room ≠ r) ∧
      s.engine.inFlight = none
    (∀ new : RoomState, new ≠ .unconfigured →
      let fires := new = .outOfService ∧ (e.state = .inService ∨ e.state = .held) ∧
        (∃ b, b ∈ s.listed r ∧ b.state = .booked) ∧ vacateKnown s r = false
      ∃ t, exec (.roomStateWrite via r.val new.code) s = .next t ∧
        t = { s with rooms := s.rooms.set r (t.rooms.get r), engine := t.engine, composer := t.composer,
                     ports := t.ports } ∧
        t.rooms.get r = { e with state := new, vacatePending := (t.rooms.get r).vacatePending } ∧
        ((t.rooms.get r).vacatePending = true ↔
          (new = e.state ∧ e.vacatePending = true) ∨ (fires ∧ 16 ≤ s.engine.queue.length)) ∧
        (¬ (fires ∧ s.engine.queue.length < 16) → t.engine = s.engine) ∧
        (fires → s.engine.queue.length < 16 → t.engine = (joinQueue (.vacate r) s).engine) ∧
        (new = e.state → t.composer = s.composer) ∧
        (new ≠ e.state → t.composer =
          { faces := Tab.gen fun a =>
              let f := s.composer.faces.get a
              let bound := (s.panels.get a).room?
              if bound = some r ∨ (bound ≠ none ∧ bound = e.partner) then f.withChoices f.server (autoChoice t a)
              else f
            roomMarks := s.composer.roomMarks.set r true }) ∧
        Answered via .tableWrite (.done ([2#8, 0#8, 0#8, 0#8, 0#8] ++ roomImage (t.rooms.get r))) s t) ∧
    (free → e.state ≠ .unconfigured → ∃ t, exec (.roomStateWrite via r.val 0) s = .next t ∧
      t = { s with rooms := s.rooms.set r { e with state := .unconfigured, vacatePending := false },
                   composer := t.composer, ports := t.ports } ∧
      t.composer.roomMarks = s.composer.roomMarks.set r true ∧
      Answered via .tableWrite (.done ([2#8, 0#8, 0#8, 0#8, 0#8] ++ roomImage (t.rooms.get r))) s t) ∧
    ∀ code : Nat, (code = 0 ∧ ¬ free) ∨ (4 ≤ code ∧ code < 256) →
      ∃ t, exec (.roomStateWrite via r.val code) s = .next t ∧ t = { s with ports := t.ports } ∧
        Answered via .tableWrite (.done ([2#8, 0#8, 0#8, 0#8, 1#8] ++ roomImage e)) s t

/-- The first write that names the capacity, or the partner, gives it its value, brought into range, and locks it; a
later one leaves it as it stands and is ignored. The first lock of a partner that makes a pair marks the room (R13,
R15, R27). That the answer to this row carries masks of the smallest size that reaches the fields of its table is
the model's choice (notes/assumptions/40.md). -/
def Obligations.CapacityPartnerWriteLocksAtItsFirstValue : Prop :=
  ∀ (via : Via) (r : RoomNo) (capacity partner : Option Nat) (s : State), s.taking = true →
    let e := s.rooms.get r
    let code (n : Nat) : Option RoomNo := if h : n < 96 then (if (⟨n, h⟩ : RoomNo) = r then none else some ⟨n, h⟩) else none
    let e' : Room := { e with
      capacity := if e.capacityLocked then e.capacity else (capacity.map fun n => min n 250).getD e.capacity
      capacityLocked := e.capacityLocked || capacity.isSome
      partner := if e.partnerLocked then e.partner else (partner.map code).getD e.partner
      partnerLocked := e.partnerLocked || partner.isSome }
    ∃ t, exec (.capacityPartnerWrite via r.val capacity partner) s = .next t ∧
      t = { s with rooms := s.rooms.set r e', composer := t.composer, ports := t.ports } ∧
      t.composer =
        (if e.partnerLocked = false ∧ partner.isSome = true ∧ (partnerOf t r).isSome = true then
          { s.composer with roomMarks := s.composer.roomMarks.set r true } else s.composer) ∧
      Answered via .tableWrite (.done
        ([2#8, 0#8, byte (bits [false, false, !e.capacityLocked && capacity.any (fun n => decide (250 < n)),
            !e.partnerLocked && partner.any (fun n => n != 255 && (code n).isNone)]),
          0#8, byte (bits [false, false, e.capacityLocked && capacity.isSome, e.partnerLocked && partner.isSome])] ++
          roomImage e')) s t

/-- A write of the alternates walks the written list from its first entry (R17): an entry is dropped that is above 95,
names the room itself, repeats a room already kept, or finds four already kept, and any other is kept behind those
kept before it. The list kept replaces the old one, the rotation pointer is 0, the mark that the engine reads is set
(R26), and the field is reported clamped where an entry was dropped. A write to an absent room changes nothing
(R167). Two points are the model's choices: more than the 8 entries of the field are taken as the first 8, and
reported clamped (notes/assumptions/30.md), and the answer's masks are of 2 bytes (notes/assumptions/40.md). -/
def Obligations.AlternatesWriteBringsTheListIntoForm : Prop :=
  ∀ (via : Via) (s : State), s.taking = true →
    (∀ (r : RoomNo) (l : List Nat), ∃ (t : State) (walk : Nat → List RoomNo),
      exec (.alternatesWrite via r.val l) s = .next t ∧
      (let kept := (t.rooms.get r).alternates
       let written := l.take 8
       walk 0 = [] ∧
       (∀ (i n : Nat), written[i]? = some n →
         (96 ≤ n ∨ n = r.val ∨ (∃ q, q ∈ walk i ∧ q.val = n) ∨ 4 ≤ (walk i).length → walk (i + 1) = walk i) ∧
         ∀ q : RoomNo, q.val = n → q ≠ r → q ∉ walk i → (walk i).length < 4 → walk (i + 1) = walk i ++ [q]) ∧
       kept = walk written.length ∧
       t = { s with rooms := s.rooms.set r { s.rooms.get r with
               alternates := kept, pointer := 0, altsWritten := true }, ports := t.ports } ∧
       kept.length ≤ 4 ∧ kept.Nodup ∧ r ∉ kept ∧ (kept.map (·.val)).Sublist written ∧
       (∀ n, n ∈ written → (h : n < 96) → n ≠ r.val → kept.length < 4 → (⟨n, h⟩ : RoomNo) ∈ kept) ∧
       Answered via .tableWrite (.done
         ([2#8, if kept.length < l.length then 8#8 else 0#8, 0#8, 0#8, 0#8] ++ roomImage (t.rooms.get r))) s t)) ∧
    ∀ (n : Nat) (l : List Nat), 96 ≤ n → ∃ t, exec (.alternatesWrite via n l) s = .next t ∧
      t = { s with ports := t.ports } ∧
      Answered via .tableWrite (.done ([2#8, 0#8, 0#8, 0#8, 0#8] ++ List.replicate 46 0xFF#8)) s t

/-- A written name is taken, 24 glyphs at most, and marks the room where it changes (R27, R170). That the answer to this
row carries masks of the smallest size that reaches the fields of its table is the model's choice
(notes/assumptions/40.md). -/
def Obligations.RoomNameWriteMarksAChangedName : Prop :=
  ∀ (via : Via) (r : RoomNo) (name : GlyphField) (s : State), s.taking = true → ∃ t,
    exec (.roomNameWrite via r.val name) s = .next t ∧
      (let new := name.cells.take (min name.length 24)
       t = { s with rooms := s.rooms.set r { s.rooms.get r with name := new }, composer := t.composer,
                    ports := t.ports } ∧
       t.composer = (if new = (s.rooms.get r).name then s.composer
         else { s.composer with roomMarks := s.composer.roomMarks.set r true }) ∧
       Answered via .tableWrite (.done
         ([2#8, 0#8, if 24 < name.length then 2#8 else 0#8, 0#8, 0#8] ++ roomImage (t.rooms.get r))) s t)

/-- A write of a panel's kind and binding. The binding must fit the kind that the write leaves; a change of either gives
the panel its fresh state, empties its queues, marks its awaited frame stale and composes its face anew (R140, R143,
R133). That a panel of kind NONE may have any binding byte is the model's reading (notes/assumptions/32.md). That
the answer to this row carries masks of the smallest size that reaches the fields of its table is the model's choice
(notes/assumptions/40.md). -/
def Obligations.PanelKindBindingWriteRenewsAChangedPanel : Prop :=
  ∀ (via : Via) (a : Addr) (kind binding : Option Nat) (s : State), s.taking = true →
    let p := s.panels.get a
    let named : Option PanelKind :=
      kind.bind fun n => if n = 0 then some .unbound else if n = 1 then some .door else if n = 2 then some .pantry
        else none
    let k := named.getD p.kind
    let fits (n : Nat) : Bool := match k with
      | .unbound => true
      | .door => decide (n < 96)
      | .pantry => decide (n < 8)
    let taken := match binding with
      | some n => if fits n then n else p.binding
      | none => p.binding
    let b := if fits taken then taken else 0
    let changed := k ≠ p.kind ∨ b ≠ p.binding
    ∃ t, exec (.panelKindBindingWrite via (a.val + 1) kind binding) s = .next t ∧
      (¬ changed → t = { s with ports := t.ports }) ∧
      (changed →
        t = { s with
          panels := s.panels.set a
            { p with kind := k, binding := b, state := .unknown, misses := 0, violations := 0, replies := [],
                     tickets := [] }
          loop := { s.loop with awaited := t.loop.awaited }
          composer := { s.composer with faces := s.composer.faces.set a (t.composer.faces.get a) }
          ports := t.ports } ∧
        t.loop.awaited = (s.loop.awaited.map fun w =>
          if w.carried.panel? = some a then { w with stale := true } else w) ∧
        t.composer.faces.get a =
          { s.composer.faces.get a with own := composedRows t a, dirty := Tab.fill 8 true, area := freshArea,
                                        server := none, auto := autoChoice t a }) ∧
      Answered via .tableWrite (.done
        ([1#8, if fits taken then 0#8 else 2#8,
          byte (bits [kind.isSome && named.isNone, binding.any fun n => !fits n])] ++
          panelImage (t.panels.get a))) s t

/-- Writes of a kitchen's state and of its name: a code that names no state is ignored, and a change of either
recomposes the pantry faces bound to the kitchen, each row that changes being marked dirty (R103, R127). What those
rows show is said too (R127): row 0 the kitchen's name, PAUSED, and the count of its tickets; rows 1 to 7 its first
seven tickets, each with its time, booking id, room name and load in the attribute of its state. That the cells left
of a room name or a load that is shorter than its field are blank and NORMAL is the model's choice
(notes/assumptions/56.md), as is that the answer to this row carries masks of the smallest size that reaches the
fields of its table (notes/assumptions/40.md). -/
def Obligations.KitchenWritesRecomposeItsPantryFaces : Prop :=
  ∀ (via : Via) (k : KitchenNo) (code : Nat) (name : GlyphField) (s : State), s.taking = true →
    let e := s.kitchens.get k
    let told (e' : Kitchen) (t : State) : Prop :=
      t = { s with kitchens := s.kitchens.set k e', composer := t.composer, ports := t.ports } ∧
        t.composer = (if e'.state = e.state ∧ e'.name = e.name then s.composer else
          { s.composer with faces := Tab.gen fun a =>
              let f := s.composer.faces.get a
              if (s.panels.get a).kitchen? = some k then f.withOwn (pantryRows t k) else f })
    (∃ t, exec (.kitchenStateWrite via k.val code) s = .next t ∧
      told { e with state := if code = 0 then .opened else if code = 1 then .paused else e.state } t ∧
      Answered via .tableWrite (.done ([1#8, 0#8, if code < 2 then 0#8 else 8#8] ++ kitchenImage (t.kitchens.get k))) s t) ∧
    (∃ t, exec (.kitchenNameWrite via k.val name) s = .next t ∧
      told { e with name := name.cells.take (min name.length 16) } t ∧
      Answered via .tableWrite
        (.done ([1#8, if 16 < name.length then 1#8 else 0#8, 0#8] ++ kitchenImage (t.kitchens.get k))) s t) ∧
    let tickets := s.catering.tickets.get k
    (tickets.length ≤ 12 → RowShows ((pantryRows s k).get 0)
      ((0, .normal, e.name.take 16) ::
        (if e.state = .paused then [(16, .accent, glyphsOfText "PAUSED")] else []) ++
          numberAt 23 .normal 2 tickets.length)) ∧
    ∀ i : Fin 8, i ≠ 0 →
      (tickets[i.val - 1]? = none → RowShows ((pantryRows s k).get i) []) ∧
      ∀ u, tickets[i.val - 1]? = some u → u.load < 10000 →
        let a : Attr := if u.accepted then .normal else if u.unacceptedMark then .accent else .inverse
        RowShows ((pantryRows s k).get i)
          ([(0, a, timeGlyphs u.qd), (11, a, u.roomName.take 8)] ++ idAt 9 a u.booking ++ numberAt 23 a 4 u.load)

/-- A write of the capacity profile takes each capacity, 4095 at most, whether or not it is below what is promised.
Where a written slot-of-day has a future slot with a load above its new capacity, CAPACITY_BELOW_LOAD is raised
once, with the lowest such slot-of-day and their number (R104). That the answer to this row carries masks of the
smallest size that reaches the fields of its table is the model's choice (notes/assumptions/40.md). -/
def Obligations.CapacityProfileWriteReportsSlotsBelowLoad : Prop :=
  ∀ (via : Via) (k : KitchenNo) (slots : List (Nat × Nat)) (s : State), s.taking = true →
    (∀ p, p ∈ slots → p.1 < 96) →
    ∃ (t : State) (row : Tab Nat 96) (mask : Nat), exec (.capacityProfileWrite via k.val slots) s = .next t ∧
      t = { s with profile := s.profile.set k row, exceptions := t.exceptions, ports := t.ports } ∧
      (∀ i : Fin 96, row.get i =
        ((slots.reverse.find? fun p => p.1 == i.val).map fun p => min p.2 4095).getD ((s.profile.get k).get i)) ∧
      (∀ below : List (Fin 96), below.Pairwise (· < ·) →
        (∀ i, i ∈ below ↔ (∃ p, p ∈ slots ∧ p.1 = i.val) ∧
          ∃ j : Fin 14, s.grain < (s.catering.pages.get j).tag * 288 + 3 * i.val + 3 ∧
            row.get i < ((s.catering.pages.get j).loads.get k).get i) →
        t.exceptions = (match below with
          | [] => s.exceptions
          | i :: _ => (raise .capacityBelowLoad (.kitchen k) none
              (BitVec.ofNat 32 (i.val + 256 * below.length)) s).exceptions)) ∧
      (∀ i, mask.testBit i = true ↔ ∃ p, p ∈ slots ∧ p.1 = i ∧ 4095 < p.2) ∧
      Answered via .tableWrite
        (.done (12#8 :: (maskBytes 12 mask ++ List.replicate 12 0#8 ++ profileImage row))) s t

/-- A write of overlay rows replaces each named row whole and marks dirty, on each face that shows the overlay, the rows
whose content changes. A row with an attribute code that names no value is reported clamped (R131). That the answer
to this row carries masks of the smallest size that reaches the fields of its table is the model's choice
(notes/assumptions/40.md). -/
def Obligations.OverlayWriteMarksChangedRowsWhereShown : Prop :=
  ∀ (via : Via) (k : OverlayNo) (rows : List (Nat × Bytes)) (s : State), s.taking = true →
    (∀ p, p ∈ rows → p.1 < 8) →
    ∃ (t : State) (new : Rows) (mask : Nat), exec (.overlayWrite via k.val rows) s = .next t ∧
      t = { s with overlays := s.overlays.set k new, composer := t.composer, ports := t.ports } ∧
      (∀ i : Fin 8, new.get i =
        ((rows.reverse.find? fun p => p.1 == i.val).map fun p => rowOf p.2).getD ((s.overlays.get k).get i)) ∧
      t.composer = { s.composer with faces := t.composer.faces } ∧
      (∀ a, t.composer.faces.get a =
        (let f := s.composer.faces.get a
         if f.selection = .server k ∨ f.selection = .auto k then
           { f with dirty := Tab.gen fun i => f.dirty.get i || decide ((s.overlays.get k).get i ≠ new.get i) }
         else f)) ∧
      (∀ i, mask.testBit i = true ↔
        ∃ p, p ∈ rows ∧ p.1 = i ∧ ∃ j : Fin 24, 2 < byteAt p.2 (2 * j.val + 1)) ∧
      Answered via .tableWrite (.done ([1#8, byte mask, 0#8] ++ overlayImage new)) s t

/-- Writes of a disposition, of the loop settings and of the signal-loss latch. A disposition takes each named code that
names a value, ignores one that does not, and leaves the class's counter, latch and queue as they are (R153). The
loop settings store each named value, brought into its range, and the active settings stand until the next cycle
start (R136). The latch is cleared, and while the signal is ABSENT it is set again at once (R137). That the latch of
T8 reads set at once where it was clear as well is the model's reading (notes/assumptions/25.md). That the answer to
this row carries masks of the smallest size that reaches the fields of its table is the model's choice
(notes/assumptions/40.md). -/
def Obligations.SettingsWritesChangeOnlyTheirEntries : Prop :=
  ∀ (via : Via) (s : State), s.taking = true →
    (∀ (c : Fin 22) (action level : Option Nat),
      let a : Option Action := action.bind fun n =>
        if n = 0 then some .count else if n = 1 then some .notify else if n = 2 then some .notifyAlert
          else if n = 3 then some .hold else none
      let l : Option Level := level.bind fun n =>
        if n = 0 then some .advisory else if n = 1 then some .degraded else if n = 2 then some .fatal else none
      let d : Disposition := ⟨a.getD (s.dispositions.get c).action, l.getD (s.dispositions.get c).level⟩
      ∃ t, exec (.dispositionWrite via c.val action level) s = .next t ∧
        t = { s with dispositions := s.dispositions.set c d, ports := t.ports } ∧
        Answered via .tableWrite (.done
          ([1#8, 0#8, byte (bits [action.isSome && a.isNone, level.isSome && l.isNone])] ++ dispositionImage d))
          s t) ∧
    (∀ windows windowTime timeout : Option Nat,
      let l : LoopSettings :=
        { windows := (windows.map fun n => max 4 (min n 16)).getD s.settings.windows
          windowTime := (windowTime.map fun n => max 10 (min n 100)).getD s.settings.windowTime
          timeout := (timeout.map fun n => max 1 (min n 15)).getD s.settings.timeout }
      ∃ t, exec (.loopSettingsWrite via windows windowTime timeout) s = .next t ∧
        t = { s with settings := l, ports := t.ports } ∧
        Answered via .tableWrite (.done
          ([1#8, byte (bits [windows.any fun n => decide (n < 4 ∨ 16 < n),
              windowTime.any fun n => decide (n < 10 ∨ 100 < n), timeout.any fun n => decide (n < 1 ∨ 15 < n)]),
            0#8] ++ settingsImage t)) s t) ∧
    ∃ t, exec (.signalLossLatchClear via) s = .next t ∧
      t = { s with loop := { s.loop with lossLatch := !s.loop.signal }, ports := t.ports } ∧
      Answered via .tableWrite (.done ([2#8, 0#8, 0#8, 0#8, 0#8] ++ loopImage t.loop)) s t

/-! ## Notices, latches, counters and holds (chapter 10) -/

/-- A NOTICE_PEEK answers the oldest entry of the queue and changes nothing; a NOTICE_TAKE removes the oldest
entries, as many as it asks for and the queue holds, and answers them oldest first with the number left. A queue
number above 3, or a count outside 1 to 8, is MALFORMED and changes nothing (R157). -/
def Obligations.NoticePeekAndTakeAnswerTheOldestEntries : Prop :=
  ∀ (via : Via) (queue count : Nat) (s : State), s.taking = true →
    (4 ≤ queue → exec (.noticePeek via queue) s = .next (respond via .noticePeek ⟨.malformed, none, []⟩ s)) ∧
    (4 ≤ queue ∨ count < 1 ∨ 8 < count →
      exec (.noticeTake via queue count) s = .next (respond via .noticeTake ⟨.malformed, none, []⟩ s)) ∧
    ∀ q : Fin 4, q.val = queue →
      (∃ t, exec (.noticePeek via queue) s = .next t ∧ t = { s with ports := t.ports } ∧
        Answered via .noticePeek (.done
          ([byte (s.exceptions.queues.get q).length, byte (s.exceptions.lost.get q)] ++
            match s.exceptions.queues.get q with
            | [] => []
            | n :: _ => noticeImage n)) s t) ∧
      (1 ≤ count → count ≤ 8 →
        ∃ (t : State) (taken left : List Notice), exec (.noticeTake via queue count) s = .next t ∧
          s.exceptions.queues.get q = taken ++ left ∧ taken.length = min count (taken ++ left).length ∧
          t = { s with exceptions := { s.exceptions with queues := s.exceptions.queues.set q left },
                       ports := t.ports } ∧
          Answered via .noticeTake (.done
            ([byte left.length, byte (s.exceptions.lost.get q)] ++ taken.flatMap noticeImage)) s t)

/-- A NOTICE_FLUSH empties the queue and sets its lost count to 0, touching no counter and no latch, and answers
both as they stood before; a queue number above 3 is MALFORMED (R158). -/
def Obligations.NoticeFlushEmptiesTheQueue : Prop :=
  ∀ (via : Via) (queue : Nat) (s : State), s.taking = true →
    (4 ≤ queue → exec (.noticeFlush via queue) s = .next (respond via .noticeFlush ⟨.malformed, none, []⟩ s)) ∧
    ∀ q : Fin 4, q.val = queue → ∃ t, exec (.noticeFlush via queue) s = .next t ∧
      t = { s with exceptions := { s.exceptions with queues := s.exceptions.queues.set q [],
                                                     lost := s.exceptions.lost.set q 0 }, ports := t.ports } ∧
      Answered via .noticeFlush (.done
        [byte (s.exceptions.queues.get q).length, byte (s.exceptions.lost.get q)]) s t

/-- An ALERT_CLEAR clears the latches named, that of LOOP_SIGNAL_LOST, where it was set, being set again at once while
the signal is ABSENT and its action is NOTIFY_ALERT or HOLD; it touches nothing else, and answers the latches that
were set and are now clear, and all latches set after it (R160). That one which was clear, as after a reset, stays
clear until the signal is next lost follows R161; that R160 sets again what an ALERT_CLEAR has cleared, and no more,
is the model's reading of the two (notes/assumptions/25.md). A COUNTERS_READ answers the counters, the latches, and
the lengths and lost counts of the queues, read at one moment, and clears the counters where its flag asks for that
(R155). -/
def Obligations.AlertClearAndCountersReadAnswerAndClear : Prop :=
  ∀ (via : Via) (s : State), s.taking = true →
    (∀ mask : BitVec 32, ∃ (t : State) (gone left : Nat), exec (.alertClear via mask) s = .next t ∧
      t = { s with exceptions := { s.exceptions with latches := t.exceptions.latches }, ports := t.ports } ∧
      (∀ i : Fin 22, (mask.getLsbD i.val = false → t.exceptions.latches.get i = s.exceptions.latches.get i) ∧
        (mask.getLsbD i.val = true → (t.exceptions.latches.get i = true ↔
          i.val = 18 ∧ s.exceptions.latches.get i = true ∧ s.loop.signal = false ∧
          ((s.dispositions.get 18).action = .notifyAlert ∨ (s.dispositions.get 18).action = .hold)))) ∧
      (∀ i, left.testBit i = true ↔ ∃ j : Fin 22, j.val = i ∧ t.exceptions.latches.get j = true) ∧
      (∀ i, gone.testBit i = true ↔
        ∃ j : Fin 22, j.val = i ∧ s.exceptions.latches.get j = true ∧ t.exceptions.latches.get j = false) ∧
      Answered via .alertClear (.done (word32 gone ++ word32 left)) s t) ∧
    ∀ clear : Bool, ∃ (t : State) (latches : Nat), exec (.countersRead via clear) s = .next t ∧
      t = { s with
        exceptions := { s.exceptions with counters := if clear then Tab.fill 22 0 else s.exceptions.counters }
        ports := t.ports } ∧
      (∀ i, latches.testBit i = true ↔ ∃ j : Fin 22, j.val = i ∧ s.exceptions.latches.get j = true) ∧
      Answered via .countersRead (.done
        (s.exceptions.counters.cells.flatMap word16 ++ word32 latches ++
          s.exceptions.queues.cells.map (fun l => byte l.length) ++ s.exceptions.lost.cells.map byte)) s t

/-- A hold that reaches its owner: an IN_SERVICE room becomes HELD and its panels' overlays are re-evaluated, an
OPEN kitchen becomes PAUSED; a room or kitchen in another state stands (R21, R27, R103, R154). -/
def Obligations.HoldClosesAnOpenRoomOrKitchen : Prop :=
  ∀ (h : HoldTarget) (rest : List HoldTarget) (s : State), s.ports.powerGood = true →
    s.exceptions.holds = h :: rest →
    ∃ t, exec .hold s = .next t ∧
      t = { s with rooms := t.rooms, kitchens := t.kitchens, composer := t.composer,
                   exceptions := { s.exceptions with holds := rest } } ∧
      (∀ r, h = .room r → t.kitchens = s.kitchens ∧
        ((s.rooms.get r).state = .inService →
          t.rooms = s.rooms.set r { s.rooms.get r with state := .held } ∧
          t.composer.roomMarks = s.composer.roomMarks.set r true ∧
          ∀ a, t.composer.faces.get a =
            (let f := s.composer.faces.get a
             let bound := (s.panels.get a).room?
             if bound = some r ∨ (bound ≠ none ∧ bound = (s.rooms.get r).partner) then
               f.withChoices f.server (autoChoice t a) else f)) ∧
        ((s.rooms.get r).state ≠ .inService → t.rooms = s.rooms ∧ t.composer = s.composer)) ∧
      (∀ k, h = .kitchen k → t.rooms = s.rooms ∧
        ((s.kitchens.get k).state = .opened →
          t.kitchens = s.kitchens.set k { s.kitchens.get k with state := .paused } ∧
          t.composer.roomMarks = s.composer.roomMarks ∧
          ∀ a, t.composer.faces.get a =
            (let f := s.composer.faces.get a
             if (s.panels.get a).kitchen? = some k then f.withOwn (pantryRows t k) else f)) ∧
        ((s.kitchens.get k).state ≠ .opened → t.kitchens = s.kitchens ∧ t.composer = s.composer))


/-! ## Admission (chapter 4, with R34 to R43) -/

/-- BOOK, MODIFY and CANCEL are form-checked on arrival, MALFORMED where they fail (R48), and join the tail of the
admission queue, or are answered BUSY where it holds 16 entries (R49); an IDLE engine takes the entry at once (R50). -/
def Obligations.AdmissionRequestsJoinTheQueueOrAreTurnedAway : Prop :=
  ∀ (via : Via) (ask : BookAsk) (m : ModifyAsk) (id : BookingId) (s : State), s.taking = true →
    let titleOk (g : GlyphField) : Prop := 1 ≤ g.length ∧ g.length ≤ 24
    let orderOk (o : OrderAsk) : Prop := o.offset ≤ 6 ∧ 1 ≤ o.count ∧ o.count ≤ 8 ∧
      ∀ l, l ∈ o.lines.take o.count → 1 ≤ l.2 ∧ l.2 ≤ 99
    let bookOk : Prop := ask.room < 96 ∧ 1 ≤ ask.attendees ∧ ask.attendees ≤ 500 ∧ ask.minute < 1440 ∧
      (∀ g, ask.title = some g → titleOk g) ∧ ∀ o, ask.order = some o → orderOk o
    let names : Prop := m.times ≠ none ∨ m.room ≠ none ∨ m.attendees ≠ none ∨ m.title ≠ none ∨ m.order ≠ none ∨
      m.organiser ≠ none
    let modifyOk : Prop := names ∧ (∀ t, m.times = some t → t.minute < 1440) ∧ (∀ r, m.room = some r → r < 96) ∧
      (∀ n, m.attendees = some n → 1 ≤ n ∧ n ≤ 500) ∧ (∀ g, m.title = some (some g) → titleOk g) ∧
      ∀ o, m.order = some (some o) → orderOk o
    let queued (i : Instr) (k : Kind) (r : Request) : Prop :=
      (16 ≤ s.engine.queue.length → exec i s = .next (respond via k ⟨.busy, none, []⟩ s)) ∧
      (s.engine.queue.length < 16 → s.engine.inFlight ≠ none →
        exec i s = .next { s with engine := { s.engine with queue := s.engine.queue ++ [r] } }) ∧
      (s.engine.queue = [] → s.engine.inFlight = none →
        exec i s = .next { s with engine := { queue := [], inFlight := some (newFlight r) } })
    (bookOk → queued (.book via ask) .book (.book via ask)) ∧
    (¬ bookOk → exec (.book via ask) s = .next (respond via .book ⟨.malformed, none, []⟩ s)) ∧
    (modifyOk → queued (.modify via m) .modify (.modify via m)) ∧
    (¬ modifyOk → exec (.modify via m) s = .next (respond via .modify ⟨.malformed, none, []⟩ s)) ∧
    queued (.cancel via id) .cancel (.cancel via id)

/-- The checks of a BOOK up to its order, one at each step of the engine, in the order of R58: each passes to the
next, or ends the admission with its refusal, nothing else having changed. The duration and the class are clamped
at their steps (R59), and the grains computed at theirs (R54, R56). That a step is one command is the model's
(notes/assumptions/7.md). -/
def Obligations.BookChecksRunInOrder : Prop :=
  ∀ (via : Via) (ask : BookAsk) (r : RoomNo) (f : Flight) (n : Nat) (s : State), AtWork s f →
    f.request = .book via ask → f.phase = .check n → ask.room = r.val →
    let room := s.rooms.get r
    let goes (f' : Flight) : Prop :=
      exec .admissionCheck s = .next { s with engine := { s.engine with inFlight := some f' } }
    let ends (a : Answer) : Prop := ∃ t, exec .admissionCheck s = .next t ∧ EndsWith via .book a s t
    let judged (ok : Prop) (why : Reason) : Prop :=
      (ok → goes { f with phase := .check (n + 1) }) ∧ (¬ ok → ends ⟨.refused, some why, []⟩)
    let g := s.clock.day * 288 + s.clock.minute / 5
    let qs := ask.day * 288 + ask.minute / 5
    let qe := ask.day * 288 + (ask.minute + f.duration + 4) / 5
    let horizon := min (s.clock.day * 288 + 4032) 18874367
    (n = 1 → judged (s.clock.state = .running) .noClock) ∧
    (n = 2 → judged (ask.id.toNat < 0xFF00) .reservedId) ∧
    (n = 3 → judged (∀ b, b ∈ s.store.records → b.id ≠ ask.id) .duplicateId) ∧
    (n = 4 → judged (room.state = .inService) .roomUnavailable) ∧
    (n = 5 → judged (ask.joined = true → ∃ q, room.partner = some q ∧
      (s.rooms.get q).partner = some r ∧ (s.rooms.get q).state = .inService) .notPaired) ∧
    (n = 6 → (ask.duration = 0 → ends ⟨.malformed, none, []⟩) ∧
      (ask.duration ≠ 0 → goes { f with duration := min ask.duration 720,
                                        clamped := f.clamped || decide (720 < ask.duration), phase := .check 7 })) ∧
    (n = 7 → goes { f with cls := min ask.cls 3, clamped := f.clamped || decide (3 < ask.cls),
                           phase := .check 8 }) ∧
    (n = 8 → judged (ask.attendees ≤ room.capacity +
      (if ask.joined then (room.partner.map fun q => (s.rooms.get q).capacity).getD 0 else 0)) .overCapacity) ∧
    (n = 9 → (qs < g → ends ⟨.refused, some .past, []⟩) ∧
      (g ≤ qs → horizon < qe → ends ⟨.refused, some .beyondHorizon, []⟩) ∧
      (g ≤ qs → qe ≤ horizon → goes { f with qs := qs, qe := qe, phase := .check 10 })) ∧
    (n = 10 → judged (1 + (if ask.title.isSome then 2 else 0) +
      (match ask.order with
        | none => 0
        | some o => if o.count ≤ 4 then 1 else 2) +
      (if ask.organiser.isSome then 1 else 0) ≤ s.store.free.length) .storeFull)

/-- The order of a BOOK is judged against the kitchen of its room (R60, R108, R109). Then an unjoined BOOK is compared
with its room's list, and a joined one, whose one span lies in both rooms, with its room's list and its partner's
(R16, R55, R57, R61): placed where nothing conflicts, handed to a displacement of all that conflict where each may
be displaced, in either list by the move policy of that list's room (R72), in ascending Ss, the room's list first
(R74), and else refused CONFLICT with the first conflicting booking of its room's list and then of its partner's. -/
def Obligations.BookOrderAndConflictsAreJudged : Prop :=
  ∀ (via : Via) (ask : BookAsk) (r : RoomNo) (f : Flight) (s : State), AtWork s f →
    f.request = .book via ask → ask.room = r.val →
    let room := s.rooms.get r
    let goes (f' : Flight) : Prop :=
      exec .admissionCheck s = .next { s with engine := { s.engine with inFlight := some f' } }
    let ends (a : Answer) : Prop := ∃ t, exec .admissionCheck s = .next t ∧ EndsWith via .book a s t
    (f.phase = .check 11 →
      (ask.order = none → goes { f with phase := .check 12 }) ∧
      ∀ o, ask.order = some o →
        let lines := o.lines.take o.count
        let load := (lines.map fun l => l.2 * weightOf s l.1).sum
        let lead := (lines.map fun l => leadOf s l.1).foldl max 0
        let qd := f.qs - o.offset
        let bad := ∃ l, l ∈ lines ∧ weightOf s l.1 = 0
        let late := f.qs < s.clock.day * 288 + s.clock.minute / 5 + o.offset + lead
        let takes (k : KitchenNo) : Prop := room.kitchen = some k ∧ (s.kitchens.get k).state = .opened ∧
          (∀ l, l ∈ lines → prepares s k l.1 = true) ∧ load ≤ 4095 ∧
          s.catering.loadAt k (qd / 288) (slotIndex qd) + load ≤ (s.profile.get k).get (slotIndex qd)
        (bad → ends ⟨.refused, some .badItem, []⟩) ∧
        (¬ bad → late → ends ⟨.refused, some .orderLate, []⟩) ∧
        (¬ bad → ¬ late → ∀ k, takes k → goes { f with
          settlement := .place ⟨k, o.offset, lines, load, qd, qd - lead⟩
          orderResult := .placed
          phase := .check 12 }) ∧
        (¬ bad → ¬ late → (∀ k, ¬ takes k) →
          (ask.cateringRequired = true → ends ⟨.refused, some .kitchenFull, []⟩) ∧
          (ask.cateringRequired = false →
            goes { f with settlement := .remove, orderResult := .dropped, phase := .check 12 }))) ∧
    (f.phase = .check 12 → ask.joined = false →
      let span : Span := ⟨f.qs - room.setup, f.qe + room.turnaround⟩
      let cs := (s.listed r).filter fun b => decide (span.first < b.se ∧ b.ss < span.last)
      let yields (b : Record) : Prop := b.state = .booked ∧ b.cls < f.cls ∧ b.joined = false ∧ b.origin ≠ .panel
      (cs = [] → goes { f with span := span, phase := .place }) ∧
      (cs ≠ [] → room.policy = .displaceLower → (∀ b, b ∈ cs → yields b) →
        ∃ l : List Record, l.Perm cs ∧ (l.Pairwise fun a b => a.ss ≤ b.ss) ∧
          goes { f with span := span, phase := .displaceRequester (l.map (·.id)) }) ∧
      ∀ first rest, cs = first :: rest → (room.policy = .noDisplace ∨ ∃ b, b ∈ cs ∧ ¬ yields b) →
        ends ⟨.refused, some .conflict, word16 first.id.toNat⟩) ∧
    (f.phase = .check 12 → ask.joined = true →
      let span : Span := ⟨f.qs - room.setup, f.qe + room.turnaround⟩
      let meets (q : RoomNo) : List Record :=
        (s.listed q).filter fun b => decide (span.first < b.se ∧ b.ss < span.last)
      let beside : List Record := match room.partner with
        | some q => meets q
        | none => []
      let cs := meets r ++ beside
      let yields (b : Record) : Prop := b.state = .booked ∧ b.cls < f.cls ∧ b.joined = false ∧ b.origin ≠ .panel
      let may (q : RoomNo) : Prop := meets q = [] ∨
        ((s.rooms.get q).policy = .displaceLower ∧ ∀ b, b ∈ meets q → yields b)
      let all : Prop := may r ∧ ∀ q, room.partner = some q → may q
      (cs = [] → goes { f with span := span, phase := .place }) ∧
      (cs ≠ [] → all → ∃ l, InSpanOrder cs l ∧
        goes { f with span := span, phase := .displaceRequester (l.map (·.id)) }) ∧
      ∀ first rest, cs = first :: rest → ¬ all → ends ⟨.refused, some .conflict, word16 first.id.toNat⟩)

/-- The placement of a BOOK that displaced nothing (R62, with R30, R31, R38, R40 and R110): its record, its cells from
the head of the free list, its place in the room's list by Ss, its order with the load it adds, and the answer of
R63; ARMED at or past Qs less the early window. A joined one is inserted into its room's list first, and at the
engine's next step into its partner's, if it still stands in its room's; its order is settled and its answer given
with the second insertion (R38). That the second insertion is a step of its own is how the model has R38's two steps
(notes/assumptions/9.md), and that the answer's order state is read at completion is its choice
(notes/assumptions/51.md), as are that its ORDER part reads as absent (notes/assumptions/62.md) and its retire grain
as Se (notes/assumptions/63.md) until then. -/
def Obligations.BookIsPlacedAndAnswered : Prop :=
  (∀ (via : Via) (ask : BookAsk) (r : RoomNo) (f : Flight) (s : State), AtWork s f →
     f.request = .book via ask → f.phase = .place → ask.room = r.val → ask.joined = false → f.stack = [] →
     (s.rooms.get r).state = .inService → (∀ b, b ∈ s.store.records → b.id ≠ ask.id) →
     (∀ j, f.settlement = .place j → s.catering.carries j.qd = true) →
     let order : Option Order := match f.settlement with
       | .place j => some ⟨j.kitchen, j.offset, j.lines, j.load, j.qd, j.qx, .placed, false, false⟩
       | _ => none
     let n := 1 + (if ask.title.isSome then 2 else 0) +
       (order.map fun o => if o.lines.length ≤ 4 then 1 else 2).getD 0 + (if ask.organiser.isSome then 1 else 0)
     let b : Record :=
       { id := ask.id, room := r, joined := false, cls := f.cls, attendees := ask.attendees, origin := .uplink,
         qs := f.qs, qe := f.qe, ss := f.span.first, se := f.span.last,
         state := if f.qs ≤ s.grain + (s.rooms.get r).earlyWindow then .armed else .booked,
         endReason := none, releaseReason := none, badge := none,
         retireGrain := (order.map fun o => max f.span.last (3 * (o.qd / 3 + 1))).getD f.span.last,
         title := ask.title.map fun g => g.cells.take (min g.length 24), order := order,
         organiser := ask.organiser, cells := s.store.free.take n }
     let low := s.store.storeLowArmed = true ∧ (s.store.free.drop n).length < 64
     ∃ (t : State) (before after : List BookingId), exec .admissionCheck s = .next t ∧
       t = { s with store := t.store, catering := t.catering, composer := t.composer, exceptions := t.exceptions,
                    engine := s.engine.afterEnd, ports := t.ports } ∧
       t.store.records = s.store.records ++ [b] ∧ t.store.free = s.store.free.drop n ∧
       t.store.retireList = s.store.retireList ∧ t.store.walkIn = s.store.walkIn ∧
       s.store.lists.get r = before ++ after ∧ t.store.lists = s.store.lists.set r (before ++ ask.id :: after) ∧
       (∀ x, x ∈ before → ∀ c, s.record? x = some c → c.ss ≤ b.ss) ∧
       (∀ x, after.head? = some x → ∃ c, s.record? x = some c ∧ b.ss < c.ss) ∧
       t.composer = { s.composer with roomMarks := s.composer.roomMarks.set r true } ∧
       t.catering = (match f.settlement with
         | .place j => s.catering.changeLoad j.kitchen j.qd (· + j.load)
         | _ => s.catering) ∧
       (low → t.store.storeLowArmed = false ∧ t.exceptions =
         (raise .storeLow .none none (BitVec.ofNat 32 (s.store.free.drop n).length) s).exceptions) ∧
       (¬ low → t.store.storeLowArmed = s.store.storeLowArmed ∧ t.exceptions = s.exceptions) ∧
       Answered via .book (.done (admissionContents b (order.map (·.state)) f.clamped
         (if order.isSome then .placed else f.orderResult) f.figures)) s t) ∧
  (∀ (via : Via) (ask : BookAsk) (r q : RoomNo) (f : Flight) (s : State), AtWork s f →
    f.request = .book via ask → f.phase = .place → ask.room = r.val → ask.joined = true →
    (s.rooms.get r).partner = some q → (s.rooms.get r).state ≠ .outOfService →
    (∀ b, b ∈ s.store.records → b.id ≠ ask.id) →
    let lines : Option Nat := match f.settlement with
      | .place j => some j.lines.length
      | _ => none
    let n := 1 + (if ask.title.isSome then 2 else 0) + (lines.map fun m => if m ≤ 4 then 1 else 2).getD 0 +
      (if ask.organiser.isSome then 1 else 0)
    let b : Record :=
      { id := ask.id, room := r, joined := true, cls := f.cls, attendees := ask.attendees, origin := .uplink,
        qs := f.qs, qe := f.qe, ss := f.span.first, se := f.span.last,
        state := if f.qs ≤ s.grain + (s.rooms.get r).earlyWindow then .armed else .booked,
        endReason := none, releaseReason := none, badge := none, retireGrain := f.span.last,
        title := ask.title.map fun g => g.cells.take (min g.length 24), order := none,
        organiser := ask.organiser, cells := s.store.free.take n }
    let low := s.store.storeLowArmed = true ∧ (s.store.free.drop n).length < 64
    ∃ t, exec .admissionCheck s = .next t ∧
      t = { s with store := t.store, composer := t.composer, exceptions := t.exceptions,
                   engine := { s.engine with inFlight := some { f with placed := some b, phase := .partner none } } } ∧
      t.store.records = s.store.records ++ [b] ∧ t.store.free = s.store.free.drop n ∧
      t.store.retireList = s.store.retireList ∧ InsertedInto r b s t ∧
      t.composer = { s.composer with roomMarks := s.composer.roomMarks.set r true } ∧
      (low → t.exceptions =
        (raise .storeLow .none none (BitVec.ofNat 32 (s.store.free.drop n).length) s).exceptions) ∧
      (¬ low → t.exceptions = s.exceptions)) ∧
  ∀ (via : Via) (ask : BookAsk) (b p : Record) (q : RoomNo) (f : Flight) (s : State), AtWork s f →
    f.request = .book via ask → f.phase = .partner none → f.placed = some p → p.id = ask.id → f.stack = [] →
    s.record? ask.id = some b → b.joined = true → ask.id ∈ s.store.lists.get b.room →
    (s.rooms.get b.room).partner = some q → (s.rooms.get q).state ≠ .outOfService →
    (∀ j, f.settlement = .place j → s.catering.carries j.qd = true) →
    let order : Option Order := match f.settlement with
      | .place j => some ⟨j.kitchen, j.offset, j.lines, j.load, j.qd, j.qx, .placed, false, false⟩
      | _ => b.order
    let result : OrderResult := match f.settlement with
      | .place _ => .placed
      | _ => f.orderResult
    ∃ t, exec .admissionCheck s = .next t ∧
      t = { s with store := t.store, catering := t.catering, composer := t.composer,
                   engine := s.engine.afterEnd, ports := t.ports } ∧
      t.record? ask.id =
        some { b with order := order, retireGrain := retireGrainOf { b with order := order } } ∧
      (∀ x, x ≠ ask.id → t.record? x = s.record? x) ∧ t.store.free = s.store.free ∧ InsertedInto q b s t ∧
      t.composer = { s.composer with roomMarks := s.composer.roomMarks.set q true } ∧
      t.catering = (match f.settlement with
        | .place j => s.catering.changeLoad j.kitchen j.qd (· + j.load)
        | _ => s.catering) ∧
      Answered via .book (.done (admissionContents p (order.map (·.state)) f.clamped result f.figures)) s t

/-- The checks of a MODIFY, one at each step of the engine, in the order of R64: each passes to the next, or ends the
admission with its refusal, nothing else having changed. A record that has retired since its lookup is refused
UNKNOWN_ID (R71; that it is so at each check is the model's reading, notes/assumptions/13.md). Check 9 counts the
cells that the record holds as free (R30). Check 11 judges an order given anew, or the record's own where Qs or the
room changes, its own PLACED load left out (R65, R109); where Qs stands, the record's own keeps its Qd and Qx
(R108). Check 12 compares a MODIFY that names times or the room with the resulting room's list, and a joined
record's with the partner's too (R57): it goes on to step 1 of R66, or, once that has been done, to the placement;
to a displacement of all that conflict (R72, R74); or is refused CONFLICT, the record taken out being put back in
its old place and state (R73). A MODIFY that names neither is compared with nothing, which is the model's reading
(notes/assumptions/12.md). That the record put back keeps its order as the Catering Scheduler has it by then is the
model's choice (notes/assumptions/49.md); that the load of its own order is computed anew where the room alone
changes is its reading (notes/assumptions/54.md). -/
def Obligations.ModifyChecksRunInOrder : Prop :=
  ∀ (via : Via) (ask : ModifyAsk) (f : Flight) (n : Nat) (s : State), AtWork s f →
    f.request = .modify via ask → f.phase = .check n →
    let goes (f' : Flight) : Prop :=
      exec .admissionCheck s = .next { s with engine := { s.engine with inFlight := some f' } }
    let ends (a : Answer) : Prop := ∃ t, exec .admissionCheck s = .next t ∧ EndsWith via .modify a s t
    let judged (ok : Prop) (why : Reason) : Prop :=
      (ok → goes { f with phase := .check (n + 1) }) ∧ (¬ ok → ends ⟨.refused, some why, []⟩)
    let g := s.clock.day * 288 + s.clock.minute / 5
    let horizon := min (s.clock.day * 288 + 4032) 18874367
    (n = 1 → judged (s.clock.state = .running) .noClock) ∧
    (n = 2 → judged (∃ b, b ∈ s.store.records ∧ b.id = ask.id) .unknownId) ∧
    (3 ≤ n → s.record? ask.id = none → ends ⟨.refused, some .unknownId, []⟩) ∧
    ∀ b, s.record? ask.id = some b →
      let r : RoomNo := (ask.room.map asRoom).getD b.room
      let room := s.rooms.get r
      (n = 3 → (b.state = .booked ∨ b.state = .armed → goes { f with cls := b.cls, phase := .check 4 }) ∧
        (¬ (b.state = .booked ∨ b.state = .armed) → ends ⟨.refused, some .notLive, []⟩)) ∧
      (n = 4 → judged (room.state = .inService) .roomUnavailable) ∧
      (n = 5 → judged (b.joined = true → ∃ q, room.partner = some q ∧
        (s.rooms.get q).partner = some r ∧ (s.rooms.get q).state = .inService) .notPaired) ∧
      (n = 6 → (ask.times = none → goes { f with phase := .check 7 }) ∧
        ∀ w, ask.times = some w → (w.duration = 0 → ends ⟨.malformed, none, []⟩) ∧
          (w.duration ≠ 0 → goes { f with duration := min w.duration 720,
                                          clamped := f.clamped || decide (720 < w.duration),
                                          phase := .check 7 })) ∧
      (n = 7 → judged (ask.attendees.getD b.attendees ≤ room.capacity +
        (if b.joined then (room.partner.map fun q => (s.rooms.get q).capacity).getD 0 else 0)) .overCapacity) ∧
      (n = 8 → (ask.times = none → goes { f with qs := b.qs, qe := b.qe, phase := .check 9 }) ∧
        ∀ w, ask.times = some w →
          let qs := w.day * 288 + w.minute / 5
          let qe := w.day * 288 + (w.minute + f.duration + 4) / 5
          let past := (qs < g ∧ qs ≠ b.qs) ∨ qe ≤ g
          (past → ends ⟨.refused, some .past, []⟩) ∧
          (¬ past → horizon < qe → ends ⟨.refused, some .beyondHorizon, []⟩) ∧
          (¬ past → qe ≤ horizon → goes { f with qs := qs, qe := qe, phase := .check 9 })) ∧
      (n = 9 → judged (1 + (if (ask.title.map Option.isSome).getD b.title.isSome then 2 else 0) +
        (match ask.order with
          | some asked => (asked.map fun o => if o.count ≤ 4 then 1 else 2).getD 0
          | none => (b.order.map fun o => if o.lines.length ≤ 4 then 1 else 2).getD 0) +
        (if (ask.organiser.map Option.isSome).getD b.organiser.isSome then 1 else 0) ≤
          s.store.free.length + b.cells.length) .storeFull) ∧
      (n = 10 → judged (¬ (∃ o, b.order = some o ∧
        (o.state = .dispatched ∨ o.state = .accepted ∨ o.state = .delivered) ∧
        (ask.order ≠ none ∨ f.qs ≠ b.qs ∨ r ≠ b.room))) .orderInService) ∧
      (n = 11 →
        let touched := ask.order ≠ none ∨ (b.order ≠ none ∧ (f.qs ≠ b.qs ∨ r ≠ b.room))
        (¬ touched → goes { f with phase := .check 12 }) ∧
        (ask.order = some none → goes { f with settlement := .remove, phase := .check 12 }) ∧
        (∀ o, ask.order = none → b.order = some o → o.state = .cancelled → goes { f with phase := .check 12 }) ∧
        ∀ (offset : Nat) (lines : List (Nat × Nat)) (qd qx : Nat) (late : Prop),
          let lead := (lines.map fun l => leadOf s l.1).foldl max 0
          let anew := qd = f.qs - offset ∧ qx = qd - lead ∧ (late ↔ f.qs < g + offset + lead)
          (∃ o, ask.order = some (some o) ∧ offset = o.offset ∧ lines = o.lines.take o.count ∧ anew) ∨
            (ask.order = none ∧ touched ∧
              ∃ o, b.order = some o ∧ o.state ≠ .cancelled ∧ offset = o.offset ∧ lines = o.lines ∧
                (f.qs ≠ b.qs → anew) ∧ (f.qs = b.qs → qd = o.qd ∧ qx = o.qx ∧ (late ↔ o.qx < g))) →
          let load := (lines.map fun l => l.2 * weightOf s l.1).sum
          let bad := ∃ l, l ∈ lines ∧ weightOf s l.1 = 0
          let own (k : KitchenNo) : Nat := match b.order with
            | some o => if o.state = .placed ∧ o.kitchen = k ∧ o.qd / 3 = qd / 3 then o.load else 0
            | none => 0
          let takes (k : KitchenNo) : Prop := room.kitchen = some k ∧ (s.kitchens.get k).state = .opened ∧
            (∀ l, l ∈ lines → prepares s k l.1 = true) ∧ load ≤ 4095 ∧
            s.catering.loadAt k (qd / 288) (slotIndex qd) - own k + load ≤ (s.profile.get k).get (slotIndex qd)
          (bad → ends ⟨.refused, some .badItem, []⟩) ∧
          (¬ bad → late → ends ⟨.refused, some .orderLate, []⟩) ∧
          (¬ bad → ¬ late → ∀ k, takes k → goes { f with
            settlement := .place ⟨k, offset, lines, load, qd, qx⟩
            orderResult := .placed
            phase := .check 12 }) ∧
          (¬ bad → ¬ late → (∀ k, ¬ takes k) →
            (ask.cateringRequired = true → ends ⟨.refused, some .kitchenFull, []⟩) ∧
            (ask.cateringRequired = false →
              goes { f with settlement := .remove, orderResult := .dropped, phase := .check 12 }))) ∧
      (n = 12 →
        let span : Span := ⟨f.qs - room.setup, f.qe + room.turnaround⟩
        let meets (q : RoomNo) : List Record :=
          (s.listed q).filter fun c => decide (span.first < c.se ∧ c.ss < span.last ∧ c.id ≠ b.id)
        let beside : List Record := if b.joined then (room.partner.map meets).getD [] else []
        let cs := meets r ++ beside
        let may (q : RoomNo) (l : List Record) : Prop := l = [] ∨ ((s.rooms.get q).policy = .displaceLower ∧
          ∀ c, c ∈ l → c.state = .booked ∧ c.cls < f.cls ∧ c.joined = false ∧ c.origin ≠ .panel)
        let all : Prop := may r (meets r) ∧ ∀ q, room.partner = some q → may q beside
        let edits := ask.times ≠ none ∨ ask.room ≠ none
        (¬ edits → goes { f with phase := .take [] }) ∧
        (edits → cs = [] →
          goes { f with span := span, phase := if f.taken = none then .take [] else .place }) ∧
        (edits → cs ≠ [] → all → ∃ l, InSpanOrder cs l ∧ goes { f with
          span := span
          phase := if f.taken = none then .take (l.map (·.id)) else .displaceRequester (l.map (·.id)) }) ∧
        ∀ first rest, edits → cs = first :: rest → ¬ all →
          let refused : Answer := ⟨.refused, some .conflict, word16 first.id.toNat⟩
          (f.taken = none → ends refused) ∧
          ∀ k, f.taken = some k → k.id = b.id → (s.rooms.get b.room).state ≠ .outOfService →
            ∃ t, exec .admissionCheck s = .next t ∧
              t = { s with store := t.store, composer := t.composer, engine := t.engine, ports := t.ports } ∧
              t.record? b.id = some { b with state := k.state } ∧ (∀ x, x ≠ b.id → t.record? x = s.record? x) ∧
              t.store.free = s.store.free ∧ InsertedInto b.room b s t ∧
              t.composer = { s.composer with roomMarks := s.composer.roomMarks.set b.room true } ∧
              (b.joined = false → t.engine = s.engine.afterEnd ∧ Answered via .modify refused s t) ∧
              (b.joined = true → ∀ q, (s.rooms.get b.room).partner = some q → t.ports = s.ports ∧
                t.engine = { s.engine with inFlight := some { f with
                  span := span, phase := .partner (some first.id) } }))

/-- Step 1 of R66. A MODIFY that names times or the room takes its record out of its lists and makes it MOVING, to be
placed, or first to have bookings displaced. One that names neither, nor the order, and needs as many cells as the
record holds, replaces the attendees, title and organiser in the same step, with its place, times and state kept,
and is answered as R63 gives; that it marks its rooms changed is the model's choice (notes/assumptions/52.md). A
record that is no longer BOOKED or ARMED is refused NOT_LIVE with no change. Steps 3 to 6: the named fields are
replaced, the cells brought to their new number (R30, R31), the order settled, with the load of its own PLACED order
taken off and the new one's added (R110), and the record inserted by Ss with its new span, ARMED where it was ARMED
or stands at or past its arming grain; its retire grain is computed anew (R40) and it is answered, with the order
result that step 4 had (R63, R110). A joined record is inserted into its partner's list at the engine's next step
(R38, and for one put back R73), which is how the model has R38's two steps (notes/assumptions/9.md); that its
retire grain stands as it was until then is the model's choice (notes/assumptions/63.md). -/
def Obligations.ModifyTakesItsRecordOutOrReplacesItsFields : Prop :=
  (∀ (via : Via) (ask : ModifyAsk) (ids : List BookingId) (b : Record) (f : Flight) (s : State), AtWork s f →
     f.request = .modify via ask → f.phase = .take ids → s.record? ask.id = some b →
     (¬ (b.state = .booked ∨ b.state = .armed) →
       ∃ t, exec .admissionCheck s = .next t ∧ EndsWith via .modify ⟨.refused, some .notLive, []⟩ s t) ∧
     (b.state = .booked ∨ b.state = .armed →
       (ask.times ≠ none ∨ ask.room ≠ none → orderInService b = false →
         ∃ t, exec .admissionCheck s = .next t ∧
           t = { s with store := t.store, composer := t.composer, engine := t.engine } ∧
           t.engine = { s.engine with inFlight := some { f with
             taken := some b, phase := if ids = [] then .place else .displaceRequester ids } } ∧
           t.record? b.id = some { b with state := .moving } ∧
           (∀ x, x ≠ b.id → t.record? x = s.record? x) ∧
           ∀ q, t.store.lists.get q =
             if q ∈ listRooms s b then (s.store.lists.get q).filter (fun x => x != b.id) else s.store.lists.get q) ∧
       (ask.times = none → ask.room = none → ask.order = none → f.settlement = .keep → f.qs = b.qs → f.stack = [] →
         let b' : Record := { b with
           attendees := ask.attendees.getD b.attendees
           title := (ask.title.map fun g => g.map fun g => g.cells.take (min g.length 24)).getD b.title
           organiser := ask.organiser.getD b.organiser
           retireGrain := retireGrainOf b }
         b'.cellsNeeded = b.cells.length →
         ∃ t, exec .admissionCheck s = .next t ∧
           t = { s with store := t.store, composer := t.composer, engine := s.engine.afterEnd, ports := t.ports } ∧
           (t.record? b.id = some b' ∧ (∀ x, x ≠ b.id → t.record? x = s.record? x) ∧
            t.store.lists = s.store.lists ∧ t.store.free = s.store.free ∧
            Answered via .modify (.done (admissionContents b' (b.order.map (·.state)) f.clamped f.orderResult
              f.figures)) s t)))) ∧
  (∀ (via : Via) (ask : ModifyAsk) (k b : Record) (f : Flight) (s : State), AtWork s f →
    f.request = .modify via ask → f.phase = .place → f.taken = some k → s.record? ask.id = some b →
    b.cells.Nodup → b.cells ≠ [] → (∀ j, f.settlement = .place j → s.catering.carries j.qd = true) →
    let r : RoomNo := (ask.room.map asRoom).getD b.room
    (s.rooms.get r).state ≠ .outOfService →
    let order : Option Order := match f.settlement with
      | .keep => b.order
      | .remove => none
      | .place j => some ⟨j.kitchen, j.offset, j.lines, j.load, j.qd, j.qx, .placed, false, false⟩
    let result : OrderResult := match f.settlement with
      | .place _ => .placed
      | _ => f.orderResult
    let b1 : Record := { b with
      room := r, qs := f.qs, qe := f.qe, ss := f.span.first, se := f.span.last
      attendees := ask.attendees.getD b.attendees
      title := (ask.title.map fun g => g.map fun g => g.cells.take (min g.length 24)).getD b.title
      organiser := ask.organiser.getD b.organiser
      order := order
      state := if k.state = .armed ∨ f.qs ≤ s.grain + (s.rooms.get r).earlyWindow then .armed else .booked }
    let n := b1.cellsNeeded
    let more := n - b.cells.length
    let without : Catering := match f.settlement, b.order with
      | .keep, _ | _, none => s.catering
      | _, some o => if o.state = .placed then s.catering.changeLoad o.kitchen o.qd (· - o.load) else s.catering
    let low := more ≠ 0 ∧ s.store.storeLowArmed = true ∧ (s.store.free.drop more).length < 64
    ∃ (t : State) (b2 : Record), exec .admissionCheck s = .next t ∧
      t = { s with store := t.store, catering := t.catering, composer := t.composer, exceptions := t.exceptions,
                   engine := t.engine, ports := t.ports } ∧
      b2 = { b1 with cells := b2.cells, retireGrain := b2.retireGrain } ∧ t.record? ask.id = some b2 ∧
      (∀ x, x ≠ ask.id → t.record? x = s.record? x) ∧
      (b.cells.length ≤ n → b2.cells = b.cells ++ s.store.free.take more ∧
        t.store.free = s.store.free.drop more) ∧
      (n < b.cells.length → ∃ gone, b.cells.Perm (b2.cells ++ gone) ∧ b2.cells.Sublist b.cells ∧
        b2.cells.length = n ∧ b2.cells.head? = b.cells.head? ∧
        (∀ x y, x ∈ b2.cells.tail → y ∈ gone → x < y) ∧ (gone.Pairwise (· < ·)) ∧
        t.store.free = s.store.free ++ gone) ∧
      t.catering = (match f.settlement with
        | .place j => without.changeLoad j.kitchen j.qd (· + j.load)
        | _ => without) ∧
      InsertedInto r b1 s t ∧
      t.composer = { s.composer with roomMarks := s.composer.roomMarks.set r true } ∧
      (low → t.exceptions =
        (raise .storeLow .none none (BitVec.ofNat 32 (s.store.free.drop more).length) s).exceptions) ∧
      (¬ low → t.exceptions = s.exceptions) ∧
      (b.joined = false → f.stack = [] → t.engine = s.engine.afterEnd ∧ b2.retireGrain = retireGrainOf b1 ∧
        Answered via .modify (.done
          (admissionContents b2 (order.map (·.state)) f.clamped result f.figures)) s t) ∧
      (b.joined = true → ∀ q, (s.rooms.get r).partner = some q → t.ports = s.ports ∧
        b2.retireGrain = b.retireGrain ∧
        t.engine = { s.engine with inFlight := some { f with
          placed := some b2, orderResult := result, phase := .partner none } })) ∧
  ∀ (via : Via) (ask : ModifyAsk) (b : Record) (q : RoomNo) (refused : Option BookingId) (f : Flight) (s : State),
    AtWork s f → f.request = .modify via ask → f.phase = .partner refused → s.record? ask.id = some b →
    b.joined = true → ask.id ∈ s.store.lists.get b.room → (s.rooms.get b.room).partner = some q →
    (s.rooms.get q).state ≠ .outOfService →
    let inserted (b' : Record) (t : State) : Prop :=
      t = { s with store := t.store, composer := t.composer, engine := s.engine.afterEnd, ports := t.ports } ∧
      t.record? ask.id = some b' ∧ (∀ x, x ≠ ask.id → t.record? x = s.record? x) ∧
      t.store.free = s.store.free ∧ InsertedInto q b s t ∧
      t.composer = { s.composer with roomMarks := s.composer.roomMarks.set q true }
    (∀ first, refused = some first → ∃ t, exec .admissionCheck s = .next t ∧ inserted b t ∧
      Answered via .modify ⟨.refused, some .conflict, word16 first.toNat⟩ s t) ∧
    ∀ p, refused = none → f.placed = some p → p.id = ask.id → f.stack = [] →
      ∃ t, exec .admissionCheck s = .next t ∧ inserted { b with retireGrain := retireGrainOf b } t ∧
        Answered via .modify (.done
          (admissionContents p (b.order.map (·.state)) f.clamped f.orderResult f.figures)) s t

/-- A CANCEL, at its one step of the engine (R67). A BOOKED or ARMED booking is released with reason CANCELLED: it
leaves its lists; its order becomes CANCELLED, its load being taken off, where it was PLACED, and WASTED, with its
ticket removed and CATERING_WASTE raised, where it was DISPATCHED or ACCEPTED (R116); and it retires at once, its
cells joining the tail of the free list (R29, R43), or, its order being counted still, joins the retire list (R39,
R41). A CHECKED_IN one is ENDED with reason CANCELLED, its end brought to the grain after the current one where that
is earlier (R34), its order handed over in the same way, and stays in its lists. Both are answered with the record
as the cancel left it, its retire grain computed anew (R40). An unknown id is refused UNKNOWN_ID, and one that is
not live NOT_LIVE; that a MOVING booking is not live is the model's reading (notes/assumptions/36.md). -/
def Obligations.CancelReleasesOrEndsTheBooking : Prop :=
  ∀ (via : Via) (id : BookingId) (f : Flight) (n : Nat) (s : State), AtWork s f →
    f.request = .cancel via id → f.phase = .check n →
    (s.record? id = none →
      ∃ t, exec .admissionCheck s = .next t ∧ EndsWith via .cancel ⟨.refused, some .unknownId, []⟩ s t) ∧
    ∀ b, s.record? id = some b →
      (b.state = .moving ∨ b.state = .ended ∨ b.state = .released →
        ∃ t, exec .admissionCheck s = .next t ∧ EndsWith via .cancel ⟨.refused, some .notLive, []⟩ s t) ∧
      (b.state = .booked ∨ b.state = .armed →
        ∃ t, exec .admissionCheck s = .next t ∧
          t = { s with store := t.store, catering := t.catering, composer := t.composer, exceptions := t.exceptions,
                       engine := s.engine.afterEnd, ports := t.ports } ∧
          Released .cancelled b s t ∧ t.exceptions = (wasteRaised b s).exceptions ∧
          Answered via .cancel (.done (cancelContents (b.afterRelease .cancelled))) s t) ∧
      (b.state = .checkedIn →
        ∃ t, exec .admissionCheck s = .next t ∧
          t = { s with store := t.store, catering := t.catering, composer := t.composer, exceptions := t.exceptions,
                       engine := s.engine.afterEnd, ports := t.ports } ∧
          (let early := s.grain + 1 < b.qe
           let ended : Record := { b with
             qe := if early then s.grain + 1 else b.qe
             se := if early then max (s.grain + 1 + (b.se - b.qe)) (b.ss + 1) else b.se
             state := .ended
             endReason := some .cancelled
             order := b.order.map Order.afterRelease }
           let b' : Record := { ended with retireGrain := retireGrainOf ended }
           t.record? id = some b' ∧ (∀ x, x ≠ id → t.record? x = s.record? x) ∧
           t.store = { s.store with records := t.store.records } ∧
           (∀ q, t.composer.roomMarks.get q = (s.composer.roomMarks.get q || (listRooms s b).contains q)) ∧
           TicketsGone (if b.served then [b] else []) s t ∧
           LoadsGone (b.order.filter fun o => o.state == .placed).toList s t ∧
           t.exceptions = (wasteRaised b s).exceptions ∧
           Answered via .cancel (.done (cancelContents b')) s t))

/-- A BOOK_NOW whose checks all hold is placed at once (R68): a CHECKED_IN walk-in of class 0 and one attendee at the
current grain, as long as its choice asks, under the walk-in id offered (R36), with one cell, WALK_IN raised and the
reply DONE with the id and Qe. -/
def Obligations.BookNowPlacesAWalkInAtTheCurrentGrain : Prop :=
  ∀ (place : ReplyPlace) (r : RoomNo) (choice n : Nat) (f : Flight) (s : State), AtWork s f →
    f.request = .bookNow place r choice → f.phase = .check 1 →
    let room := s.rooms.get r
    let qe := s.grain + 3 * choice
    let id : BookingId := 0xFF00#16 + BitVec.ofNat 16 n
    s.clock.state = .running → room.state = .inService → 1 ≤ room.capacity → qe ≤ s.clock.horizonEnd →
    s.store.free ≠ [] → (∀ b, b ∈ s.listed r → b.state ≠ .checkedIn) →
    walkInOffset s = some n →
    (∀ b, b ∈ s.listed r → ¬ (s.grain - room.setup < b.se ∧ b.ss < qe + room.turnaround)) →
    ∃ t, exec .bookNow s = .next t ∧
      t = { s with store := t.store, composer := t.composer, exceptions := t.exceptions, panels := t.panels,
                   engine := s.engine.afterEnd } ∧
      t.store.records = s.store.records ++
        [{ id := id, room := r, joined := false, cls := 0, attendees := 1, origin := .panel, qs := s.grain,
           qe := qe, ss := s.grain - room.setup, se := qe + room.turnaround, state := .checkedIn,
           endReason := none, releaseReason := none, badge := none, retireGrain := qe + room.turnaround,
           title := none, order := none, organiser := none, cells := s.store.free.take 1 }] ∧
      t.store.free = s.store.free.drop 1 ∧ t.store.walkIn = (n + 1) % 256 ∧ id ∈ t.store.lists.get r ∧
      (∀ q, q ≠ r → t.store.lists.get q = s.store.lists.get q) ∧
      t.composer = { s.composer with roomMarks := s.composer.roomMarks.set r true } ∧
      t.exceptions.counters.get 3 = min (s.exceptions.counters.get 3 + 1) 65535 ∧
      t.panels = (answerCall place ⟨.done, none, some id, some qe⟩ s).panels ∧
      ReplyGiven place ⟨.done, none, some id, some qe⟩ t

/-- An EXTEND whose span meets no other record lengthens the room's CHECKED_IN booking by one service slot, the
turnaround it was placed with kept; one that would end beyond the horizon is refused BEYOND_HORIZON, and one that
meets another record CONFLICT, naming the first, that of the record's room before that of its partner's, which is
the model's choice (R69, R57, notes/assumptions/50.md). An END_NOW ends it, at the grain after the current one where
that is earlier (R70, R34). Both mark its rooms, recompute its retire grain (R40), and reply DONE with the id and
the resulting Qe. Where the clock is not RUNNING, or no booking is CHECKED_IN, both are refused and change nothing
else. That the row makes all its checks in one command is the model's choice (notes/assumptions/7.md). -/
def Obligations.ExtendAndEndNowEditTheCheckedInBooking : Prop :=
  ∀ (place : ReplyPlace) (r : RoomNo) (f : Flight) (s : State), AtWork s f → f.phase = .check 1 →
    let edits (i : Instr) (b b' : Record) : Prop := ∃ t, exec i s = .next t ∧
      t = { s with store := t.store, composer := t.composer, panels := t.panels, engine := s.engine.afterEnd } ∧
      t.record? b.id = some b' ∧ (∀ x, x ≠ b.id → t.record? x = s.record? x) ∧
      t.store.lists = s.store.lists ∧ t.store.free = s.store.free ∧ t.composer.faces = s.composer.faces ∧
      (∀ q, t.composer.roomMarks.get q = (s.composer.roomMarks.get q || (listRooms s b).contains q)) ∧
      t.panels = (answerCall place ⟨.done, none, some b.id, some b'.qe⟩ s).panels
    let refused (i : Instr) (why : Reason) (named : Option BookingId) : Prop := exec i s = .next
      { answerCall place ⟨.refused, some why, named, none⟩ s with engine := s.engine.afterEnd }
    let notThere (i : Instr) : Prop :=
      (s.clock.state ≠ .running → refused i .noClock none) ∧
      (s.clock.state = .running → checkedInAt s r = none → refused i .notLive none)
    (f.request = .extend place r → notThere .extend ∧
      (∀ b, s.clock.state = .running → checkedInAt s r = some b → s.clock.horizonEnd < b.qe + 3 →
        refused .extend .beyondHorizon none) ∧
      (∀ b c cs, s.clock.state = .running → checkedInAt s r = some b → b.qe + 3 ≤ s.clock.horizonEnd →
        ((listRooms s b).flatMap fun q => (s.listed q).filter fun c =>
          decide (c.id ≠ b.id ∧ b.ss < c.se ∧ c.ss < b.qe + 3 + (b.se - b.qe))) = c :: cs →
        refused .extend .conflict (some c.id)) ∧
      ∀ b, s.clock.state = .running → checkedInAt s r = some b → b.qe + 3 ≤ s.clock.horizonEnd →
        let se := b.qe + 3 + (b.se - b.qe)
        (∀ q, q ∈ listRooms s b → ∀ c, c ∈ s.listed q → c.id ≠ b.id → ¬ (b.ss < c.se ∧ c.ss < se)) →
        edits .extend b { b with qe := b.qe + 3, se := se,
                                 retireGrain := retireGrainOf { b with qe := b.qe + 3, se := se } }) ∧
    (f.request = .endNow place r → notThere .endNow ∧
      ∀ b, s.clock.state = .running → checkedInAt s r = some b →
        let early := s.grain + 1 < b.qe
        let se := if early then max (s.grain + 1 + (b.se - b.qe)) (b.ss + 1) else b.se
        edits .endNow b { b with
          qe := if early then s.grain + 1 else b.qe
          se := se
          retireGrain := retireGrainOf { b with se := se }
          state := .ended
          endReason := some .early })

/-! ## Moves (chapter 5) -/

/-- A displacement takes all the bookings named, or none (R73). Where all are still BOOKED, each leaves its lists,
becomes MOVING, is counted and is pushed, in the order given, with the room it stood in as its origin and the depth
of the chain (R74, R81); else the engine checks again. That it reads the room again after a refused displacement of
a VACATE is the model's choice (notes/assumptions/11.md). A push of one booking onto five frames first releases the
bottom frame's booking UNPLACED (R39), its order going as R116 gives, with CHAIN_OVERFLOW raised and not UNPLACED
(R75). -/
def Obligations.DisplacementTakesAllTheBookingsOrNone : Prop :=
  ∀ (ids : List BookingId) (depth : Nat) (granted refused : Phase) (f : Flight) (s : State), AtWork s f →
    (f.phase = .displaceRequester ids ∧ depth = 1 ∧ granted = .place ∧ refused = .check 12) ∨
      (∃ t sp, f.phase = .displaceMoving t sp ids ∧ depth = t.frame.depth + 1 ∧ granted = .placeMoving t sp ∧
        refused = .recheck t) ∨
      (∃ id, f.phase = .displaceVacated id ∧ ids = [id] ∧ depth = 1 ∧ granted = .serve ∧
        refused = .vacateRead false) →
    let booked (id : BookingId) : Prop := ∃ b, s.record? id = some b ∧ b.state = .booked
    ((∃ id, id ∈ ids ∧ ¬ booked id) → exec .displacement s = .next
      { s with engine := { s.engine with inFlight := some { f with phase := refused } } }) ∧
    ((∀ id, id ∈ ids → booked id) → ids.Nodup →
      (f.stack.length + ids.length ≤ 5 →
        ∃ (t : State) (frames : List MoveFrame), exec .displacement s = .next t ∧
          t = { s with store := t.store, composer := t.composer, engine := t.engine } ∧
          (∀ id b, id ∈ ids → s.record? id = some b → t.record? id = some { b with state := .moving } ∧
            ∀ q, q ∈ listRooms s b → id ∉ t.store.lists.get q) ∧
          (∀ x, x ∉ ids → t.record? x = s.record? x ∧
            ∀ q, x ∈ t.store.lists.get q ↔ x ∈ s.store.lists.get q) ∧
          t.store.free = s.store.free ∧ t.store.retireList = s.store.retireList ∧
          frames.map (·.booking) = ids ∧
          (∀ m, m ∈ frames → m.depth = depth ∧ ∀ b, s.record? m.booking = some b → m.origin = b.room) ∧
          t.engine = { s.engine with inFlight := some { f with
            phase := granted
            figures := { f.figures with displaced := f.figures.displaced + ids.length }
            stack := frames.reverse ++ f.stack } }) ∧
      ∀ (id : BookingId) (b c : Record) (upper : List MoveFrame) (m : MoveFrame), ids = [id] →
        f.stack = upper ++ [m] → upper.length = 4 → m.booking ≠ id → s.record? id = some b →
        s.record? m.booking = some c →
        ∃ t u, exec .displacement s = .next t ∧
          t = { s with store := t.store, catering := t.catering, composer := t.composer, engine := t.engine,
                       exceptions := t.exceptions } ∧
          u = { s with store := u.store, composer := { s.composer with roomMarks := u.composer.roomMarks } } ∧
          u.record? id = some { b with state := .moving } ∧ (∀ x, x ≠ id → u.record? x = s.record? x) ∧
          (∀ q, u.store.lists.get q =
            if q ∈ listRooms s b then (s.store.lists.get q).filter (fun x => x != id) else s.store.lists.get q) ∧
          u.store = { s.store with records := u.store.records, lists := u.store.lists } ∧ Released .unplaced c u t ∧
          t.exceptions = (raise .chainOverflow (.booking m.booking) (some c.room)
            (BitVec.ofNat 32 (m.origin.val + 256 * m.depth)) (wasteRaised c s)).exceptions ∧
          t.engine = { s.engine with inFlight := some { f with
            phase := granted
            figures := { displaced := f.figures.displaced + 1, elsewhere := f.figures.elsewhere,
                         unplaced := f.figures.unplaced + 1, overflow := true }
            stack := ⟨id, b.room, depth⟩ :: upper } })

/-- The top frame is popped and its booking tried in the alternates of its origin room from the rotation pointer on
(R18, R76, R77). It is placed in the first that is IN_SERVICE, large enough, not the origin and free for its span,
its grains kept, and the pointer advanced past that position (R79, R81). Its order is settled (R117): a PLACED one
stands where the alternate's kitchen is its own; else its load is taken off, and it goes to that kitchen where it
fits, or becomes CANCELLED with CATERING_DROPPED of detail 0, its dispatch-pending flag standing, which is the
model's choice (notes/assumptions/35.md). One DISPATCHED or ACCEPTED keeps its kitchen, its ticket is renamed and
handed over again (R149), and CATERING_REDIRECT is raised where the alternate's kitchen is another. The retire grain
is computed anew (R40). Where no alternate fits, and none may be displaced into, it is released UNPLACED, its order
going as R116 gives, and the pointer stands (R39, R78, R80). How many readings of the engine one command makes is an
operand of the model's (notes/assumptions/8.md). -/
def Obligations.MovingBookingTakesTheFirstFreeAlternate : Prop :=
  ∀ (m : MoveFrame) (rest : List MoveFrame) (b : Record) (work : Nat) (f : Flight) (s : State), AtWork s f →
    f.phase = .serve → f.stack = m :: rest → s.record? m.booking = some b → b.joined = false →
    let e := s.rooms.get m.origin
    let n := e.alternates.length
    let span (a : RoomNo) : Span := ⟨b.qs - (s.rooms.get a).setup, b.qe + (s.rooms.get a).turnaround⟩
    let fits (a : RoomNo) : Prop := (s.rooms.get a).state = .inService ∧ b.attendees ≤ (s.rooms.get a).capacity ∧
      a ≠ m.origin ∧ ∀ c, c ∈ s.listed a → c.id ≠ b.id → ¬ ((span a).first < c.se ∧ c.ss < (span a).last)
    (∀ (i : Nat) (a : RoomNo), i < n → e.alternates[(e.pointer + i) % n]? = some a → fits a →
      (∀ j a', j < i → e.alternates[(e.pointer + j) % n]? = some a' → ¬ fits a') → i + 3 ≤ work →
      let kitchen := (s.rooms.get a).kitchen
      let takes (o : Order) (k : KitchenNo) : Prop := kitchen = some k ∧ (s.kitchens.get k).state = .opened ∧
        (∀ l, l ∈ o.lines → prepares s k l.1 = true) ∧ o.load ≤ 4095 ∧
        s.catering.loadAt k (o.qd / 288) (slotIndex o.qd) + o.load ≤ (s.profile.get k).get (slotIndex o.qd)
      ∃ (t : State) (order : Option Order), exec (.moveFramePop work) s = .next t ∧
        t = { s with rooms := t.rooms, store := t.store, catering := t.catering, composer := t.composer,
                     panels := t.panels, exceptions := t.exceptions, engine := t.engine } ∧
        t.rooms = s.rooms.set m.origin
          { e with altsWritten := false, pointer := ((e.pointer + i) % n + 1) % n } ∧
        (let b' : Record := { b with
           room := a, ss := (span a).first, se := (span a).last, order := order
           state := if b.qs ≤ s.grain + (s.rooms.get a).earlyWindow then .armed else .booked }
         t.record? b.id = some { b' with retireGrain := retireGrainOf b' }) ∧
        (∀ x, x ≠ b.id → t.record? x = s.record? x) ∧ InsertedInto a { b with ss := (span a).first } s t ∧
        t.store.free = s.store.free ∧ t.store.retireList = s.store.retireList ∧
        t.composer.roomMarks = s.composer.roomMarks.set a true ∧
        t.engine = { s.engine with inFlight := some { f with
          phase := .serve
          figures := { f.figures with elsewhere := f.figures.elsewhere + 1 }
          stack := rest } } ∧
        (let stands : Prop := order = b.order ∧ t.catering = s.catering ∧ t.panels = s.panels ∧
           t.exceptions = s.exceptions ∧ t.composer.faces = s.composer.faces
         (b.order = none → stands) ∧
         ∀ o, b.order = some o →
           let without := s.catering.changeLoad o.kitchen o.qd (· - o.load)
           (o.state = .delivered ∨ o.state = .wasted ∨ o.state = .cancelled ∨
             (o.state = .placed ∧ kitchen = some o.kitchen) → stands) ∧
           (o.state = .placed → kitchen ≠ some o.kitchen → t.panels = s.panels ∧
             t.composer.faces = s.composer.faces ∧
             (∀ k, takes o k → order = some { o with kitchen := k, dispatchPending := false, lateMark := false } ∧
               t.catering = without.changeLoad k o.qd (· + o.load) ∧ t.exceptions = s.exceptions) ∧
             ((∀ k, ¬ takes o k) → order = some { o with state := .cancelled } ∧ t.catering = without ∧
               t.exceptions = (raise .cateringDropped (.booking b.id) (some a) 0#32 s).exceptions)) ∧
           (o.state = .dispatched ∨ o.state = .accepted → order = some o ∧ t.catering.pages = s.catering.pages ∧
             (∀ k, t.catering.tickets.get k = if k ≠ o.kitchen then s.catering.tickets.get k else
               (s.catering.tickets.get k).map fun u =>
                 if u.booking = b.id then { u with roomName := (s.rooms.get a).name } else u) ∧
             (∀ c, t.composer.faces.get c =
               (let face := s.composer.faces.get c
                if (s.panels.get c).kitchen? = some o.kitchen then face.withOwn (pantryRows t o.kitchen)
                else face)) ∧
             (∀ u, (t.catering.tickets.get o.kitchen).find? (fun u => u.booking == b.id) = some u →
               TicketHanded o.kitchen u s t.panels) ∧
             ((∀ u, u ∈ s.catering.tickets.get o.kitchen → u.booking ≠ b.id) → t.panels = s.panels) ∧
             t.exceptions = (if kitchen = some o.kitchen then s.exceptions else
               (raise .cateringRedirect (.booking b.id) (some a) (BitVec.ofNat 32 a.val) s).exceptions)))) ∧
    ((∀ a, a ∈ e.alternates → ¬ fits a ∧ (s.rooms.get a).policy = .noDisplace) → 2 * n + 3 ≤ work →
      ∃ t, exec (.moveFramePop work) s = .next t ∧
        t = { s with rooms := t.rooms, store := t.store, catering := t.catering, composer := t.composer,
                     engine := t.engine, exceptions := t.exceptions } ∧
        t.rooms = s.rooms.set m.origin { e with altsWritten := false } ∧ Released .unplaced b s t ∧
        t.exceptions = (raise .unplaced (.booking b.id) (some b.room)
          (BitVec.ofNat 32 (m.origin.val + 256 * m.depth)) (wasteRaised b s)).exceptions ∧
        t.engine = { s.engine with inFlight := some { f with
          phase := .serve
          figures := { f.figures with unplaced := f.figures.unplaced + 1 }
          stack := rest } })

/-- At each of its readings, a VACATE asks for the first BOOKED and unjoined booking of a room still OUT_OF_SERVICE
(R82). Where none is left it completes, raising VACATE_INCOMPLETE with the number of records that stay (R83); where
the room is in another state it completes and raises nothing (R25). -/
def Obligations.VacateTakesTheNextBookedBooking : Prop :=
  ∀ (v : RoomNo) (f : Flight) (s : State), AtWork s f → f.request = .vacate v →
    (∃ first, f.phase = .vacateRead first) ∨ (f.phase = .serve ∧ f.stack = []) →
    let movable (b : Record) : Prop := b.state = .booked ∧ b.joined = false
    let out := (s.rooms.get v).state = .outOfService
    (¬ out → exec .vacate s = .next { s with engine := s.engine.afterEnd }) ∧
    (out → ∀ before b after, s.listed v = before ++ b :: after → (∀ c, c ∈ before → ¬ movable c) → movable b →
      exec .vacate s = .next
        { s with engine := { s.engine with inFlight := some { f with phase := .displaceVacated b.id } } }) ∧
    (out → (∀ c, c ∈ s.listed v → ¬ movable c) →
      exec .vacate s = .next
        { s with
          engine := s.engine.afterEnd
          exceptions := if s.store.lists.get v = [] then s.exceptions else
            (raise .vacateIncomplete (.room v) none (BitVec.ofNat 32 (s.store.lists.get v).length) s).exceptions })

/-! ## Attendance (chapter 6, with R42) -/

/-- A tap (R94 to R97). A CHECKED_IN booking in the room's list answers it ALREADY_IN; else its target is the ARMED
booking nearest the head, and with none, as with an empty list (R93), it is answered NOTHING_ARMED. A target whose
other list holds a CHECKED_IN booking is answered ALREADY_IN, one whose room admits its organiser alone
NOT_ORGANISER for another badge, and else it is CHECKED_IN with the badge and its rooms marked. In place of that it
is answered ALREADY_IN where the engine is about to insert a CHECKED_IN joined booking in a list of the target's:
the model's choice (notes/assumptions/59.md), by which, under the premises of the lists' invariant, a tap leaves the
engine no CHECKED_IN booking to insert beside another. -/
def Obligations.TapChecksInTheNearestArmedBooking : Prop :=
  ∀ (p : Tap) (rest : List Tap) (s : State), s.ports.powerGood = true → s.deliveries.taps = p :: rest →
    let answered (a : CallAnswer) : Prop := exec .tap s = .next
      { answerCall p.place a s with deliveries := { s.deliveries with taps := rest } }
    let target := (s.listed p.room).find? fun b => b.state == .armed
    let here := checkedInAt s p.room
    let beside (b : Record) := ((listRooms s b).filter fun q => q != p.room).findSome? (checkedInAt s)
    let entering (b c : Record) : Prop := ∃ q, q ∈ listRooms s b ∧ Entering s q c
    let barred (b : Record) : Prop := (s.rooms.get b.room).checkIn = .organiser ∧
      ∃ x, b.organiser = some x ∧ x ≠ p.badge
    (∀ c, here = some c → answered ⟨.refused, some .alreadyIn, some c.id, none⟩) ∧
    (∀ t, exec .tap s = .next t → ListsAgree s → PlacementClear s →
      ∀ q b, Entering t q b → ∀ c, c ∈ t.listed q → c.state ≠ .checkedIn) ∧
    (here = none →
      (target = none → answered ⟨.refused, some .nothingArmed, none, none⟩) ∧
      ∀ b, target = some b →
        (∀ c, beside b = some c → answered ⟨.refused, some .alreadyIn, some c.id, none⟩) ∧
        (beside b = none → barred b → answered ⟨.refused, some .notOrganiser, some b.id, none⟩) ∧
        (∀ c, beside b = none → ¬ barred b → entering b c →
          answered ⟨.refused, some .alreadyIn, some c.id, none⟩) ∧
        (beside b = none → ¬ barred b → (∀ c, ¬ entering b c) → ∃ t, exec .tap s = .next t ∧
          t = { s with store := t.store, composer := t.composer, panels := t.panels,
                       deliveries := { s.deliveries with taps := rest } } ∧
          t.record? b.id = some { b with state := .checkedIn, badge := some p.badge } ∧
          (∀ x, x ≠ b.id → t.record? x = s.record? x) ∧ t.store.lists = s.store.lists ∧
          t.composer.faces = s.composer.faces ∧
          (∀ q, t.composer.roomMarks.get q = (s.composer.roomMarks.get q || (listRooms s b).contains q)) ∧
          t.panels = (answerCall p.place ⟨.done, none, some b.id, some b.qe⟩ s).panels))

/-- The scan's work on one room list, for the boundary in hand or the oldest delivered (R42, R88 to R91): afterwards no
record that stood in the list is due to be armed, released, ended or retired, and the scan goes on to the next room.
Each record comes to the state its transitions give it: BOOKED within its early window it is ARMED; past its grace
it is RELEASED NO_SHOW, raising NO_SHOW_RELEASE, after CATERING_WASTE where its order was with the kitchen (R116);
without grace, at its end, ENDED UNATTENDED; CHECKED_IN, at its end, ENDED NORMAL. A released one leaves its lists,
and retires unless its order is counted still, when it joins the retire list (R39, R41); an ENDED or RELEASED one
whose retire grain has come retires, its cells joining the free list, its ticket going and the load of its counted
order being taken off (R43, R105, R118). Records outside the list stand. After the last room comes the retire list,
from its head to the first record that retires later. Where no boundary waits, the command has no effect: that
deliveries wait for a command is the model's choice (notes/assumptions/3.md), as are that a command does `pieces`
lists (notes/assumptions/5.md) and that a boundary raised before the clock halted is met in any clock state
(notes/assumptions/61.md). -/
def Obligations.GrainScanLeavesNothingDueInItsRoom : Prop :=
  ∀ s : State, s.ports.powerGood = true →
    (∀ (r : RoomNo) (g : Nat) (rest : List Nat),
      (s.deliveries.scan = some ⟨g, r.val⟩ ∧ rest = s.deliveries.storeBoundaries) ∨
        (r.val = 0 ∧ s.deliveries.scan = none ∧ s.deliveries.storeBoundaries = g :: rest) →
      ∃ t, exec (.grainScan 1) s = .next t ∧
        t = { s with store := t.store, catering := t.catering, composer := t.composer, exceptions := t.exceptions,
                     deliveries := { s.deliveries with storeBoundaries := rest, scan := some ⟨g, r.val + 1⟩ } } ∧
        (∀ id, id ∈ s.store.lists.get r → ∀ b, t.record? id = some b → ¬ ScanDue g t b) ∧
        (∀ id b, id ∈ s.store.lists.get r → s.record? id = some b → b.state = .booked →
          b.qs ≤ g + (s.rooms.get r).earlyWindow → b.room = r → g < b.qe →
          ((s.rooms.get r).grace = 0 ∨ g < b.qs + (s.rooms.get r).grace) →
          t.record? id = some { b with state := .armed }) ∧
        (∀ id, id ∉ s.store.lists.get r → t.record? id = s.record? id) ∧
        ((s.store.lists.get r).Nodup →
          let bs := s.listed r
          let gone := bs.filter fun b => b.retired g s
          (∀ b, b ∈ bs → t.record? b.id = if b.retired g s then none else some (b.scanned g s)) ∧
          (∀ q, t.store.lists.get q = (s.store.lists.get q).filter fun id =>
            !(bs.any fun b => b.id == id && (b.missed g s || b.retired g s) && (listRooms s b).contains q)) ∧
          (∀ id, id ∈ t.store.retireList ↔
            (id ∈ s.store.retireList ∧ ∀ b, b ∈ gone → b.id ≠ id) ∨
              ∃ b, b ∈ bs ∧ b.id = id ∧ b.missed g s = true ∧ b.retired g s = false) ∧
          (∀ q, t.composer.roomMarks.get q = (s.composer.roomMarks.get q || bs.any fun b =>
            (listRooms s b).contains q && (b.arms g s || b.unattended g s || b.attended g ||
              ((b.missed g s || b.retired g s) && (s.store.lists.get q).contains b.id)))) ∧
          t.exceptions = ((bs.filter fun b => b.missed g s).foldl
            (fun u b => raise .noShowRelease (.booking b.id) (some b.room) (BitVec.ofNat 32 b.room.val)
              (wasteRaised b u)) s).exceptions ∧
          CellsReturned gone s t ∧ t.store.walkIn = s.store.walkIn ∧
          TicketsGone (bs.filter fun b => b.retired g s || (b.missed g s && b.served)) s t ∧
          LoadsGone ((gone.filterMap fun b => b.order).filter fun o => o.state != .cancelled) s t)) ∧
    (∀ g : Nat, s.deliveries.scan = some ⟨g, 96⟩ →
      ∃ t, exec (.grainScan 1) s = .next t ∧
        t = { s with store := t.store, catering := t.catering, composer := t.composer,
                     deliveries := { s.deliveries with scan := none } } ∧
        ∀ (gone kept : List BookingId), s.store.retireList = gone ++ kept →
          (∀ id, id ∈ gone → ∀ b, s.record? id = some b → b.retireGrain ≤ g) →
          (∀ id, kept.head? = some id → ∃ b, s.record? id = some b ∧ g < b.retireGrain) →
          (∀ id, t.record? id = if id ∈ gone then none else s.record? id) ∧
          ((gone ++ kept).Nodup → (∀ id, id ∈ gone → (s.record? id).isSome = true) →
            let bs := gone.filterMap s.record?
            t.store.retireList = kept ∧ t.store.walkIn = s.store.walkIn ∧
            (∀ q, t.store.lists.get q = (s.store.lists.get q).filter fun id =>
              !(bs.any fun b => b.id == id && (listRooms s b).contains q)) ∧
            CellsReturned bs s t ∧ TicketsGone bs s t ∧
            LoadsGone ((bs.filterMap fun b => b.order).filter fun o => o.state != .cancelled) s t)) ∧
    (s.deliveries.scan = none → s.deliveries.storeBoundaries = [] →
      ∀ pieces, exec (.grainScan pieces) s = .next s)

/-! ## Catering (chapter 7) -/

/-- The dispatch pass's work on one kitchen (R111 to R113): each PLACED order of the kitchen that is due, MOVING
bookings passed over, is DISPATCHED with a ticket made at this grain, or, where the ticket list holds 12, left
PLACED with its dispatch-pending flag; one whose delivery grain has come carries its late mark. No load changes.
That ids are unique in the store is R35. That the pass waits for its command, which has no effect where no boundary
waits, is the model's choice (notes/assumptions/3.md), as are that a command does `pieces` kitchens
(notes/assumptions/5.md) and that a boundary raised before the clock halted is met in any clock state
(notes/assumptions/61.md). -/
def Obligations.DispatchPassDispatchesWhatIsDue : Prop :=
  ∀ s : State, s.ports.powerGood = true → (s.store.records.map (·.id)).Nodup →
    (∀ (k : KitchenNo) (g : Nat) (rest : List Nat),
      (s.deliveries.pass = some ⟨g, k.val⟩ ∧ rest = s.deliveries.cateringBoundaries) ∨
        (k.val = 0 ∧ s.deliveries.pass = none ∧ s.deliveries.cateringBoundaries = g :: rest) →
      ∃ t, exec (.dispatchPass 1) s = .next t ∧
        t = { s with store := t.store, catering := t.catering, composer := t.composer, panels := t.panels,
                     exceptions := t.exceptions,
                     deliveries := { s.deliveries with
                       cateringBoundaries := rest
                       pass := if k.val < 7 then some ⟨g, k.val + 1⟩ else none } } ∧
        t.catering.pages = s.catering.pages ∧
        (∀ j, j ≠ k → t.catering.tickets.get j = s.catering.tickets.get j) ∧
        ∀ b o, b ∈ s.store.records → b.order = some o →
          let due := o.state = .placed ∧ o.kitchen = k ∧ o.qx ≤ g ∧ b.state ≠ .moving
          (¬ due → t.record? b.id = some b) ∧
          (due → ∃ o', t.record? b.id = some { b with order := some o' } ∧ (o.qd ≤ g → o'.lateMark = true) ∧
            ((o' = { o with state := .dispatched, dispatchPending := false, lateMark := o'.lateMark } ∧
                ∃ u, u ∈ t.catering.tickets.get k ∧ u.booking = b.id ∧ u.qd = o.qd ∧ u.load = o.load ∧
                  u.roomName = (s.rooms.get b.room).name ∧ u.madeGrain = g) ∨
              (o' = { o with dispatchPending := true, lateMark := o'.lateMark } ∧
                12 ≤ (t.catering.tickets.get k).length)))) ∧
    (s.deliveries.pass = none → s.deliveries.cateringBoundaries = [] →
      ∀ pieces, exec (.dispatchPass pieces) s = .next s)

/-- An ACCEPT of a DISPATCHED order of the panel's kitchen makes the order and its ticket ACCEPTED (R114); a
DELIVERED of a DISPATCHED or ACCEPTED one makes the order DELIVERED and removes its ticket (R115). Any other call is
answered UNKNOWN_TICKET. A pantry face of the kitchen is recomposed at once (R127), and no load changes. -/
def Obligations.PantryCallsAcceptAndDeliverTickets : Prop :=
  ∀ (c : PantryCall) (rest : List PantryCall) (s : State), s.ports.powerGood = true →
    s.deliveries.pantryCalls = c :: rest →
    let i : Instr := if c.delivered then .delivered else .accept
    let taken (o : Order) : Prop := o.kitchen = c.kitchen ∧
      (o.state = .dispatched ∨ (c.delivered = true ∧ o.state = .accepted))
    (∀ b o, s.record? c.booking = some b → b.order = some o → taken o →
      ∃ t, exec i s = .next t ∧
        t = { s with store := t.store, catering := t.catering, composer := t.composer, panels := t.panels,
                     deliveries := { s.deliveries with pantryCalls := rest } } ∧
        t.record? b.id =
          some { b with order := some { o with state := if c.delivered then .delivered else .accepted } } ∧
        (∀ x, x ≠ b.id → t.record? x = s.record? x) ∧ t.store.lists = s.store.lists ∧
        t.catering.pages = s.catering.pages ∧
        (∀ j, t.catering.tickets.get j =
          if j ≠ c.kitchen then s.catering.tickets.get j
          else if c.delivered then (s.catering.tickets.get j).filter fun u => u.booking != c.booking
          else (s.catering.tickets.get j).map fun u => if u.booking = c.booking then { u with accepted := true } else u) ∧
        t.composer.roomMarks = s.composer.roomMarks ∧
        (c.delivered = false ∨ (∃ u, u ∈ s.catering.tickets.get c.kitchen ∧ u.booking = c.booking) →
          ∀ a, t.composer.faces.get a =
            (let f := s.composer.faces.get a
             if (s.panels.get a).kitchen? = some c.kitchen then f.withOwn (pantryRows t c.kitchen) else f)) ∧
        t.panels = (answerCall c.place ⟨.done, none, some c.booking, none⟩ s).panels) ∧
    ((¬ ∃ b o, s.record? c.booking = some b ∧ b.order = some o ∧ taken o) →
      exec i s = .next
        { answerCall c.place ⟨.refused, some .unknownTicket, some c.booking, none⟩ s with
          deliveries := { s.deliveries with pantryCalls := rest } })

/-! ## Faces (chapter 8) -/

/-- The composer's work for one room at a boundary, while the clock is RUNNING (R125): on every door panel bound to the
room, all four zone rows are recomposed where its mark is set, and row 0 alone where it is clear; each row whose
shown content changes is marked dirty (R126); the mark is clear afterwards, and the work goes on to the next room.
The rows show what R122 to R124 give: row 0 the name and the status word, row 1 the current booking's title or a
dash, row 2 its times, row 3 the next booking. That the cells left of a status word shorter than 8 glyphs are blank
and NORMAL is the model's choice (notes/assumptions/55.md); so are that the command has no effect where no boundary
waits (notes/assumptions/3.md), that it does `pieces` rooms (notes/assumptions/5.md), and that a boundary raised
before the clock halted waits until it runs again (notes/assumptions/61.md). While the clock is UNSET or HALTED the
command has no effect (R125). -/
def Obligations.ZoneRowRecomposeComposesOneRoom : Prop :=
  ∀ s : State, s.ports.powerGood = true →
    (∀ (r : RoomNo) (g : Nat) (rest : List Nat),
      (s.deliveries.recompose = some ⟨g, r.val⟩ ∧ rest = s.deliveries.faceBoundaries) ∨
        (r.val = 0 ∧ s.deliveries.recompose = none ∧ s.deliveries.faceBoundaries = g :: rest) →
      s.clock.state = .running →
      ∃ t, exec (.zoneRowRecompose 1) s = .next t ∧
        t = { s with composer := t.composer,
                     deliveries := { s.deliveries with
                       faceBoundaries := rest
                       recompose := if r.val < 95 then some ⟨g, r.val + 1⟩ else none } } ∧
        t.composer.roomMarks = s.composer.roomMarks.set r false ∧
        ∀ a, let f := s.composer.faces.get a
          let f' := t.composer.faces.get a
          ((s.panels.get a).room? ≠ some r → f' = f) ∧
          ((s.panels.get a).room? = some r →
            f' = { f with own := f'.own, dirty := f'.dirty } ∧
            (∀ i : Fin 8, f'.dirty.get i =
              (f.dirty.get i || (f.selection == .none && decide (f.own.get i ≠ f'.own.get i)))) ∧
            f'.own.get 0 = zoneRow0 s r g ∧
            f'.own.get 1 = (if s.composer.roomMarks.get r then zoneRow1 s r else f.own.get 1) ∧
            f'.own.get 2 = (if s.composer.roomMarks.get r then zoneRow2 s r else f.own.get 2) ∧
            f'.own.get 3 = (if s.composer.roomMarks.get r then zoneRow3 s r else f.own.get 3) ∧
            ∀ i : Fin 8, 4 ≤ i.val → f'.own.get i = f.own.get i)) ∧
    (∀ (r : RoomNo) (g : Nat) (current next : Option Record), CurrentIs (s.listed r) current →
      NextIs (s.listed r) current next →
      StatusShown s r g current next (zoneRow0 s r g) ∧
      RowShows (zoneRow1 s r) [(0, .normal, (current.bind fun b => b.title).getD [0x2D#8])] ∧
      RowShows (zoneRow2 s r) (match current with
        | some b => [(0, .normal, timeGlyphs b.qs), (5, .normal, [0x2D#8]), (6, .normal, timeGlyphs b.qe)]
        | none => []) ∧
      RowShows (zoneRow3 s r) (match next with
        | some b => [(0, .accent, glyphsOfText "NEXT"), (5, .normal, timeGlyphs b.qs),
                     (11, .normal, (b.title.getD []).take 13)]
        | none => [])) ∧
    (s.clock.state ≠ .running ∨ (s.deliveries.recompose = none ∧ s.deliveries.faceBoundaries = []) →
      ∀ pieces, exec (.zoneRowRecompose pieces) s = .next s)

/-- PANEL_TEXT (R128 to R130): MALFORMED by its form, NO_FREE_ROWS where the panel is no DOOR panel, and else DONE. Its
units are applied in turn to that panel's face alone, each to the free area and rows as those before it left them:
WINDOW, CURSOR, MODE, ATTR, GLYPHS, CLEAR, LEVEL with its LEVEL_VALUE and END do what R129 and R130 give them, and
the units after END, a LEVEL_VALUE with no LEVEL before it, and codes that name no value are ignored. The answer
counts the units applied, clamped, abandoned and ignored; a LEVEL that still waits at the end is abandoned. Where
the free area lies in rows 4 to 7 it goes on doing so, and the zone rows stand. The rows marked dirty are those, and
for a change of the level row 0, that differ after the whole request from before it, which is the model's choice
(notes/assumptions/38.md), as is that none is marked while an overlay is shown in its place
(notes/assumptions/60.md). PANEL_OVERLAY (R132): MALFORMED out of range, and else DONE: the server choice of the
faces named is set, a face whose selection changes being wholly marked (R126), and the answer counts those. -/
def Obligations.PanelTextAndOverlayChangeTheFacesNamed : Prop :=
  ∀ (via : Via) (s : State), s.taking = true →
    (∀ (n : Nat) (units : Bytes), (n = 0 ∨ 112 < n ∨ readText units = none ∨ readText units = some [] →
      exec (.panelText via n units) s = .next (respond via .panelText ⟨.malformed, none, []⟩ s))) ∧
    (∀ (a : Addr) (units : Bytes) (us : List TextUnit), readText units = some us → us ≠ [] →
      ((s.panels.get a).kind ≠ .door → exec (.panelText via (a.val + 1) units) s =
        .next (respond via .panelText ⟨.refused, some .noFreeRows, []⟩ s)) ∧
      ((s.panels.get a).kind = .door →
        let f := s.composer.faces.get a
        let inRange (a : FreeArea) : Prop := 4 ≤ a.top ∧ a.top ≤ a.row ∧ a.row ≤ a.bottom ∧ a.bottom ≤ 7
        ∃ (t : State) (run : Nat → TextRun), exec (.panelText via (a.val + 1) units) s = .next t ∧
          run 0 = ⟨f.own, f.area, ⟨0, 0, 0, 0⟩, false, false⟩ ∧
          (∀ (i : Nat) (u : TextUnit), us[i]? = some u → UnitTaken (run i) u (run (i + 1))) ∧
          t = { s with composer := t.composer, ports := t.ports } ∧
          t.composer = { s.composer with faces := s.composer.faces.set a (t.composer.faces.get a) } ∧
          (let f' := t.composer.faces.get a
           let last := run us.length
           let n := last.counts
           let abandoned := n.abandoned + if last.expected then 1 else 0
           f' = { f with own := last.own, dirty := f'.dirty, area := last.area } ∧
           (∀ i : Fin 8, f'.dirty.get i =
             (f.dirty.get i || (f.selection == .none && decide (f.own.get i ≠ f'.own.get i)) ||
               (i == 0 && decide (f.area.level ≠ f'.area.level)))) ∧
           (inRange f.area → inRange f'.area ∧ ∀ i : Fin 8, i.val < 4 → f'.own.get i = f.own.get i) ∧
           n.applied + abandoned + n.ignored = us.length ∧ n.clamped ≤ n.applied ∧
           Answered via .panelText
             (.done (word16 n.applied ++ word16 n.clamped ++ word16 abandoned ++ word16 n.ignored)) s t))) ∧
    (∀ target choice : Nat, target = 0 ∨ (112 < target ∧ target ≠ 255) ∨ (7 < choice ∧ choice ≠ 255) →
      exec (.panelOverlay via target choice) s = .next (respond via .panelOverlay ⟨.malformed, none, []⟩ s)) ∧
    ∀ (target : Option Addr) (choice : Option OverlayNo),
      ∃ t, exec (.panelOverlay via ((target.map fun a => a.val + 1).getD 255)
          ((choice.map fun k => k.val).getD 255)) s = .next t ∧
        t = { s with composer := t.composer, ports := t.ports } ∧
        t.composer = { s.composer with faces := t.composer.faces } ∧
        (let moves (a : Addr) : Bool := (target.isNone || target == some a) &&
           decide ((s.composer.faces.get a).selection ≠ (t.composer.faces.get a).selection)
         (∀ a, t.composer.faces.get a =
           (let f := s.composer.faces.get a
            if target = none ∨ target = some a then
              { f with server := choice, dirty := if moves a then Tab.fill 8 true else f.dirty }
            else f)) ∧
         Answered via .panelOverlay (.done (word16 ((List.finRange 112).filter moves).length)) s t)

/-! ## The panel loop (chapter 9) -/

/-- A LOOP_ECHO waits for the ring where the loop is UP and no echo is, and else is refused LOOP_NOT_UP or answered BUSY
(R150). The receiver's PRESENT starts a DOWN loop SYNCING; its ABSENT sets the latch, and takes a loop that is not
DOWN there, raising LOOP_SIGNAL_LOST and abandoning the awaited frame with no miss counted; an echo that waits is
then refused (R137, R142, R150). That LOOP_SIGNAL_LOST is raised before that echo is answered is the model's choice
(notes/assumptions/22.md), as is that a beacon held back is dropped (notes/assumptions/58.md). -/
def Obligations.EchoRequestsAndSignalReports : Prop :=
  ∀ (via : Via) (s : State),
    (s.taking = true →
      (s.loop.state ≠ .up →
        exec (.loopEcho via) s = .next (respond via .loopEcho ⟨.refused, some .loopNotUp, []⟩ s)) ∧
      (s.loop.state = .up → s.loop.echo = .none →
        exec (.loopEcho via) s = .next { s with loop := { s.loop with echo := .waiting via } }) ∧
      (s.loop.state = .up → s.loop.echo ≠ .none →
        exec (.loopEcho via) s = .next (respond via .loopEcho ⟨.busy, none, []⟩ s))) ∧
    (s.ports.powerGood = true → s.ports.resetAsserted = false →
      exec .signalPresent s = .next { s with loop := { s.loop with
        signal := true
        state := if s.loop.state = .down then .syncing else s.loop.state
        fresh := decide (s.loop.state = .down) || s.loop.fresh } }) ∧
    (s.ports.powerGood = true → s.loop.state = .down →
      exec .signalAbsent s = .next { s with loop := { s.loop with signal := false, lossLatch := true } }) ∧
    (s.ports.powerGood = true → s.loop.state ≠ .down →
      ∃ t, exec .signalAbsent s = .next t ∧
        t = { s with loop := t.loop, panels := t.panels, composer := t.composer, exceptions := t.exceptions,
                     ports := t.ports } ∧
        t.loop = { s.loop with signal := false, lossLatch := true, state := .down, awaited := none,
                               held := none, echo := t.loop.echo } ∧
        t.exceptions = (raise .loopSignalLost .none none (BitVec.ofNat 32 s.loop.state.code) s).exceptions ∧
        (∀ a, (t.panels.get a).misses = (s.panels.get a).misses ∧ (t.panels.get a).state = (s.panels.get a).state) ∧
        (s.loop.awaited = none → t.panels = s.panels ∧ t.composer = s.composer ∧
          (∀ v, s.loop.echo = .waiting v → t.loop.echo = .none ∧
            Answered v .loopEcho ⟨.refused, some .loopNotUp, []⟩ s t) ∧
          ((∀ v, s.loop.echo ≠ .waiting v) → t.ports = s.ports)))

/-- A window opens (R138): the next of the cycle, or window 0 where the cycle ends or the loop has left DOWN, which
takes the settings anew, the window time raised to twice the return timeout (R136), and with them the panels' table
windows. The counts of calls return to 0, and a BEACON of the clock and the panels served goes out and is awaited.
An own frame whose return timeout has run out is timed out before. A DOWN loop opens none. Points of the model's:
where a forwarded frame keeps loop-out (R145), or an own frame held back by one is awaited still, the beacon is held
back with the contents it was due with, in place of one held back before (notes/assumptions/58.md); that the table
windows are taken at the cycle start is its reading of R143 (notes/assumptions/24.md). -/
def Obligations.WindowOpenSendsTheBeacon : Prop :=
  ∀ (now : Nat) (s : State), s.ports.powerGood = true → s.ports.resetAsserted = false →
    (s.loop.state = .down → exec (.windowOpen now) s = .next s) ∧
    (∀ w u, s.loop.state ≠ .down → s.loop.awaited = some w → w.sentAt + 1000 * s.loop.active.timeout ≤ now →
      exec .returnTimeout s = .next u → exec (.windowOpen now) s = exec (.windowOpen now) u) ∧
    (s.loop.state ≠ .down →
      (∀ w, s.loop.awaited = some w → now < w.sentAt + 1000 * s.loop.active.timeout) →
      let l := s.loop
      let free := l.awaited = none ∧ s.ports.loopBusyUntil ≤ now
      let last := l.fresh = false ∧ l.active.windows ≤ l.currentWindow + 1
      let first := l.fresh = true ∨ last
      let active : LoopSettings :=
        if first then { s.settings with windowTime :=
          if s.settings.windowTime < 2 * s.settings.timeout then 2 * s.settings.timeout else s.settings.windowTime }
        else l.active
      let w := if first then 0 else l.currentWindow + 1
      let count := if last then (l.cycleCount + 1) % 256 else l.cycleCount
      let served := (List.finRange 112).filter fun a =>
        (s.panels.get a).kind != .unbound &&
          ((if first then (s.panels.get a).window else (s.panels.get a).cycleWindow).getD (a.val + 1) %
            active.windows == w)
      let payload : Bytes :=
        [byte w, byte active.windows, byte count] ++ word16 s.clock.day ++ word16 s.clock.minute ++
          [byte s.clock.second, if s.clock.state = .running then 1#8 else 0#8, byte served.length] ++
          served.map fun a => byte (a.val + 1)
      exec (.windowOpen now) s = .next
        { s with
          loop := { l with
            active := active, currentWindow := w, cycleCount := count, fresh := false, openedAt := now,
            cursor := 0
            sequence := if free then (l.sequence + 1) % 16 else l.sequence
            awaited := if free then some ⟨.beacon, l.sequence, now, false⟩ else l.awaited
            held := if free then none else some payload }
          panels := s.panels.map fun p => { p with
            callsInWindow := 0, served := false, cycleWindow := if first then p.window else p.cycleWindow }
          ports := { s.ports with loopOut :=
            if free then s.ports.loopOut ++ [LoopFrame.bytes ⟨0, 0, 1, byte l.sequence, payload⟩]
            else s.ports.loopOut } })

/-- The loop-out is offered (R139). Nothing is sent while an own frame is awaited or a frame sent on keeps loop-out
(R145). A beacon held back is sent first, however little of its window is left, which is the model's choice
(notes/assumptions/58.md). Else nothing is sent unless the loop is UP and one return timeout is left of the window.
An echo that waits goes first (R150), and is IN_FLIGHT from then. Else the panels of the window are visited in
ascending address, after the one last served first and then from the lowest on, and the first that has a frame is
sent it: its oldest READY reply (R148), else its oldest TICKET frame whose ticket still stands, those before it
being dropped (R149), else its lowest dirty row (R126), else, where it is ABSENT, its row 0. An ABSENT panel that
has been sent a frame in this window is passed over (R139). The frame has origin 0 and the next sequence (R135), and
is awaited from now (R140). Where no panel of the window has one, nothing is sent. That the round begins after each
window opening, and begins anew then, is the model's choice (notes/assumptions/43.md), as is that the one frame of
an ABSENT panel may be one sent while it was PRESENT (notes/assumptions/23.md). -/
def Obligations.OwnFrameSendServesTheNextPanel : Prop :=
  ∀ (now : Nat) (s : State), s.ports.powerGood = true → s.ports.resetAsserted = false →
    let free := s.loop.awaited = none ∧ s.ports.loopBusyUntil ≤ now
    let start := free ∧ s.loop.held = none ∧ s.loop.state = .up ∧
      now + 1000 * s.loop.active.timeout ≤ s.loop.openedAt + 1000 * s.loop.active.windowTime
    let sent (c : Carried) (destination kind : Nat) (payload : Bytes) (l : Loop) (t : State) : Prop :=
      t.loop = { l with sequence := (s.loop.sequence + 1) % 16,
                        awaited := some ⟨c, s.loop.sequence, now, false⟩ } ∧
      t.ports = { s.ports with loopOut := s.ports.loopOut ++
        [LoopFrame.bytes ⟨destination, 0, kind, byte s.loop.sequence, payload⟩] }
    let ready (e : ReplyEntry) : Bool := match e.state with
      | .ready _ => true
      | _ => false
    let live (k : TicketFrame) : Bool := (s.catering.tickets.get k.kitchen).any fun u => u.booking == k.booking
    let offered (x : Addr) (i : Fin 8) : Prop := (s.composer.faces.get x).dirty.get i = true ∧
      (s.composer.faces.get x).inFlight.get i = false
    let mine (x : Addr) : Bool := decide ((s.panels.get x).kind ≠ .unbound) &&
      decide ((s.panels.get x).cycleWindow.getD (x.val + 1) % s.loop.active.windows = s.loop.currentWindow) &&
      !(decide ((s.panels.get x).state = .absent) && (s.panels.get x).served)
    let rank (x : Addr) : Nat := if s.loop.cursor ≤ x.val then x.val else x.val + 112
    let idle (x : Addr) : Prop := (s.panels.get x).state ≠ .absent ∧ (∀ i, ¬ offered x i) ∧
      (∀ e, e ∈ (s.panels.get x).replies → ready e = false) ∧ ∀ k, k ∈ (s.panels.get x).tickets → live k = false
    (¬ start → ¬ free ∨ s.loop.held = none → exec (.ownFrameSend now) s = .next s) ∧
    (free → s.loop.state ≠ .down → ∀ payload, s.loop.held = some payload → ∃ t,
      exec (.ownFrameSend now) s = .next t ∧ t = { s with loop := t.loop, ports := t.ports } ∧
      sent .beacon 0 1 payload { s.loop with held := none } t) ∧
    (start → ∀ via, s.loop.echo = .waiting via → ∃ t, exec (.ownFrameSend now) s = .next t ∧
      t = { s with loop := t.loop, ports := t.ports } ∧
      sent (.echo via) 0 5 [] { s.loop with echo := .inFlight via } t) ∧
    (start → (∀ via, s.loop.echo ≠ .waiting via) →
      ((∀ x, mine x = true → idle x) → ∃ t, exec (.ownFrameSend now) s = .next t ∧
        t = { s with loop := { s.loop with cursor := 0 }, panels := t.panels } ∧
        ∀ x, t.panels.get x = if mine x then { s.panels.get x with tickets := [] } else s.panels.get x) ∧
      ∀ a : Addr, mine a = true → ¬ idle a → (∀ x, mine x = true → rank x < rank a → idle x) →
        let p := s.panels.get a
        let face := s.composer.faces.get a
        let served (p' : Panel) (t : State) : Prop := ∀ x, t.panels.get x =
          if x = a then { p' with served := true }
          else if mine x && decide (rank x < rank a) then { s.panels.get x with tickets := [] }
          else s.panels.get x
        let left := p.tickets.dropWhile fun k => !live k
        let l : Loop := { s.loop with cursor := a.val + 1 }
        (∀ e x, p.replies.find? ready = some e → e.state = .ready x → ∃ t, exec (.ownFrameSend now) s = .next t ∧
          t = { s with loop := t.loop, panels := t.panels, ports := t.ports } ∧
          served { p with replies := p.replies.map fun q =>
            if q.serial = e.serial then { q with state := .inFlight x } else q } t ∧
          sent (.reply a e.serial) (a.val + 1) 4 (replyPayload e x) l t) ∧
        (p.replies.find? ready = none →
          (∀ k ks, left = k :: ks → ∃ t, exec (.ownFrameSend now) s = .next t ∧
            t = { s with loop := t.loop, panels := t.panels, ports := t.ports } ∧ served { p with tickets := left } t ∧
            sent (.ticket a k.booking) (a.val + 1) 3 (ticketPayload k) l t) ∧
          (left = [] → ∀ i : Fin 8,
            (offered a i ∧ ∀ j : Fin 8, j < i → ¬ offered a j) ∨ (i = 0 ∧ ∀ j, ¬ offered a j) →
            ∃ t, exec (.ownFrameSend now) s = .next t ∧
              t = { s with loop := t.loop, panels := t.panels, composer := t.composer, ports := t.ports } ∧
              served { p with tickets := [] } t ∧
              (let face' : Face := { face with dirty := face.dirty.set i false
                                               inFlight := face.inFlight.set i true }
               t.composer = { s.composer with faces := s.composer.faces.set a face' }) ∧
              sent (.face a i) (a.val + 1) 2
                ([byte i.val, byte face.area.level] ++ rowImage ((shownRows s.overlays face).get i)) l t)))

/-- A frame of origin 0 that comes home in time with the awaited sequence ends the awaiting and returns the loop's miss
count to 0 (R141): a beacon brings a SYNCING or BROKEN loop UP, from BROKEN marking every face (R137); a FACE row, a
REPLY and a TICKET frame leave their queues where they were taken, a TICKET frame replaced meanwhile excepted, and
wait again where they were not (R126, R148, R149). A taken frame makes its panel PRESENT with no misses, an ABSENT
one raising PANEL_RETURNED with its face wholly marked; an untaken one is a miss, the third making a PRESENT panel
ABSENT with PANEL_SILENT of detail 0 (R144). A MUTED panel stands, and so does one whose record is stale (R140). An
echo is answered (R150). Any other frame is stripped, with ROGUE_FRAME of detail 2; one whose check word fails is
counted as a check failure alone (R135). That a return at the very end of its timeout is in time, and that a round
trip lasts 1 at least, are the model's choices (notes/assumptions/41.md). -/
def Obligations.OwnFrameReturnEndsTheAwaiting : Prop :=
  ∀ (bytes : Bytes) (now : Nat) (s : State), s.ports.powerGood = true → s.ports.resetAsserted = false →
    let i : Instr := .ownFrameReturn bytes now
    (readLoop bytes = none → exec i s = .next
      { s with loop := { s.loop with checkFailures := min (s.loop.checkFailures + 1) 65535 } }) ∧
    ∀ f : LoopFrame, readLoop bytes = some f → f.origin = 0 →
      let home (w : Awaited) : Prop := s.loop.awaited = some w ∧ f.flags.toNat % 16 = w.sequence ∧
        now ≤ w.sentAt + 1000 * s.loop.active.timeout
      let l : Loop := { s.loop with awaited := none, misses := 0 }
      ((∀ w, ¬ home w) → ∃ t, exec i s = .next t ∧
        t = { s with loop := { s.loop with strays := min (s.loop.strays + 1) 65535 }, exceptions := t.exceptions } ∧
        t.exceptions = (raise .rogueFrame (.panel 0) none 2#32 s).exceptions) ∧
      ∀ w, home w →
        (w.carried = .beacon → ∃ t, exec i s = .next t ∧ t = { s with loop := t.loop, composer := t.composer } ∧
          t.loop = { l with
            state := if s.loop.state = .syncing ∨ s.loop.state = .broken then .up else s.loop.state } ∧
          t.composer.roomMarks = s.composer.roomMarks ∧
          ∀ a, t.composer.faces.get a =
            (let face := s.composer.faces.get a
             if s.loop.state = .broken then { face with dirty := Tab.fill 8 true } else face)) ∧
        (∀ via, w.carried = .echo via → ∃ t, exec i s = .next t ∧
          t = { s with loop := { l with echo := .none }, ports := t.ports } ∧
          Answered via .loopEcho (.done ([0#8, 0#8, 0#8, 0#8] ++ word32 (max (now - w.sentAt) 1))) s t) ∧
        ∀ a : Addr,
          let p := s.panels.get a
          let taken : Bool := f.flags.getLsbD 7
          let returned : Bool := !w.stale && taken && decide (p.state = .absent)
          let silent : Bool := !w.stale && !taken && decide (p.state = .present) && decide (2 ≤ p.misses)
          let judged (q : Panel) : Panel :=
            if w.stale || decide (q.state = .muted) then q
            else if taken then { q with state := .present, misses := 0 }
            else if q.state = .absent then q
            else { q with misses := q.misses + 1, state := if 3 ≤ q.misses + 1 then .absent else q.state }
          let ends (p' : Panel) (t : State) : Prop :=
            t = { s with loop := l, panels := t.panels, composer := t.composer, exceptions := t.exceptions } ∧
            t.panels = s.panels.set a (judged p') ∧
            t.exceptions =
              (if returned then (raise .panelReturned (.panel (a.val + 1)) none 0#32 s).exceptions
               else if silent then (raise .panelSilent (.panel (a.val + 1)) none 0#32 s).exceptions
               else s.exceptions)
          let face := s.composer.faces.get a
          let shows (face' : Face) (t : State) : Prop := t.composer = { s.composer with
            faces := s.composer.faces.set a (if returned then { face' with dirty := Tab.fill 8 true } else face') }
          (∀ row, w.carried = .face a row → ∃ t, exec i s = .next t ∧ ends p t ∧
            shows { face with inFlight := face.inFlight.set row false
                              dirty := if taken then face.dirty else face.dirty.set row true } t) ∧
          (∀ serial, w.carried = .reply a serial → ∃ t, exec i s = .next t ∧ shows face t ∧
            ends { p with replies := if w.stale then p.replies
                                     else if taken then p.replies.filter fun e => e.serial != serial
                                     else p.replies.map fun e => if e.serial = serial then e.back else e } t) ∧
          ∀ id, w.carried = .ticket a id → ∃ t, exec i s = .next t ∧ shows face t ∧
            (let left := if taken then p.tickets.filter fun e => e.booking != id || e.replaced else p.tickets
             let left := left.map fun e => if e.booking = id then { e with replaced := false } else e
             ends { p with tickets := if w.stale then p.tickets else left } t)

/-- The return timeout of the awaited frame, whatever it carried (R142): the awaiting ends, and the loop's miss count
rises, to 255 at most. A FACE row is dirty again, a REPLY entry READY again at its place, a TICKET entry stays, and
an echo is answered TIMEOUT (R150); for a stale record the entry is gone and nothing is done (R140). A FACE, REPLY
or TICKET frame is a panel miss, which leaves an ABSENT or MUTED panel as it is; the third makes a PRESENT panel
ABSENT with PANEL_SILENT of detail 1 (R144). In UP the third loop miss in a row makes the loop BROKEN, raising
LOOP_BREAK with the frame's destination, 0 for a beacon or echo, and refuses an echo that waits LOOP_NOT_UP (R150);
in SYNCING and BROKEN a miss is counted and no more. Where no frame is awaited nothing happens. That PANEL_SILENT
comes before LOOP_BREAK, and both before the echo is answered, is the model's choice (notes/assumptions/22.md). -/
def Obligations.ReturnTimeoutCountsTheMiss : Prop :=
  ∀ s : State, s.ports.powerGood = true → s.ports.resetAsserted = false →
    (s.loop.awaited = none → exec .returnTimeout s = .next s) ∧
    ∀ w, s.loop.awaited = some w →
      let misses := min (s.loop.misses + 1) 255
      let breaks : Bool := decide (s.loop.state = .up) && decide (3 ≤ misses)
      let destination : Nat := match w.carried with
        | .face a _ | .reply a _ | .ticket a _ => a.val + 1
        | .beacon | .echo _ => 0
      let addressed (a : Addr) : Bool := !w.stale && destination == a.val + 1
      let judged (p : Panel) : Panel :=
        if p.state = .absent ∨ p.state = .muted then p
        else { p with misses := p.misses + 1, state := if 3 ≤ p.misses + 1 then .absent else p.state }
      let back (p : Panel) : Panel := match w.carried with
        | .reply _ serial => { p with replies := p.replies.map fun e => if e.serial = serial then e.back else e }
        | .ticket _ id => { p with tickets := p.tickets.map fun e =>
            if e.booking = id then { e with replaced := false } else e }
        | .face _ _ | .beacon | .echo _ => p
      let fellSilent (a : Addr) : Bool := addressed a && decide ((s.panels.get a).state = .present) &&
        decide (2 ≤ (s.panels.get a).misses)
      ∃ (t : State) (silenced : State), exec .returnTimeout s = .next t ∧
        t = { s with loop := t.loop, panels := t.panels, composer := t.composer, exceptions := t.exceptions,
                     ports := t.ports } ∧
        t.loop = { s.loop with awaited := none, misses := misses, echo := t.loop.echo,
                               state := if breaks then .broken else s.loop.state } ∧
        (∀ a, t.panels.get a = if addressed a then judged (back (s.panels.get a)) else s.panels.get a) ∧
        (∀ a row, w.carried = .face a row →
          (let face := s.composer.faces.get a
           let face' : Face := { face with inFlight := face.inFlight.set row false
                                           dirty := face.dirty.set row true }
           t.composer = { s.composer with faces := s.composer.faces.set a face' })) ∧
        ((∀ a row, w.carried ≠ .face a row) → t.composer = s.composer) ∧
        (∀ a, fellSilent a = true → silenced = raise .panelSilent (.panel (a.val + 1)) none 1#32 s) ∧
        ((∀ a, fellSilent a = false) → silenced = s) ∧
        t.exceptions = (if breaks then
          (raise .loopBreak .none none (BitVec.ofNat 32 destination) silenced).exceptions else silenced.exceptions) ∧
        (∀ via, w.carried = .echo via → t.loop.echo = .none ∧
          Answered via .loopEcho (.done ([1#8, 0#8, 0#8, 0#8] ++ word32 0)) s t) ∧
        ((∀ via, w.carried ≠ .echo via) →
          (∀ via, breaks = true → s.loop.echo = .waiting via → t.loop.echo = .none ∧
            Answered via .loopEcho ⟨.refused, some .loopNotUp, []⟩ s t) ∧
          (breaks = false ∨ (∀ via, s.loop.echo ≠ .waiting via) →
            t.loop.echo = s.loop.echo ∧ t.ports = s.ports))

/-- A frame of another origin at loop-in (R145), by the first line that applies: no panel's address, an unbound panel's,
one not for the part and already seen, one not for the part, which is sent on with its seen mark, and one for the
part that is no CALL. The frames stripped are counted as strays and raise ROGUE_FRAME; a CALL is judged as the
command of its fields. A frame sent on goes out after what has been sent, and keeps loop-out from the own frames
that have not, for a time that is a free value of the model's (notes/assumptions/58.md). A frame whose check word
fails is counted as a check failure alone, and one of origin 0, also a CALL of that origin, is matched as an own
frame (R135): when a CALL by its fields comes home, which its command does not say, is a free value of the model's
(notes/assumptions/21.md). -/
def Obligations.PanelFrameIsStrippedOrSentOn : Prop :=
  ∀ (bytes : Bytes) (now : Nat) (s : State), s.ports.powerGood = true → s.ports.resetAsserted = false →
    let i : Instr := .panelFrame bytes now
    let rogue (subject detail : Nat) : Prop := ∃ t, exec i s = .next t ∧
      t = { s with loop := { s.loop with strays := min (s.loop.strays + 1) 65535 }, exceptions := t.exceptions } ∧
      t.exceptions = (raise .rogueFrame (.panel subject) none (BitVec.ofNat 32 detail) s).exceptions
    (readLoop bytes = none → exec i s = .next
      { s with loop := { s.loop with checkFailures := min (s.loop.checkFailures + 1) 65535 } }) ∧
    ∀ f : LoopFrame, readLoop bytes = some f →
      (f.origin = 0 → exec i s = exec (.ownFrameReturn bytes now) s) ∧
      (f.origin = 0 → f.destination = 0 → f.kind = 6 → f.flags.toNat < 16 →
        exec (.call 0 f.flags.toNat f.payload) s =
          exec (.ownFrameReturn bytes (Config.callTime ((s.loop.awaited.map fun w => w.sentAt).getD 0))) s) ∧
      (f.origin ≠ 0 → f.destination = 0 → f.kind = 6 →
        exec i s = exec (.call f.origin (f.flags.toNat % 16) f.payload) s) ∧
      (112 < f.origin → rogue 0 4) ∧
      ∀ a : Addr, f.origin = a.val + 1 →
        ((s.panels.get a).kind = .unbound → rogue f.origin 0) ∧
        ((s.panels.get a).kind ≠ .unbound →
          (f.destination ≠ 0 → f.flags.getLsbD 6 = true → rogue f.origin 1) ∧
          (f.destination ≠ 0 → f.flags.getLsbD 6 = false →
            let bytes := LoopFrame.bytes { f with flags := f.flags ||| 0x40#8 }
            exec i s = .next { s with ports := { s.ports with
              loopOut := s.ports.loopOut ++ [bytes]
              loopBusyUntil := max s.ports.loopBusyUntil now + Config.forwardTime s.ports.forwards
              forwards := s.ports.forwards + 1 } }) ∧
          (f.destination = 0 → f.kind ≠ 6 → rogue f.origin 3))

/-- A CALL of a bound panel (R146), whose window is that of R138 and R143: stripped alone where the loop is not UP or
the panel MUTED; outside its window, or the third in it, a WINDOW_VIOLATION, the third in a row muting the panel
(R144). One taken in clears the violations and is counted, and makes an UNKNOWN or ABSENT panel PRESENT with no
misses, from ABSENT with PANEL_RETURNED and its face wholly marked (R144); with four replies unanswered it is a
CALL_OVERRUN; else its place among the replies is made first (R147), and a door panel's tap is handed to the store,
its BOOK_NOW, EXTEND and END_NOW to the admission queue or answered BUSY (R48, R49), a pantry panel's ACCEPT and
DELIVERED to the scheduler, and any other call is answered MALFORMED. That a panel's window is the one that the
cycle's start read is the model's reading (notes/assumptions/24.md). -/
def Obligations.CallIsTakenInItsPanelsWindow : Prop :=
  ∀ (a : Addr) (sequence : Nat) (payload : Bytes) (s : State), s.ports.powerGood = true →
    s.ports.resetAsserted = false → (s.panels.get a).kind ≠ .unbound → sequence < 16 →
    requiredPayload 6 payload ≤ payload.length →
    let i : Instr := .call (a.val + 1) sequence payload
    let p := s.panels.get a
    let stripped : Loop := { s.loop with strays := min (s.loop.strays + 1) 65535 }
    let mine := p.cycleWindow.getD (a.val + 1) % s.loop.active.windows = s.loop.currentWindow ∧ p.callsInWindow < 2
    (s.loop.state ≠ .up ∨ p.state = .muted → exec i s = .next { s with loop := stripped }) ∧
    (s.loop.state = .up → p.state ≠ .muted → ¬ mine → ∃ t, exec i s = .next t ∧
      t = { s with loop := stripped, panels := t.panels, exceptions := t.exceptions } ∧
      t.panels = s.panels.set a { p with
        violations := p.violations + 1, state := if p.violations + 1 < 3 then p.state else .muted } ∧
      t.exceptions.counters.get 14 = min (s.exceptions.counters.get 14 + 1) 65535 ∧
      t.exceptions.counters.get 13 =
        (if p.violations + 1 < 3 then s.exceptions.counters.get 13
         else min (s.exceptions.counters.get 13 + 1) 65535)) ∧
    (s.loop.state = .up → p.state ≠ .muted → mine →
      let p' : Panel := { p with violations := 0, callsInWindow := p.callsInWindow + 1, state := .present,
                                 misses := if p.state = .present then p.misses else 0 }
      let face' : Face := { s.composer.faces.get a with dirty := Tab.fill 8 true }
      let seen : State := if p.state = .absent then
        { s with exceptions := (raise .panelReturned (.panel (a.val + 1)) none 0#32 s).exceptions
                 composer := { s.composer with faces := s.composer.faces.set a face' } }
        else s
      let n := s.deliveries.nextSerial
      let entry (st : ReplyState) : ReplyEntry := ⟨n, byteAt payload 0, sequence, st⟩
      let held (st : ReplyState) (t : State) : Prop :=
        t.panels = s.panels.set a { p' with replies := p.replies ++ [entry st] }
      (4 ≤ p.replies.length → ∃ t, exec i s = .next t ∧
        t = { seen with loop := stripped, panels := s.panels.set a p', exceptions := t.exceptions } ∧
        t.exceptions =
          (raise .callOverrun (.panel (a.val + 1)) none (BitVec.ofNat 32 (byteAt payload 0)) seen).exceptions) ∧
      (p.replies.length < 4 → (∀ e, e ∈ p.replies → e.serial ≠ n) →
        let d : Deliveries := { s.deliveries with nextSerial := n + 1 }
        (∀ r : RoomNo, p.kind = .door → p.binding = r.val →
          let queued (q : Request) : Prop := ∃ t, exec i s = .next t ∧
            t = { seen with panels := t.panels, engine := t.engine, deliveries := d } ∧
            (s.engine.queue.length < 16 → held .waiting t ∧ t.engine = (joinQueue q s).engine) ∧
            (16 ≤ s.engine.queue.length → held (.ready ⟨.busy, none, none, none⟩) t ∧ t.engine = s.engine)
          (byteAt payload 0 = 1 → ∃ t, exec i s = .next t ∧ held .waiting t ∧
            t = { seen with panels := t.panels, deliveries := { d with
              taps := d.taps ++ [⟨⟨a, n⟩, r, BitVec.ofNat 32 (word32At payload 1)⟩] } }) ∧
          (byteAt payload 0 = 2 → 1 ≤ byteAt payload 1 → byteAt payload 1 ≤ 4 →
            queued (.bookNow ⟨a, n⟩ r (byteAt payload 1))) ∧
          (byteAt payload 0 = 3 → queued (.extend ⟨a, n⟩ r)) ∧
          (byteAt payload 0 = 4 → queued (.endNow ⟨a, n⟩ r)) ∧
          ((byteAt payload 0 = 2 ∧ ¬ (1 ≤ byteAt payload 1 ∧ byteAt payload 1 ≤ 4)) ∨ byteAt payload 0 = 0 ∨
              5 ≤ byteAt payload 0 →
            ∃ t, exec i s = .next t ∧ t = { seen with panels := t.panels, deliveries := d } ∧
              held (.ready ⟨.malformed, none, none, none⟩) t)) ∧
        (∀ k : KitchenNo, p.kind = .pantry → p.binding = k.val →
          (byteAt payload 0 = 5 ∨ byteAt payload 0 = 6 → ∃ t, exec i s = .next t ∧ held .waiting t ∧
            t = { seen with panels := t.panels, deliveries := { d with
              pantryCalls := d.pantryCalls ++
                [⟨⟨a, n⟩, k, BitVec.ofNat 16 (word16At payload 1), byteAt payload 0 == 6⟩] } }) ∧
          (byteAt payload 0 < 5 ∨ 6 < byteAt payload 0 →
            ∃ t, exec i s = .next t ∧ t = { seen with panels := t.panels, deliveries := d } ∧
              held (.ready ⟨.malformed, none, none, none⟩) t))))

/-! ## Resets (chapter 11, with R12, R14, R46, R52, R87, R103, R120, R134, R151 and R161) -/

/-- A PART_RESET is answered first, and its line reset is then due (R169). The line reset, by PART_RESET or by the reset
line, empties the store (R46), the engine (R52), the loads and ticket lists (R120), the panels' queues and states
(R151), the notices and latches (R161), opens the kitchens (R103), clears the vacate-pending flags (R14) and
composes the faces anew (R134). It keeps the clock (R12), the tables, the settings and the counters, and reads the
straps. A response that has not begun to leave is discarded (R168, R169): how many of those made last have not is a
free value of the model's (notes/assumptions/6.md). With the signal PRESENT the loop is SYNCING at once (R151), but
DOWN while the reset line is asserted. Further choices of the model's: the active settings stand
(notes/assumptions/18.md), the loop starts on the release of the line (notes/assumptions/26.md), LINE_RESET acts
also where none is due (notes/assumptions/27.md). -/
def Obligations.LineResetEmptiesTheBlocksAndKeepsTheTables : Prop :=
  ∀ (via : Via) (straps : Fin 8) (s : State),
    (s.taking = true → ∃ t, exec (.partReset via) s = .next t ∧ t = { s with ports := t.ports } ∧
      t.ports.resetDue = true ∧ t.ports.unsent = 0 ∧ Answered via .partReset (.done []) s
        { t with ports := { t.ports with
          resetDue := s.ports.resetDue, unsent := s.ports.unsent + if s.ports.uplinkUp then 1 else 0 } }) ∧
    (s.ports.powerGood = true → s.exceptions.holds = [] →
      let reset (asserted : Bool) (t : State) : Prop :=
        t.clock = s.clock ∧ t.menu = s.menu ∧ t.profile = s.profile ∧ t.overlays = s.overlays ∧
        t.dispositions = s.dispositions ∧ t.settings = s.settings ∧ t.pending = s.pending ∧
        (∀ r, t.rooms.get r = { s.rooms.get r with vacatePending := false }) ∧
        (∀ k, t.kitchens.get k = { s.kitchens.get k with state := .opened }) ∧
        (∀ a, t.panels.get a = { freshPanel with
          kind := (s.panels.get a).kind, binding := (s.panels.get a).binding, window := (s.panels.get a).window }) ∧
        t.store = emptyStore ∧ t.store.free.length = 3072 ∧ t.engine = { queue := [], inFlight := none } ∧
        (∀ i, t.catering.pages.get i = emptyPage (s.catering.pages.get i).tag) ∧
        (∀ k, t.catering.tickets.get k = []) ∧
        (∀ a, t.composer.faces.get a =
          { freshFace with own := composedRows t a, auto := autoChoice t a }) ∧
        (∀ r, t.composer.roomMarks.get r = false) ∧
        t.exceptions = { clearExceptions with counters := s.exceptions.counters } ∧
        t.loop = { downLoop with
          signal := s.loop.signal, lossLatch := s.loop.lossLatch, active := s.loop.active
          checkFailures := s.loop.checkFailures, strays := s.loop.strays
          state := if s.loop.signal = true ∧ asserted = false then .syncing else .down } ∧
        t.ports = { s.ports with
          node := straps, resetDue := false, resetAsserted := asserted
          uplinkOut := s.ports.uplinkOut.take
            (s.ports.uplinkOut.length - min (Config.unsentAtReset s.ports.resets) s.ports.unsent)
          unsent := 0, resets := s.ports.resets + 1 } ∧
        t.deliveries = { s.deliveries with scan := none, pass := none, recompose := none }
      (∃ t, exec (.lineReset straps) s = .next t ∧ reset s.ports.resetAsserted t) ∧
      (∃ t, exec (.resetLineAssert straps) s = .next t ∧ reset true t)) ∧
    (s.ports.powerGood = true → ∃ t, exec (.resetLineRelease straps) s = .next t ∧
      t = { s with loop := t.loop, ports := { s.ports with node := straps, resetAsserted := false } } ∧
      t.loop = { s.loop with
        state := if s.loop.state = .down ∧ s.loop.signal = true then .syncing else s.loop.state
        fresh := s.loop.fresh || (decide (s.loop.state = .down) && s.loop.signal) })

/-- The rise of power-good puts every block at its power-on values, with the straps read and the lines from outside as
they stand; its fall abandons every operation in flight with no response (R168). While it is low, no command changes
the part but those of the lines from outside. Choices of the model's: the active settings are at their defaults
before the first cycle start (notes/assumptions/18.md); what a part without power keeps, and that it follows the
lines (notes/assumptions/37.md); and how many responses have not begun to leave at the fall, a free value
(notes/assumptions/6.md). The model's records of sent frames and of waiting commands are no part of the reset. -/
def Obligations.PowerOnResetAndThePartWithoutPower : Prop :=
  ∀ (straps : Fin 8) (s : State),
    (exec (.powerOnReset straps) s = .next
      { State.reset with
        loop := { downLoop with
          signal := s.loop.signal
          state := if s.loop.signal = true ∧ s.ports.resetAsserted = false then .syncing else .down }
        ports := { freshPorts with
          node := straps, uplinkUp := s.ports.uplinkUp, cascadeUp := s.ports.cascadeUp
          resetAsserted := s.ports.resetAsserted, uplinkOut := s.ports.uplinkOut, cascadeOut := s.ports.cascadeOut
          loopOut := s.ports.loopOut, resets := s.ports.resets, forwards := s.ports.forwards }
        pending := s.pending }) ∧
    (∃ t, exec .powerGoodFall s = .next t ∧
      t = { s with engine := { queue := [], inFlight := none }, loop := t.loop, deliveries := t.deliveries,
                   ports := { s.ports with
                     powerGood := false, resetDue := false, unsent := 0, resets := s.ports.resets + 1
                     uplinkOut := s.ports.uplinkOut.take
                       (s.ports.uplinkOut.length - min (Config.unsentAtReset s.ports.resets) s.ports.unsent) } } ∧
      t.loop = { s.loop with awaited := none, held := none, echo := .none } ∧
      t.deliveries = { s.deliveries with scan := none, pass := none, recompose := none }) ∧
    (s.ports.powerGood = false → ∀ c : Instr,
      (∀ x, c ≠ .powerOnReset x) → c ≠ .powerGoodFall → (∀ x, c ≠ .resetLineAssert x) →
      (∀ x, c ≠ .resetLineRelease x) → c ≠ .signalPresent → c ≠ .signalAbsent →
      (∀ x y, c ≠ .linkStateChange x y) → exec c s = .next s)
end

