-- ==== Sys2Proof/Laws/Tab.lean ====
section
/-!
SUPPORT. Reading a table after a change of it: one lemma per operation on tables, and that a table is what its
entries are.
-/

namespace Sys2Proof.Tab

variable {α β : Type} {n : Nat}

/-- Two tables with the same cells are the same. -/
theorem eq_of_cells {t u : Tab α n} (h : t.cells = u.cells) : t = u := by
  cases t; cases u; cases h; rfl

/-- An entry, as one of the cells. -/
theorem get_eq (t : Tab α n) (i : Fin n) : t.get i = t.cells[i.val]'(t.size.symm ▸ i.isLt) := rfl

/-- A table is what its entries are. -/
theorem ext_get {t u : Tab α n} (h : ∀ i, t.get i = u.get i) : t = u :=
  eq_of_cells (List.ext_getElem (t.size.trans u.size.symm) fun i hi _ => h ⟨i, t.size ▸ hi⟩)

theorem get_set (t : Tab α n) (i j : Fin n) (a : α) : (t.set i a).get j = if j = i then a else t.get j := by
  rw [get_eq, get_eq]
  simp only [set, List.getElem_set, Fin.ext_iff, eq_comm]

@[simp] theorem get_set_self (t : Tab α n) (i : Fin n) (a : α) : (t.set i a).get i = a := by
  rw [get_set, if_pos rfl]

@[simp] theorem get_set_ne (t : Tab α n) {i j : Fin n} (a : α) (h : j ≠ i) : (t.set i a).get j = t.get j := by
  rw [get_set, if_neg h]

@[simp] theorem get_upd_self (t : Tab α n) (i : Fin n) (f : α → α) : (t.upd i f).get i = f (t.get i) := by
  simp [upd]

theorem get_upd (t : Tab α n) (i j : Fin n) (f : α → α) :
    (t.upd i f).get j = if j = i then f (t.get i) else t.get j := get_set t i j _

@[simp] theorem get_upd_ne (t : Tab α n) {i j : Fin n} (f : α → α) (h : j ≠ i) :
    (t.upd i f).get j = t.get j := get_set_ne t _ h

@[simp] theorem get_gen (f : Fin n → α) (i : Fin n) : (gen f).get i = f i := by
  rw [get_eq]; simp [gen]

@[simp] theorem get_fill (a : α) (i : Fin n) : (fill n a).get i = a := by
  rw [get_eq]; simp [fill]

@[simp] theorem get_map (f : α → β) (t : Tab α n) (i : Fin n) : (t.map f).get i = f (t.get i) := by
  rw [get_eq, get_eq]; simp [map]

@[simp] theorem set_get (t : Tab α n) (i : Fin n) : t.set i (t.get i) = t :=
  ext_get fun j => by
    rw [get_set]
    by_cases h : j = i
    · rw [if_pos h, h]
    · rw [if_neg h]

@[simp] theorem set_set (t : Tab α n) (i : Fin n) (a b : α) : (t.set i a).set i b = t.set i b :=
  ext_get fun j => by
    simp only [get_set]
    by_cases h : j = i <;> simp [h]

@[simp] theorem upd_set (t : Tab α n) (i : Fin n) (a : α) (f : α → α) : (t.set i a).upd i f = t.set i (f a) := by
  simp [upd]

/-- A change of one entry, written as a replacement. -/
theorem upd_eq_set (t : Tab α n) (i : Fin n) (f : α → α) : t.upd i f = t.set i (f (t.get i)) := rfl

@[simp] theorem gen_get (t : Tab α n) : gen t.get = t := ext_get fun i => get_gen _ i

@[simp] theorem map_map {γ : Type} (f : α → β) (g : β → γ) (t : Tab α n) : (t.map f).map g = t.map (g ∘ f) :=
  eq_of_cells (by simp [map])

end Sys2Proof.Tab
end

