-- ==== Sys2Proof/Laws/Ops.lean ====
section
/-!
SUPPORT. What the shared operations can do, said once: raising an occurrence, answering a request, answering a
panel call, the turn of the engine, the two gates of power and reset, and a beacon that waits for loop-out.
-/

namespace Sys2Proof.Machine

variable (s : State)

/-! ## Gates -/

theorem whenTaking_of_taking {s : State} (h : s.taking = true) (f : State → State) : whenTaking s f = f s := by
  simp [whenTaking, h]

theorem whenTaking_of_not {s : State} (h : s.taking = false) (f : State → State) : whenTaking s f = s := by
  simp [whenTaking, h]

theorem whenPowered_of_power {s : State} (h : s.ports.powerGood = true) (f : State → State) :
    whenPowered s f = f s := by simp [whenPowered, h]

theorem whenPowered_of_not {s : State} (h : s.ports.powerGood = false) (f : State → State) :
    whenPowered s f = s := by simp [whenPowered, h]

theorem whenLive_of_live {s : State} (h : s.ports.powerGood = true) (h' : s.ports.resetAsserted = false)
    (f : State → State) : whenLive s f = f s := by simp [whenLive, loopLive, h, h']

theorem takeRecompose_of_running {s : State} (h : s.clock.state = .running) (n : Nat) :
    takeRecompose n s = recomposePieces n s := by simp [takeRecompose, h]

theorem takeRecompose_of_not {s : State} (h : s.clock.state ≠ .running) (n : Nat) : takeRecompose n s = s := by
  simp [takeRecompose, h]

/-- A gate lets its operation act, or leaves the state. -/
theorem whenTaking_cases (f : State → State) : whenTaking s f = f s ∨ whenTaking s f = s := by
  unfold whenTaking; split <;> simp

theorem whenPowered_cases (f : State → State) : whenPowered s f = f s ∨ whenPowered s f = s := by
  unfold whenPowered; split <;> simp

theorem whenLive_cases (f : State → State) : whenLive s f = f s ∨ whenLive s f = s := by
  unfold whenLive; split <;> simp

/-! ## Raising an occurrence (R152) -/

/-- An occurrence changes the Exception Unit alone. -/
theorem raise_eq (c : ExcClass) (subject : Subject) (room : Option RoomNo) (detail : BitVec 32) :
    raise c subject room detail s = { s with exceptions := (raise c subject room detail s).exceptions } := rfl

/-- What it does there: it is counted (R155); where its action is not COUNT it is noticed, or counted lost where its
queue is full (R156); where it is NOTIFY_ALERT or HOLD it latches its class (R159); where it is HOLD its hold is
handed on (R154). -/
theorem raise_exceptions (c : ExcClass) (subject : Subject) (room : Option RoomNo) (detail : BitVec 32) :
    (raise c subject room detail s).exceptions =
      { counters := s.exceptions.counters.upd c.number fun k => min (k + 1) 65535
        latches :=
          if (s.dispositions.get c.number).action = .notifyAlert ∨ (s.dispositions.get c.number).action = .hold then
            s.exceptions.latches.set c.number true else s.exceptions.latches
        queues :=
          if (s.dispositions.get c.number).action ≠ .count ∧ (s.exceptions.queues.get c.queue).length < 32 then
            s.exceptions.queues.upd c.queue (· ++ [⟨c, subject, detail, s.grain⟩]) else s.exceptions.queues
        lost :=
          if (s.dispositions.get c.number).action ≠ .count ∧ ¬ (s.exceptions.queues.get c.queue).length < 32 then
            s.exceptions.lost.upd c.queue (fun k => min (k + 1) 255) else s.exceptions.lost
        holds :=
          if (s.dispositions.get c.number).action = .hold then
            s.exceptions.holds ++ (holdTarget s subject room).toList else s.exceptions.holds } := by
  unfold raise Exceptions.offer Exceptions.counted Config.noticePlaces
  by_cases hq : (s.exceptions.queues.get c.queue).length < 32 <;>
    rcases h : (s.dispositions.get c.number).action <;> simp [hq, h]

/-- What an occurrence does depends on the dispositions, the Exception Unit, the current grain and, for a panel's
hold, the panel's binding, and on nothing else. -/
theorem raise_exceptions_congr {s u : State} (c : ExcClass) (subject : Subject) (room : Option RoomNo)
    (detail : BitVec 32) (hd : s.dispositions = u.dispositions) (he : s.exceptions = u.exceptions)
    (hg : s.grain = u.grain) (hh : holdTarget s subject room = holdTarget u subject room) :
    (raise c subject room detail s).exceptions = (raise c subject room detail u).exceptions := by
  simp only [raise, hd, he, hg, hh]

/-! ## Answers (R147, R165) -/

/-- The attention summary reads the Exception Unit, the dispositions and the clock alone. -/
theorem attention_congr {s u : State} (he : s.exceptions = u.exceptions) (hd : s.dispositions = u.dispositions)
    (hc : s.clock = u.clock) : attention s = attention u := by
  simp only [attention, queueFlag, lineAsserted, he, hd, hc]

/-- A response reads the node number and the attention summary of the state it leaves. -/
theorem responseFrame_congr {s u : State} (via : Via) (kind : Nat) (a : Answer) (hn : s.ports.node = u.ports.node)
    (he : s.exceptions = u.exceptions) (hd : s.dispositions = u.dispositions) (hc : s.clock = u.clock) :
    responseFrame s via kind a = responseFrame u via kind a := by
  simp only [responseFrame, hn, attention_congr he hd hc]

/-- A response changes the ports alone, and of them the record of what has left the uplink port alone. -/
theorem respond_eq (via : Via) (k : Kind) (a : Answer) :
    respond via k a s = { s with ports := { s.ports with
      uplinkOut := s.ports.uplinkOut ++ if s.ports.uplinkUp then [responseFrame s via k.code a] else []
      unsent := s.ports.unsent + if s.ports.uplinkUp then 1 else 0 } } := by
  unfold respond respondCode
  split
  · rfl
  · rw [List.append_nil, Nat.add_zero]

/-- A request that is answered with nothing else done is answered. -/
theorem respond_answered (via : Via) (k : Kind) (a : Answer) : Answered via k a s (respond via k a s) := by
  rw [respond_eq]; rfl

/-- A request that is answered after a change of the state is answered, where the ports had not changed. -/
theorem respond_answered_of (via : Via) (k : Kind) (a : Answer) {s u : State} (hp : u.ports = s.ports) :
    Answered via k a s (respond via k a u) := by
  have h := respond_answered u via k a
  unfold Answered at h ⊢
  rw [h, hp]

/-- The answer to a call changes the panels alone, and of them the entry made for it alone. -/
theorem answerCall_eq (p : ReplyPlace) (a : CallAnswer) :
    answerCall p a s = { s with panels := (answerCall p a s).panels } := rfl

theorem answerCall_given (p : ReplyPlace) (a : CallAnswer) : ReplyGiven p a (answerCall p a s) := by
  intro e he hs
  simp only [answerCall, Tab.get_upd_self, List.mem_map] at he
  obtain ⟨x, -, rfl⟩ := he
  by_cases h : x.serial = p.serial <;> simp_all

/-! ## The engine's turn -/

/-- No room waits for a place of the queue: the engine's step begins with nothing else (R24). -/
theorem queuePendingVacate_of_none {s : State} (h : ∀ r, (s.rooms.get r).vacatePending = false) :
    queuePendingVacate s = s := by
  have : pendingRoom s = none := by
    simp [pendingRoom, List.find?_eq_none, h]
  unfold queuePendingVacate
  split <;> simp_all

/-- A step of the engine on its request in flight is that step alone. -/
theorem engineStep_atWork {s : State} {f : Flight} (h : AtWork s f) (g : State → State) : engineStep g s = g s := by
  unfold engineStep
  rw [whenPowered_of_power h.1, queuePendingVacate_of_none h.2.2]

/-- The end of an admission leaves the engine with its next entry, or IDLE (R50). -/
theorem endFlight_eq : endFlight s = { s with engine := s.engine.afterEnd } := by
  unfold endFlight Engine.afterEnd Engine.wake
  cases h : s.engine.queue <;> simp [h]

/-! ## Own frames that wait for loop-out (R138, R139, R145) -/

theorem outFree_iff (now : Nat) :
    outFree now s = true ↔ s.loop.awaited = none ∧ s.ports.loopBusyUntil ≤ now := by
  simp [outFree]

/-- The beacon that is due is sent where an own frame can be; else nothing happens. -/
theorem sendDue_cases (now : Nat) :
    (sendDue now s = s ∧ (s.loop.held = none ∨ outFree now s = false)) ∨
      ∃ p, s.loop.held = some p ∧ outFree now s = true ∧
        sendDue now s = sendOwn .beacon 0 beaconKind p now (updLoop (fun l => { l with held := none }) s) := by
  unfold sendDue
  split
  case h_1 p h =>
    by_cases hf : outFree now s = true
    · exact .inr ⟨p, h, hf, by simp [hf]⟩
    · exact .inl ⟨by simp [hf], .inr (by simpa using hf)⟩
  case h_2 h => exact .inl ⟨rfl, .inl h⟩

end Sys2Proof.Machine
end

