-- ==== Sys2Proof/Laws/Records.lean ====
section
/-!
SUPPORT. What the operations on ordered lists, records, cells and room marks can do, and which booking
bars a tap, said once.
-/

namespace Sys2Proof.Machine

/-! ## Ordered lists -/

/-- An insertion splits the list before the first element at which it stops. -/
theorem insertWhere_split {α : Type} (stop : α → Bool) (a : α) (l : List α) :
    ∃ before rest, l = before ++ rest ∧ insertWhere stop a l = before ++ a :: rest ∧
      (∀ x, x ∈ before → stop x = false) ∧ ∀ x, rest.head? = some x → stop x = true := by
  induction l with
  | nil => exact ⟨[], [], rfl, rfl, by simp, by simp⟩
  | cons b bs ih =>
    by_cases h : stop b = true
    · exact ⟨[], b :: bs, rfl, by simp [insertWhere, h], by simp, by simpa using h⟩
    · obtain ⟨u, v, rfl, hi, hu, hv⟩ := ih
      refine ⟨b :: u, v, rfl, by simp [insertWhere, h, hi], ?_, hv⟩
      intro x hx
      rcases List.mem_cons.1 hx with rfl | hx
      · simpa using h
      · exact hu x hx

theorem insertWhere_perm {α : Type} (stop : α → Bool) (a : α) (l : List α) :
    (insertWhere stop a l).Perm (a :: l) := by
  obtain ⟨u, v, rfl, h, -⟩ := insertWhere_split stop a l
  rw [h]
  exact List.perm_middle

theorem mem_insertWhere {α : Type} {stop : α → Bool} {a x : α} {l : List α} :
    x ∈ insertWhere stop a l ↔ x = a ∨ x ∈ l := by
  rw [(insertWhere_perm stop a l).mem_iff, List.mem_cons]

theorem foldl_insertWhere_perm {α : Type} (before : α → α → Bool) (l acc : List α) :
    (l.foldl (fun acc a => insertWhere (fun b => before a b) a acc) acc).Perm (l ++ acc) := by
  induction l generalizing acc with
  | nil => exact .refl _
  | cons a l ih =>
    exact (ih _).trans (((insertWhere_perm _ a acc).append_left l).trans List.perm_middle)

/-- Ordering a list keeps its elements. -/
theorem sortBy_perm {α : Type} (before : α → α → Bool) (l : List α) : (sortBy before l).Perm l := by
  simpa [sortBy] using foldl_insertWhere_perm before l []

/-- An insertion by a key into a list in order leaves it in order. -/
theorem insertWhere_pairwise {α : Type} (key : α → Nat) (a : α) {l : List α}
    (h : l.Pairwise fun x y => key x ≤ key y) :
    (insertWhere (fun b => decide (key a < key b)) a l).Pairwise fun x y => key x ≤ key y := by
  induction l with
  | nil => simp [insertWhere]
  | cons b bs ih =>
    rw [List.pairwise_cons] at h
    unfold insertWhere
    split
    · rename_i hlt
      have hlt : key a < key b := by simpa using hlt
      refine List.pairwise_cons.2 ⟨fun x hx => ?_, List.pairwise_cons.2 h⟩
      rcases List.mem_cons.1 hx with rfl | hx
      · omega
      · have := h.1 x hx
        omega
    · rename_i hlt
      have hlt : ¬ key a < key b := by simpa using hlt
      refine List.pairwise_cons.2 ⟨fun x hx => ?_, ih h.2⟩
      rcases mem_insertWhere.1 hx with rfl | hx
      · omega
      · exact h.1 x hx

/-- Ordering by a key puts a list in the order of the key. -/
theorem sortBy_pairwise {α : Type} (key : α → Nat) (l : List α) :
    (sortBy (fun a b => decide (key a < key b)) l).Pairwise fun x y => key x ≤ key y := by
  suffices h : ∀ acc : List α, (acc.Pairwise fun x y => key x ≤ key y) →
      (l.foldl (fun acc a => insertWhere (fun b => decide (key a < key b)) a acc) acc).Pairwise
        fun x y => key x ≤ key y from h [] .nil
  induction l with
  | nil => exact fun _ h => h
  | cons a l ih => exact fun acc h => ih _ (insertWhere_pairwise key a h)

/-! ## Records (R35) -/

/-- A record found by an id has that id. -/
theorem record?_id {s : State} {id : BookingId} {b : Record} (h : s.record? id = some b) : b.id = id := by
  simpa using List.find?_some h

theorem record?_mem {s : State} {id : BookingId} {b : Record} (h : s.record? id = some b) :
    b ∈ s.store.records := List.mem_of_find?_eq_some h

theorem find?_map_upd (l : List Record) (id x : BookingId) (f : Record → Record) (hf : ∀ r, (f r).id = r.id) :
    (l.map fun q => if q.id == id then f q else q).find? (fun r => r.id == x) =
      (l.find? fun r => r.id == x).map fun q => if q.id == id then f q else q := by
  induction l with
  | nil => rfl
  | cons q l ih =>
    have hq : (if q.id == id then f q else q).id = q.id := by split <;> simp [hf]
    simp only [List.map_cons, List.find?_cons, hq]
    split <;> simp_all

/-- A change of one record, which keeps its id, is seen at that id. -/
theorem updRecord_self (id : BookingId) (f : Record → Record) (hf : ∀ r, (f r).id = r.id) (s : State) :
    (updRecord id f s).record? id = (s.record? id).map f := by
  have h := find?_map_upd s.store.records id id f hf
  simp only [updRecord, State.record?, Store.find, h]
  cases hr : s.store.records.find? fun r => r.id == id with
  | none => rfl
  | some b =>
    have : b.id = id := by simpa using List.find?_some hr
    simp [this]

/-- It is seen at no other id. -/
theorem updRecord_of_ne (id x : BookingId) (hx : x ≠ id) (f : Record → Record) (hf : ∀ r, (f r).id = r.id)
    (s : State) : (updRecord id f s).record? x = s.record? x := by
  have h := find?_map_upd s.store.records id x f hf
  simp only [updRecord, State.record?, Store.find, h]
  cases hr : s.store.records.find? fun r => r.id == x with
  | none => rfl
  | some b =>
    have : b.id = x := by simpa using List.find?_some hr
    simp [this, hx]

/-- A change of one record changes the records alone. -/
theorem updRecord_eq (id : BookingId) (f : Record → Record) (s : State) :
    updRecord id f s = { s with store := { s.store with records := (updRecord id f s).store.records } } := rfl

/-! ## Marks (R38, R125) -/

/-- Marking rooms changes the room marks alone. -/
theorem markRooms_eq (rs : List RoomNo) (s : State) :
    markRooms rs s = { s with composer := { s.composer with roomMarks := (markRooms rs s).composer.roomMarks } } := by
  induction rs generalizing s with
  | nil => rfl
  | cons r rs ih => exact ih (markRoom r s)

/-- The rooms of the list are marked, and the marks of the others stand. -/
theorem markRooms_get (rs : List RoomNo) (s : State) (q : RoomNo) :
    (markRooms rs s).composer.roomMarks.get q = (s.composer.roomMarks.get q || rs.contains q) := by
  induction rs generalizing s with
  | nil => simp [markRooms]
  | cons r rs ih =>
    have h : (markRooms (r :: rs) s).composer.roomMarks.get q =
      (markRooms rs (markRoom r s)).composer.roomMarks.get q := rfl
    rw [h, ih]
    by_cases hq : q = r
    · subst hq
      simp [markRoom]
    · have : (s.composer.roomMarks.set r true).get q = s.composer.roomMarks.get q :=
        Tab.get_set_ne _ _ hq
      simp [markRoom, this, hq]

/-- The rooms of a record's lists are marked. -/
theorem markRecord_get (b : Record) (s : State) (q : RoomNo) :
    (markRecord b s).composer.roomMarks.get q = (s.composer.roomMarks.get q || (listRooms s b).contains q) :=
  markRooms_get _ _ _

/-! ## Cells (R29 to R31) -/

/-- Cells are taken from the head of the free list. -/
theorem allocate_free (n : Nat) (s : State) : (allocate n s).store.free = s.store.free.drop n := by
  unfold allocate
  dsimp only
  split <;> simp [raise]

/-- Allocation changes the free list, the STORE_LOW arm and the Exception Unit alone. -/
theorem allocate_eq (n : Nat) (s : State) :
    allocate n s = { s with
      store := { s.store with
        free := s.store.free.drop n, storeLowArmed := (allocate n s).store.storeLowArmed }
      exceptions := (allocate n s).exceptions } := by
  unfold allocate
  dsimp only
  split <;> simp [raise]

/-- Freed cells join the tail, in ascending number, and nothing else of the store but the arm changes. -/
theorem freeCells_free (cells : List Nat) (s : State) :
    ∃ l, l.Perm cells ∧ l.Pairwise (· ≤ ·) ∧ (freeCells cells s).store.free = s.store.free ++ l :=
  ⟨_, sortBy_perm _ _, sortBy_pairwise (fun n : Nat => n) cells, rfl⟩

/-! ## Who bars a tap (R94, R97) -/

theorem insertionDue_eq_some (q : RoomNo) (b : Record) : insertionDue s q = some b ↔ Entering s q b := by
  unfold insertionDue Entering besideRoom
  constructor
  · intro h
    split at h
    case h_2 => cases h
    rename_i f hf
    split at h
    case h_2 => cases h
    rename_i refused id hp hi
    simp only [Option.filter_eq_some_iff, Bool.and_eq_true, beq_iff_eq, decide_eq_true_eq] at h
    obtain ⟨hr, hc, hb⟩ := h
    split at hb
    case isFalse => cases hb
    rename_i hj
    refine ⟨hc, hj, hb, f, refused, hf, hp, ?_⟩
    cases hq : f.request <;> rw [hq] at hi <;> cases hi
    · exact .inl ⟨_, _, rfl, hr⟩
    · exact .inr ⟨_, _, rfl, hr⟩
  · rintro ⟨hc, hj, hb, f, refused, hf, hp, ⟨v, a, hq, hr⟩ | ⟨v, a, hq, hr⟩⟩ <;>
      simp [hf, hp, hq, Request.bookingId?, Option.filter_eq_some_iff, hr, hc, hj, hb]

/-- One booking at most is about to be inserted. -/
theorem Entering.unique {s : State} {q q' : RoomNo} {b b' : Record} (h : Entering s q b) (h' : Entering s q' b') :
    b = b' := by
  obtain ⟨-, -, -, f, -, hf, -, h⟩ := h
  obtain ⟨-, -, -, f', -, hf', -, h'⟩ := h'
  obtain rfl : f = f' := Option.some.inj (hf.symm.trans hf')
  obtain ⟨_, _, hr, hb⟩ | ⟨_, _, hr, hb⟩ := h <;> obtain ⟨_, _, hr', hb'⟩ | ⟨_, _, hr', hb'⟩ := h' <;>
    cases hr.symm.trans hr' <;> exact Option.some.inj (hb.symm.trans hb')

/-- The booking that bars a check-in is the one that the statements name. -/
theorem enteringBeside_eq_some (target b : Record) :
    enteringBeside s target = some b ↔ ∃ q, q ∈ listRooms s target ∧ Entering s q b := by
  unfold enteringBeside
  constructor
  · intro h
    obtain ⟨q, hq, h⟩ := List.exists_of_findSome?_eq_some h
    exact ⟨q, hq, (insertionDue_eq_some q b).1 h⟩
  · rintro ⟨q, hq, h⟩
    cases hn : (listRooms s target).findSome? (insertionDue s) with
    | none =>
      have := List.findSome?_eq_none_iff.1 hn q hq
      rw [(insertionDue_eq_some q b).2 h] at this
      cases this
    | some c =>
      obtain ⟨q', -, h'⟩ := List.exists_of_findSome?_eq_some hn
      rw [((insertionDue_eq_some q' c).1 h').unique h]

end Sys2Proof.Machine
end

