-- ==== Sys2Proof/Laws/Store.lean ====
section
/-!
SUPPORT. What the edits of the Booking Store can do, said once: an insertion, the two insertions of a joined record,
a removal, a retirement; and what a text written into a face row leaves in each of its cells.
-/

namespace Sys2Proof.Machine

/-! ## Insertions (R23, R38) -/

/-- An insertion changes one room list and marks its room, and nothing else. -/
theorem insertInto_eq (q : RoomNo) (r : Record) (s : State) :
    insertInto q r s = { s with
      store := { s.store with
        lists := s.store.lists.set q (insertWhere (beginsAfter s.store r.ss) r.id (s.store.lists.get q)) }
      composer := { s.composer with roomMarks := s.composer.roomMarks.set q true } } := rfl

/-- It puts the record behind every record whose span does not begin after its own. -/
theorem insertInto_inserted (q : RoomNo) (r : Record) (s : State) : InsertedInto q r s (insertInto q r s) := by
  obtain ⟨before, after, hl, hi, hb, ha⟩ :=
    insertWhere_split (beginsAfter s.store r.ss) r.id (s.store.lists.get q)
  refine ⟨before, after, hl, ?_, ?_, ?_⟩
  · simp [insertInto_eq, hi]
  · intro x hx c hc
    have hc : s.store.find x = some c := hc
    have h := hb x hx
    simp only [beginsAfter, hc, decide_eq_false_iff_not] at h
    omega
  · intro x hx
    have h := ha x hx
    unfold beginsAfter at h
    split at h
    · rename_i c hc
      exact ⟨c, hc, by simpa using h⟩
    · cases h

/-- The VACATE trigger changes the engine and a vacate-pending flag alone. -/
theorem triggerVacate_eq (r : RoomNo) (s : State) :
    triggerVacate r s = { s with engine := (triggerVacate r s).engine, rooms := (triggerVacate r s).rooms } := by
  unfold triggerVacate
  split
  · rfl
  · split <;> rfl

theorem triggerOnInsert_eq (st : BookingState) (q : RoomNo) (s : State) :
    triggerOnInsert st q s =
      { s with engine := (triggerOnInsert st q s).engine, rooms := (triggerOnInsert st q s).rooms } := by
  unfold triggerOnInsert
  split
  · exact triggerVacate_eq _ _
  · rfl

/-- An insertion at the engine's request is the insertion, and in an OUT_OF_SERVICE room its trigger. -/
theorem placeInto_eq (q : RoomNo) (r : Record) (s : State) :
    placeInto q r s = { insertInto q r s with
      engine := (placeInto q r s).engine, rooms := (placeInto q r s).rooms } :=
  triggerOnInsert_eq _ _ _

theorem placeInto_of_open {q : RoomNo} {s : State} (r : Record) (h : (s.rooms.get q).state ≠ .outOfService) :
    placeInto q r s = insertInto q r s := by
  have h' : ((insertInto q r s).rooms.get q).state ≠ .outOfService := h
  unfold placeInto triggerOnInsert
  rw [if_neg fun c => h' c.2]

theorem placeInto_inserted (q : RoomNo) (r : Record) (s : State) : InsertedInto q r s (placeInto q r s) := by
  rw [placeInto_eq]
  exact insertInto_inserted q r s

/-- After its first insertion, a record with no partner's list goes on, and a joined one waits. -/
theorem insertThen_unjoined {r : Record} {s : State} (refused : Option BookingId) (f : Flight)
    (onward : State → State) (h : r.joined = false) :
    insertThen r refused f onward s = onward (placeInto r.room r s) := by
  simp [insertThen, insertRecord, besideRoom, h]

theorem insertThen_joined {r : Record} {s : State} {q : RoomNo} (refused : Option BookingId) (f : Flight)
    (onward : State → State) (h : r.joined = true)
    (hq : ((placeInto r.room r s).rooms.get r.room).partner = some q) :
    insertThen r refused f onward s = setFlight { f with phase := .partner refused } (placeInto r.room r s) := by
  simp [insertThen, insertRecord, besideRoom, h, hq]

/-- The second insertion is made where the record is joined and still stands in its room's list. -/
theorem insertBeside_of_standing {id : BookingId} {s : State} {r : Record} {q : RoomNo} (h : s.record? id = some r)
    (hj : r.joined = true) (hq : (s.rooms.get r.room).partner = some q) (hl : id ∈ s.store.lists.get r.room) :
    insertBeside id s = placeInto q r s := by
  simp [insertBeside, h, besideRoom, hj, hq, hl]

/-- It changes no record and no cell. -/
theorem insertBeside_store (id : BookingId) (s : State) :
    (insertBeside id s).store = { s.store with lists := (insertBeside id s).store.lists } := by
  unfold insertBeside
  split
  · rfl
  · split
    · split
      · rw [placeInto_eq, insertInto_eq]
      · rfl
    · rfl

/-! ## Removals (R38) -/

/-- A removal takes an id from one room's list, and from no other. -/
theorem removeFrom_get (q : RoomNo) (id : BookingId) (s : State) (p : RoomNo) :
    (removeFrom q id s).store.lists.get p =
      if p = q then (s.store.lists.get p).filter (fun x => x != id) else s.store.lists.get p := by
  unfold removeFrom
  by_cases hp : p = q
  · subst hp
    split
    · simp [markRoom]
    · rename_i h
      have h' : id ∉ s.store.lists.get p := by simpa using h
      rw [if_pos rfl, List.filter_eq_self.2]
      intro x hx
      simp only [bne_iff_ne, ne_eq]
      rintro rfl
      exact h' hx
  · rw [if_neg hp]
    split
    · simp [markRoom, hp]
    · rfl

/-- A removal changes the room lists and a room mark alone. -/
theorem removeFrom_eq (q : RoomNo) (id : BookingId) (s : State) :
    removeFrom q id s = { s with
      store := { s.store with lists := (removeFrom q id s).store.lists }
      composer := { s.composer with roomMarks := (removeFrom q id s).composer.roomMarks } } := by
  unfold removeFrom
  split <;> rfl

/-- The removals of one id from several lists, in turn. -/
theorem removeFroms_get (qs : List RoomNo) (id : BookingId) (s : State) (p : RoomNo) :
    (qs.foldl (fun s q => removeFrom q id s) s).store.lists.get p =
      if p ∈ qs then (s.store.lists.get p).filter (fun x => x != id) else s.store.lists.get p := by
  induction qs generalizing s with
  | nil => simp
  | cons q qs ih =>
    rw [List.foldl_cons, ih, removeFrom_get]
    by_cases hp : p = q <;> by_cases hq : p ∈ qs <;> simp [hp, hq, List.filter_filter]

theorem removeFroms_eq (qs : List RoomNo) (id : BookingId) (s : State) :
    qs.foldl (fun s q => removeFrom q id s) s = { s with
      store := { s.store with lists := (qs.foldl (fun s q => removeFrom q id s) s).store.lists }
      composer := { s.composer with
        roomMarks := (qs.foldl (fun s q => removeFrom q id s) s).composer.roomMarks } } := by
  induction qs generalizing s with
  | nil => rfl
  | cons q qs ih =>
    rw [List.foldl_cons, ih, removeFrom_eq]

/-- A record is removed from the lists of its rooms, and from no other. -/
theorem removeRecord_get (r : Record) (s : State) (p : RoomNo) :
    (removeRecord r s).store.lists.get p =
      if p ∈ listRooms s r then (s.store.lists.get p).filter (fun x => x != r.id) else s.store.lists.get p := by
  rw [removeRecord, removeFroms_get]
  simp

/-- The removal of a record changes the room lists and the room marks alone. -/
theorem removeRecord_eq (r : Record) (s : State) :
    removeRecord r s = { s with
      store := { s.store with lists := (removeRecord r s).store.lists }
      composer := { s.composer with roomMarks := (removeRecord r s).composer.roomMarks } } :=
  removeFroms_eq _ _ _

/-! ## Face rows (R121) -/

theorem rowPut_get (row : Row) (i : Nat) (c : FaceCell) (j : Fin 24) :
    (rowPut row i c).get j = if j.val = i then c else row.get j := by
  simp only [rowPut, Tab.get_eq, List.getElem_set]
  by_cases h : j.val = i
  · simp [h]
  · rw [if_neg fun e => h e.symm, if_neg h]

/-- A text written into a row leaves its glyphs, in one attribute, in the cells from its first on, and every other
cell as it was. -/
theorem rowText_get (a : Attr) (gs : Bytes) (row : Row) (i : Nat) (j : Fin 24) :
    (rowText row i a gs).get j =
      match (if i ≤ j.val then gs[j.val - i]? else none) with
      | some g => ⟨g, a⟩
      | none => row.get j := by
  induction gs generalizing row i with
  | nil => simp [rowText]
  | cons g gs ih =>
    rw [rowText, ih, rowPut_get]
    rcases Nat.lt_trichotomy j.val i with h | h | h
    · rw [if_neg (by omega), if_neg (by omega), if_neg (by omega)]
    · rw [if_neg (by omega), if_pos h, if_pos (by omega), h]
      simp
    · have e : j.val - i = (j.val - (i + 1)) + 1 := by omega
      rw [if_pos (by omega), if_neg (by omega), if_pos (by omega), e, List.getElem?_cons_succ]

end Sys2Proof.Machine
end

