-- ==== Sys2Proof/Laws/Pool.lean ====
section
/-!
SUPPORT. The record pool (R29, R35) under the operations of the Booking Store: each keeps every cell on the free list
or with one record, and every id with one record.
-/

namespace Sys2Proof.Machine

/-- The pool reads the free list, the records and the walk-in counter alone. -/
theorem Store.Legal.congr {st u : Store} (h : st.Legal) (hf : u.free = st.free) (hr : u.records = st.records)
    (hw : u.walkIn = st.walkIn) : u.Legal := by
  simpa only [Store.Legal, hf, hr, hw] using h

/-- A change of one record that keeps its id and its cells. -/
theorem updRecord_legal {s : State} (h : s.store.Legal) (id : BookingId) (f : Record → Record)
    (hf : ∀ r, (f r).id = r.id ∧ (f r).cells = r.cells) : (updRecord id f s).store.Legal := by
  obtain ⟨hp, hn, hw⟩ := h
  have e1 : ((updRecord id f s).store.records.flatMap fun b => b.cells) =
      s.store.records.flatMap fun b => b.cells := by
    simp only [updRecord, List.flatMap_map]
    congr 1
    funext q
    split <;> simp [(hf q).2]
  have e2 : ((updRecord id f s).store.records.map fun b => b.id) = s.store.records.map fun b => b.id := by
    simp only [updRecord, List.map_map]
    congr 1
    funext q
    simp only [Function.comp]
    split <;> simp [(hf q).1]
  exact ⟨by rw [e1]; exact hp, by rw [e2]; exact hn, hw⟩

/-- Where ids are unique, the records are the one with an id and the others. -/
theorem records_perm {l : List Record} (h : (l.map fun b => b.id).Nodup) {id : BookingId} {r : Record}
    (hr : l.find? (fun b => b.id == id) = some r) : l.Perm (r :: l.filter fun b => b.id != id) := by
  induction l with
  | nil => cases hr
  | cons a l ih =>
    rw [List.map_cons, List.nodup_cons] at h
    by_cases ha : a.id = id
    · have : r = a := by simpa [List.find?_cons, ha] using hr.symm
      subst this
      have hk : l.filter (fun b => b.id != id) = l := by
        rw [List.filter_eq_self]
        intro x hx
        simp only [bne_iff_ne, ne_eq]
        rintro rfl
        exact h.1 (ha ▸ List.mem_map.2 ⟨x, hx, rfl⟩)
      simp [ha, hk]
    · have hr' : l.find? (fun b => b.id == id) = some r := by simpa [List.find?_cons, ha] using hr
      have := ih h.2 hr'
      rw [List.filter_cons_of_pos (by simpa using ha)]
      exact (List.Perm.cons a this).trans (List.Perm.swap _ _ _)

/-- A record leaves the store and its cells join the free list. -/
theorem Store.Legal.retired {st u : Store} (h : st.Legal) {id : BookingId} {r : Record} {cells : List Nat}
    (hr : st.find id = some r) (hc : cells.Perm r.cells) (hf : u.free = st.free ++ cells)
    (hu : u.records = st.records.filter fun b => b.id != id) (hw : u.walkIn = st.walkIn) : u.Legal := by
  obtain ⟨hp, hn, hk⟩ := h
  have hperm := records_perm hn hr
  refine ⟨?_, ?_, hw ▸ hk⟩
  · rw [hf, hu, List.append_assoc]
    refine List.Perm.trans (List.Perm.append_left _ ?_) hp
    exact ((List.Perm.append_right _ hc).trans (by simpa using (hperm.flatMap_right fun b => b.cells).symm))
  · rw [hu]
    exact hn.sublist (List.filter_sublist.map _)

/-- Retirement removes the record of its id, and no other (R43). -/
theorem retire_record? (id : BookingId) (s : State) : (retire id s).record? id = none := by
  unfold retire
  split
  · assumption
  · simp [State.record?, Store.find]

theorem removeTicket_store (k : KitchenNo) (id : BookingId) (s : State) : (removeTicket k id s).store = s.store := by
  unfold removeTicket
  split <;> rfl

theorem retireOrder_store (id : BookingId) (o : Order) (s : State) : (retireOrder id o s).store = s.store := by
  unfold retireOrder
  split <;> simp [subtractLoad, removeTicket_store]

/-- What a retirement makes of the store: the record leaves the lists of its rooms and the retire list, its cells join
the tail of the free list in ascending number, and the STORE_LOW arm is judged. -/
theorem retire_store {id : BookingId} {s : State} {r : Record} (h : s.record? id = some r) :
    (retire id s).store = { s.store with
      records := s.store.records.filter fun q => q.id != id
      lists := (removeRecord r s).store.lists
      retireList := s.store.retireList.filter fun x => x != id
      free := s.store.free ++ sortBy (fun a b => decide (a < b)) r.cells
      storeLowArmed := s.store.storeLowArmed ||
        decide (64 ≤ (s.store.free ++ sortBy (fun a b => decide (a < b)) r.cells).length) } := by
  unfold retire
  simp only [h]
  rw [removeRecord_eq]
  cases r.order with
  | none => simp [freeCells, Config.storeLowMark]
  | some o => simp [freeCells, Config.storeLowMark, retireOrder_store]

/-- Retirement keeps the pool. -/
theorem retire_legal {s : State} (h : s.store.Legal) (id : BookingId) : (retire id s).store.Legal := by
  cases hr : s.record? id with
  | none =>
    have : retire id s = s := by unfold retire; simp [hr]
    rwa [this]
  | some r =>
    refine h.retired hr (sortBy_perm (fun a b => decide (a < b)) _) (u := (retire id s).store) ?_ ?_ ?_ <;> rw [retire_store hr]

/-- A record is made with cells taken from the head of the free list, under an id that has no record. -/
theorem Store.Legal.added {st u : Store} (h : st.Legal) {r : Record} (n : Nat) (hr : st.find r.id = none)
    (hc : r.cells = st.free.take n) (hf : u.free = st.free.drop n) (hu : u.records = st.records ++ [r])
    (hw : u.walkIn < 256) : u.Legal := by
  obtain ⟨hp, hn, -⟩ := h
  refine ⟨?_, ?_, hw⟩
  · rw [hf, hu, List.flatMap_append]
    refine List.Perm.trans ?_ hp
    have e : st.free = st.free.take n ++ st.free.drop n := (List.take_append_drop n st.free).symm
    have : ([r].flatMap fun b => b.cells) = st.free.take n := by simp [hc]
    rw [this]
    conv => rhs; rw [e]
    rw [← List.append_assoc]
    exact List.perm_append_comm.trans (by rw [List.append_assoc])
  · rw [hu, List.map_append, List.nodup_append]
    refine ⟨hn, by simp, ?_⟩
    intro a ha b hb
    rw [List.mem_map] at ha
    obtain ⟨q, hq, rfl⟩ := ha
    have hb : b = r.id := by simpa using hb
    rintro rfl
    have := List.find?_eq_none.1 hr q hq
    simp [hb] at this

/-- A change of the record with an id, seen in the cells of all. -/
theorem updRecord_cells_perm {l : List Record} (h : (l.map fun b => b.id).Nodup) {id : BookingId} {r : Record}
    (hr : l.find? (fun b => b.id == id) = some r) (f : Record → Record) :
    ((l.map fun q => if q.id == id then f q else q).flatMap fun b => b.cells).Perm
      ((f r).cells ++ (l.filter fun b => b.id != id).flatMap fun b => b.cells) := by
  have hid : r.id = id := by simpa using List.find?_some hr
  have hp := ((records_perm h hr).map fun q => if q.id == id then f q else q).flatMap_right fun b => b.cells
  refine hp.trans ?_
  have hk : (l.filter fun b => b.id != id).map (fun q => if q.id == id then f q else q) =
      l.filter fun b => b.id != id := by
    refine (List.map_congr_left fun q hq => ?_).trans (List.map_id' _)
    have : q.id ≠ id := by simpa using (List.mem_filter.1 hq).2
    simp [this]
  rw [List.map_cons, hk]
  simp [hid]

/-- A record's cells are changed for others, of which those gone stand on the free list, and those taken no more. -/
theorem Store.Legal.resized {st u : Store} (h : st.Legal) {id : BookingId} {r : Record} (f : Record → Record)
    (hf : ∀ q, (f q).id = q.id) (hr : st.find id = some r)
    (hp : (u.free ++ (f r).cells).Perm (st.free ++ r.cells))
    (hu : u.records = st.records.map fun q => if q.id == id then f q else q) (hw : u.walkIn = st.walkIn) :
    u.Legal := by
  obtain ⟨hs, hn, hk⟩ := h
  refine ⟨?_, ?_, hw ▸ hk⟩
  · rw [hu]
    refine (List.Perm.append_left _ (updRecord_cells_perm hn hr f)).trans ?_
    rw [← List.append_assoc]
    refine (List.Perm.append_right _ hp).trans (List.Perm.trans ?_ hs)
    rw [List.append_assoc]
    exact List.Perm.append_left _ (by simpa using ((records_perm hn hr).flatMap_right fun b => b.cells).symm)
  · have : (u.records.map fun b => b.id) = st.records.map fun b => b.id := by
      rw [hu, List.map_map]
      congr 1
      funext q
      simp only [Function.comp]
      split <;> simp [hf]
    rw [this]
    exact hn

/-- The cells of a record brought to another number stay its own or join the free list (R30). -/
theorem resizeRecord_legal {s : State} (h : s.store.Legal) {r q : Record} (n : Nat) (hr : s.record? r.id = some q)
    (hc : q.cells = r.cells) : (resizeRecord r n s).store.Legal := by
  unfold resizeRecord
  split
  · refine h.resized (fun q => { q with cells := q.cells ++ s.store.free.take (n - r.cells.length) })
      (fun _ => rfl) hr ?_ ?_ ?_
    · have e : (updRecord r.id (fun q => { q with cells := q.cells ++ s.store.free.take (n - r.cells.length) })
          (allocate (n - r.cells.length) s)).store.free = s.store.free.drop (n - r.cells.length) :=
        allocate_free _ _
      rw [e]
      have : (s.store.free.drop (n - r.cells.length) ++ (q.cells ++ s.store.free.take (n - r.cells.length))).Perm
          (s.store.free.take (n - r.cells.length) ++ s.store.free.drop (n - r.cells.length) ++ q.cells) := by
        rw [List.append_assoc]
        refine (List.perm_append_comm).trans ?_
        rw [List.append_assoc]
        exact (List.perm_append_comm).trans (by rw [List.append_assoc])
      simpa using this
    · simp only [updRecord]
      rw [allocate_eq]
    · simp only [updRecord]
      rw [allocate_eq]
  · split
    · refine h.resized (fun x => { x with cells := keptCells r.cells n }) (fun _ => rfl) hr ?_ rfl rfl
      have e : (freeCells (r.cells.filter fun c => !(keptCells r.cells n).contains c)
          (updRecord r.id (fun q => { q with cells := keptCells r.cells n }) s)).store.free = s.store.free ++
            sortBy (fun a b => decide (a < b)) (r.cells.filter fun c => !(keptCells r.cells n).contains c) := rfl
      rw [e, List.append_assoc]
      refine List.Perm.append_left _ ?_
      refine (List.Perm.append_right _ (sortBy_perm _ _)).trans ?_
      have hk : keptCells r.cells n = r.cells.filter fun c => (keptCells r.cells n).contains c := by
        conv => lhs; unfold keptCells
        refine List.filter_congr fun c hc => ?_
        simp [keptCells, hc]
      rw [hc]
      conv => lhs; rhs; rw [hk]
      exact (List.perm_append_comm).trans (List.filter_append_perm _ _)
    · exact h

end Sys2Proof.Machine
end

