-- ==== Sys2Proof/Tests/Slice0.lean ====
section
/-!
SUPPORT. Tests of the model: an ill-formed term for each check of `WellFormed.lean`; for each command one or two
single steps on small states, with the results that the rule named gives; and for each statement for the provers
a state and operands that meet its hypotheses.
-/

namespace Sys2Proof.Tests

open Sys2Proof Sys2Proof.Machine

set_option Elab.async false

/-! ## Builders -/

/-- The state that a command answers. -/
def after (c : Instr) (s : State) : State :=
  match exec c s with
  | .next t => t
  | _ => s

/-- A sender: addresses 1 and 2, tag 2A07h. -/
def via : Via := ⟨1#48, 2#48, 0x2A07#16⟩

/-- Power is good, the clock runs at day 20000, 08:30 (grain 5760102), and the uplink link is up. -/
def day : State :=
  { State.reset with
    clock := ⟨20000, 510, 0, 0, .running, true⟩
    catering := { pages := Tab.gen fun i => emptyPage (20000 + (i.val + 6) % 14), tickets := Tab.fill 8 [] }
    ports := { freshPorts with uplinkUp := true } }

/-- The grain of `day`. -/
def g0 : Nat := 5760102

/-- An open room for 6 with a grain of turnaround. -/
def openRoom : Room := { freshRoom with state := .inService, capacity := 6, turnaround := 1, policy := .displaceLower }

/-- `day` with room 4 and room 5 open, room 4 with room 5 for its alternate. -/
def rooms : State :=
  { day with rooms := (day.rooms.set 4 { openRoom with alternates := [5] }).set 5 openRoom }

/-- A BOOK of room 4 for three, 09:00 to 09:30 of day 20000. -/
def ask : BookAsk :=
  { id := 100#16, room := 4, joined := false, cls := 1, attendees := 3, day := 20000, minute := 540,
    duration := 30, cateringRequired := false, title := none, order := none, organiser := none }

/-- A booking of room 4 from 09:00 to 09:30. -/
def rec (id : BookingId) (cls : Nat) (state : BookingState) : Record :=
  { id := id, room := 4, joined := false, cls := cls, attendees := 3, origin := .uplink, qs := g0 + 6, qe := g0 + 12,
    ss := g0 + 6, se := g0 + 13, state := state, endReason := none, releaseReason := none, badge := none,
    retireGrain := g0 + 13, title := none, order := none, organiser := none, cells := [0] }

/-- `rooms` with one record, in the list of room 4. -/
def holding (b : Record) : State :=
  { rooms with
    store := { emptyStore with
      free := (List.range Config.poolCells).drop 1
      records := [b]
      lists := emptyStore.lists.set 4 [b.id] } }

/-- A flight for a request, at a phase. -/
def flight (r : Request) (p : Phase) : Flight := { newFlight r with phase := p }

/-- The engine at work on a flight. -/
def working (f : Flight) (s : State) : State := { s with engine := { queue := [], inFlight := some f } }

/-- A glyph string of one glyph in a field of `n`. -/
def oneGlyph (n : Nat) : GlyphField := ⟨1, 0x41#8 :: List.replicate (n - 1) 0#8⟩

/-- The request code and the status of the last response sent: bytes 4 and 8 of its body. -/
def answered (s : State) : List Nat :=
  match s.ports.uplinkOut.getLast? with
  | some f => [byteAt f.body 3, byteAt f.body 8]
  | none => []

/-! ## Ill-formed commands are refused by `Instr.wf` -/

theorem test_wf_clockSet : (Instr.clockSet via 65536 0 0 false).wf = false ∧
    (Instr.clockSet via 0 65536 0 false).wf = false ∧ (Instr.clockSet via 0 0 256 false).wf = false := by decide +kernel

theorem test_wf_book : (Instr.book via { ask with room := 256 }).wf = false ∧
    (Instr.book via { ask with cls := 256 }).wf = false ∧
    (Instr.book via { ask with attendees := 65536 }).wf = false ∧
    (Instr.book via { ask with day := 65536 }).wf = false ∧
    (Instr.book via { ask with minute := 65536 }).wf = false ∧
    (Instr.book via { ask with duration := 65536 }).wf = false ∧
    (Instr.book via { ask with title := some ⟨1, []⟩ }).wf = false ∧
    (Instr.book via { ask with title := some { oneGlyph 24 with length := 256 } }).wf = false ∧
    (Instr.book via { ask with order := some ⟨256, 1, List.replicate 8 (1, 1)⟩ }).wf = false ∧
    (Instr.book via { ask with order := some ⟨0, 256, List.replicate 8 (1, 1)⟩ }).wf = false ∧
    (Instr.book via { ask with order := some ⟨0, 1, [(1, 1)]⟩ }).wf = false ∧
    (Instr.book via { ask with order := some ⟨0, 1, List.replicate 8 (256, 1)⟩ }).wf = false ∧
    (Instr.book via { ask with order := some ⟨0, 1, List.replicate 8 (1, 256)⟩ }).wf = false := by decide +kernel

/-- A MODIFY that names nothing. -/
def change : ModifyAsk :=
  { id := 100#16, times := none, room := none, attendees := none, title := none, order := none, organiser := none,
    cateringRequired := false }

theorem test_wf_modify : (Instr.modify via { change with times := some ⟨65536, 0, 1⟩ }).wf = false ∧
    (Instr.modify via { change with times := some ⟨0, 65536, 1⟩ }).wf = false ∧
    (Instr.modify via { change with times := some ⟨0, 0, 65536⟩ }).wf = false ∧
    (Instr.modify via { change with room := some 256 }).wf = false ∧
    (Instr.modify via { change with attendees := some 65536 }).wf = false ∧
    (Instr.modify via { change with title := some (some ⟨1, []⟩) }).wf = false ∧
    (Instr.modify via { change with order := some (some ⟨0, 1, []⟩) }).wf = false := by decide +kernel

theorem test_wf_listRoom : (Instr.listRoom via 256 0 0).wf = false ∧ (Instr.listRoom via 0 65536 0).wf = false ∧
    (Instr.listRoom via 0 0 65536).wf = false := by decide +kernel

theorem test_wf_tables : (Instr.tableRead via 256 0).wf = false ∧ (Instr.tableRead via 0 65536).wf = false ∧
    (Instr.tableWrite via 256 0 [0#8] []).wf = false ∧ (Instr.tableWrite via 0 65536 [0#8] []).wf = false ∧
    (Instr.tableWrite via 0 0 [] []).wf = false ∧
    (Instr.tableWrite via 0 0 (List.replicate 13 0#8) []).wf = false := by decide +kernel

theorem test_wf_roomWrites : (Instr.roomStateWrite via 65536 0).wf = false ∧
    (Instr.roomStateWrite via 0 256).wf = false ∧ (Instr.alternatesWrite via 65536 []).wf = false ∧
    (Instr.alternatesWrite via 0 (List.replicate 9 0)).wf = false ∧
    (Instr.alternatesWrite via 0 [256]).wf = false ∧
    (Instr.capacityPartnerWrite via 65536 none none).wf = false ∧
    (Instr.capacityPartnerWrite via 0 (some 256) none).wf = false ∧
    (Instr.capacityPartnerWrite via 0 none (some 256)).wf = false ∧
    (Instr.roomNameWrite via 65536 (oneGlyph 24)).wf = false ∧
    (Instr.roomNameWrite via 0 (oneGlyph 16)).wf = false := by decide +kernel

theorem test_wf_panelAndKitchenWrites : (Instr.panelKindBindingWrite via 65536 none none).wf = false ∧
    (Instr.panelKindBindingWrite via 1 (some 256) none).wf = false ∧
    (Instr.panelKindBindingWrite via 1 none (some 256)).wf = false ∧
    (Instr.kitchenStateWrite via 65536 0).wf = false ∧ (Instr.kitchenStateWrite via 0 256).wf = false ∧
    (Instr.kitchenNameWrite via 65536 (oneGlyph 16)).wf = false ∧
    (Instr.kitchenNameWrite via 0 (oneGlyph 24)).wf = false ∧
    (Instr.capacityProfileWrite via 65536 []).wf = false ∧
    (Instr.capacityProfileWrite via 0 [(96, 0)]).wf = false ∧
    (Instr.capacityProfileWrite via 0 [(0, 65536)]).wf = false := by decide +kernel

theorem test_wf_otherWrites : (Instr.overlayWrite via 65536 []).wf = false ∧
    (Instr.overlayWrite via 0 [(8, List.replicate 48 0#8)]).wf = false ∧
    (Instr.overlayWrite via 0 [(0, [])]).wf = false ∧ (Instr.dispositionWrite via 65536 none none).wf = false ∧
    (Instr.dispositionWrite via 0 (some 256) none).wf = false ∧
    (Instr.dispositionWrite via 0 none (some 256)).wf = false ∧
    (Instr.loopSettingsWrite via (some 256) none none).wf = false ∧
    (Instr.loopSettingsWrite via none (some 256) none).wf = false ∧
    (Instr.loopSettingsWrite via none none (some 256)).wf = false := by decide +kernel

theorem test_wf_noticesAndPanels : (Instr.noticePeek via 256).wf = false ∧
    (Instr.noticeTake via 256 1).wf = false ∧ (Instr.noticeTake via 0 256).wf = false ∧
    (Instr.noticeFlush via 256).wf = false ∧ (Instr.panelText via 256 []).wf = false ∧
    (Instr.panelOverlay via 256 0).wf = false ∧ (Instr.panelOverlay via 1 256).wf = false := by decide +kernel

theorem test_wf_loopAndPieces : (Instr.call 256 0 []).wf = false ∧ (Instr.call 1 16 []).wf = false ∧
    (Instr.call 1 0 (List.replicate 256 0#8)).wf = false ∧ (Instr.grainScan 98).wf = false ∧
    (Instr.dispatchPass 9).wf = false ∧ (Instr.zoneRowRecompose 97).wf = false := by decide +kernel

theorem test_wf_accepts : (Instr.book via ask).wf = true ∧ (Instr.grainScan 97).wf = true ∧
    (Instr.call 112 15 [1#8]).wf = true ∧ (Instr.tableWrite via 3 255 [0xF#8] []).wf = true := by decide +kernel

/-! ## One step of each command -/

/-- R1: an edge adds one to the sub-second count. -/
theorem test_referenceEdge_counts : (after .referenceEdge day).clock.subSecond = 1 := by decide +kernel

/-- `01` 1.7: the edge that ends 08:34:59 brings the clock to 08:35:00 and raises the boundary of grain 5760103. -/
theorem test_referenceEdge_boundary :
    let s := { day with clock := ⟨20000, 514, 59, 32767, .running, true⟩ }
    (after .referenceEdge s).clock = ⟨20000, 515, 0, 0, .running, true⟩ ∧
      (after .referenceEdge s).deliveries.storeBoundaries = [5760103] := by decide +kernel

/-- R2: the loss of the reference halts the clock. -/
theorem test_referenceLost : (after .referenceLost day).clock = ⟨20000, 510, 0, 0, .halted, false⟩ ∧
    (after .referenceLost day).exceptions.counters.get 19 = 1 := by decide +kernel

/-- R106: at day 20001 the page of day 20000 takes day 20014. -/
theorem test_dayRollover :
    let s := { day with deliveries := { noDeliveries with rollovers := [⟨20001, 1⟩] } }
    ((after .dayRollover s).catering.pages.get 8).tag = 20014 ∧
      ((after .dayRollover s).catering.pages.get 9).tag = 20001 := by decide +kernel

/-- R42, R88: the scan of the boundary 08:50 arms the booking of 09:00 in a room with an early window of 2. -/
theorem test_grainScan :
    let s := { holding (rec 100 1 .booked) with
      rooms := rooms.rooms.upd 4 fun e => { e with earlyWindow := 2 }
      deliveries := { noDeliveries with storeBoundaries := [g0 + 4] } }
    ((after (.grainScan 97) s).record? 100#16).map (·.state) = some .armed ∧
      (after (.grainScan 97) s).deliveries.scan = none := by decide +kernel

/-- An order of kitchen 0, of load 20, for delivery at 09:00. -/
def order (st : OrderState) : Order :=
  { kitchen := 0, offset := 0, lines := [(1, 2)], load := 20, qd := g0 + 6, qx := g0 + 2, state := st,
    dispatchPending := false, lateMark := false }

/-- R111: the pass of the boundary 08:40 dispatches the order that is due then. -/
theorem test_dispatchPass :
    let s := { holding { rec 100 1 .booked with order := some (order .placed) } with
      deliveries := { noDeliveries with cateringBoundaries := [g0 + 2] } }
    (((after (.dispatchPass 8) s).record? 100#16).bind (·.order)).map (·.state) = some .dispatched ∧
      ((after (.dispatchPass 8) s).catering.tickets.get 0).map (·.booking) = [100#16] := by decide +kernel

/-- R125: the composer clears the room's mark; while the clock is HALTED the boundary and the mark wait. -/
theorem test_zoneRowRecompose :
    let s := { day with
      composer := { day.composer with roomMarks := day.composer.roomMarks.set 4 true }
      deliveries := { noDeliveries with faceBoundaries := [g0 + 1] } }
    (after (.zoneRowRecompose 96) s).composer.roomMarks.get 4 = false ∧
      (after (.zoneRowRecompose 96) s).deliveries.recompose = none ∧
      (let t := after (.zoneRowRecompose 96) { s with clock := { s.clock with state := .halted } }
       t.composer.roomMarks.get 4 = true ∧ t.deliveries.faceBoundaries = [g0 + 1]) := by decide +kernel

/-- R8: a CLOCK_SET starts an UNSET clock whose reference is PRESENT, and is refused without it. -/
theorem test_clockSet :
    let s := { day with clock := { unsetClock with reference := true } }
    (after (.clockSet via 20000 510 0 false) s).clock = ⟨20000, 510, 0, 0, .running, true⟩ ∧
      answered (after (.clockSet via 20000 510 0 false) { day with clock := unsetClock }) = [0x0B, 1] := by
  decide +kernel

/-- Day 20001, 00:20, with an order of a BOOKED booking and one of an ENDED booking for the last day of its horizon. -/
def ahead : State :=
  let late := { order .placed with qd := 20014 * 288 + 100, qx := 20014 * 288 + 96 }
  let a := { rec 100 1 .booked with order := some late }
  let b := { rec 101 1 .ended with order := some { late with state := .delivered }, cells := [1] }
  { day with
    clock := ⟨20001, 20, 0, 0, .running, true⟩
    store := { emptyStore with
      free := (List.range Config.poolCells).drop 2, records := [a, b], lists := emptyStore.lists.set 4 [101#16] }
    catering := Catering.changeLoad
      { pages := Tab.gen fun i => emptyPage (20001 + (i.val + 5) % 14), tickets := Tab.fill 8 [] }
      0 (20014 * 288 + 100) (· + 40) }

/-- R107: a set back to day 20000 cuts day 20014: one order becomes CANCELLED, the ENDED record retires, and the page
takes day 20000. -/
theorem test_clockSet_back :
    let t := after (.clockSet via 20000 0 0 true) ahead
    t.store.records.map (fun b => (b.id, b.order.map (·.state))) = [(100#16, some .cancelled)] ∧
      (t.catering.pages.get 8).tag = 20000 ∧ t.exceptions.counters.get 5 = 1 := by decide +kernel

/-- R11: CLOCK_READ answers DONE and leaves the clock. -/
theorem test_clockRead : answered (after (.clockRead via) day) = [0x0C, 0] ∧
    (after (.clockRead via) day).clock = day.clock := by decide +kernel

/-- A request frame to node `n`. -/
def frame (n kind : Nat) (payload : Bytes) : EthFrame :=
  ⟨2#48, 1#48, 0x9A61#16, requestBytes n kind 0x2A07#16 payload, true⟩

/-- R162: a frame to this node is claimed; one to a higher node, with the cascade link DOWN, has NO_ROUTE. -/
theorem test_uplinkFrame : answered (after (.uplinkFrame (frame 0 0x0C [])) day) = [0x0C, 0] ∧
    answered (after (.uplinkFrame (frame 3 0x0C [])) day) = [0x0C, 3] := by decide +kernel

/-- R163: a frame at the cascade port goes out at the uplink port as it came. -/
theorem test_cascadeFrame :
    (after (.cascadeFrame (frame 3 0x0C [])) day).ports.uplinkOut = [frame 3 0x0C []] := by decide +kernel

/-- R50: an IDLE engine takes the BOOK; R48: a BOOK of room 96 is MALFORMED. -/
theorem test_book : (after (.book via ask) rooms).engine.inFlight = some (newFlight (.book via ask)) ∧
    answered (after (.book via { ask with room := 96 }) rooms) = [1, 4] := by decide +kernel

/-- R48: a MODIFY that names nothing is MALFORMED; one that names the room joins. -/
theorem test_modify : answered (after (.modify via change) rooms) = [2, 4] ∧
    (after (.modify via { change with room := some 5 }) rooms).engine.inFlight.isSome = true := by decide +kernel

/-- Rooms 4 and 5 open and each the other's partner. -/
def pairRooms : Tab Room 96 :=
  (rooms.rooms.upd 4 fun e => { e with partner := some 5 }).upd 5 fun e => { e with partner := some 4 }

/-- Those rooms, with records and the lists of the two. -/
def pair (bs : List Record) (l4 l5 : List BookingId) : State :=
  { rooms with
    rooms := pairRooms
    store := { emptyStore with
      free := (List.range Config.poolCells).drop 2, records := bs
      lists := (emptyStore.lists.set 4 l4).set 5 l5 } }

/-- The BOOK of rooms 4 and 5, for 09:00 to 09:30. -/
def joinedAsk : BookAsk := { ask with joined := true }

/-- That BOOK with its checks done. -/
def joining : Flight :=
  { flight (.book via joinedAsk) .place with
    duration := 30, cls := 1, qs := g0 + 6, qe := g0 + 12, span := ⟨g0 + 6, g0 + 13⟩ }

/-- R38: a joined BOOK stands in its room's list at one step, and in its partner's at the next. -/
theorem test_book_joined :
    let t := after .admissionCheck (working joining (pair [] [] []))
    t.store.lists.get 4 = [100#16] ∧ t.store.lists.get 5 = [] ∧ answered t = [] ∧
      (after .admissionCheck t).store.lists.get 5 = [100#16] ∧
      answered (after .admissionCheck t) = [1, 0] := by decide +kernel

/-- R73: a MODIFY whose conflict ARMED meanwhile is refused; its record stands again in its place and state, and its
order, DELIVERED while it was MOVING, is not set back. -/
theorem test_modify_putBack :
    let b := { rec 100 1 .moving with order := some (order .delivered) }
    let c := { rec 101 0 .armed with cells := [1] }
    let k := { rec 100 1 .armed with order := some (order .dispatched) }
    let a : ModifyAsk := { change with times := some ⟨20000, 540, 30⟩ }
    let f := { flight (.modify via a) (.check 12) with
      cls := 1, qs := g0 + 6, qe := g0 + 12, taken := some k }
    let t := after .admissionCheck (working f (pair [b, c] [101#16] []))
    (t.record? 100#16).map (fun b => (b.state, b.order.map (·.state))) = some (.armed, some .delivered) ∧
      100#16 ∈ t.store.lists.get 4 ∧ answered t = [2, 1] := by decide +kernel

/-- R63, R66: an order that step 4 placed and that is gone by the second insertion is answered PLACED, with its state
at completion. -/
theorem test_modify_orderResult :
    let b := { rec 100 1 .moving with joined := true }
    let j : Judged := { kitchen := 0, offset := 0, lines := [(1, 2)], load := 20, qd := g0 + 6, qx := g0 + 2 }
    let f := { flight (.modify via { change with times := some ⟨20000, 540, 30⟩ }) .place with
      qs := g0 + 6, qe := g0 + 12, span := ⟨g0 + 6, g0 + 13⟩, settlement := .place j,
      taken := some { b with state := .booked } }
    let s := after .admissionCheck (working f (pair [b] [] []))
    let t := after .admissionCheck (updOrder 100#16 (fun o => { o with state := .cancelled }) s)
    ((t.ports.uplinkOut.getLast?.map fun e => (e.body.drop 12).take 8).getD []).drop 5 =
      [byte OrderResult.placed.code, byte OrderState.cancelled.code, 0#8] := by decide +kernel

/-- R108: at an unchanged start a record's own order keeps its dispatch grain, whatever the menu's leads are now. -/
theorem test_modify_keepsQx :
    let o := { order .placed with kitchen := 1, qx := g0 + 2 }
    let b := { rec 100 1 .armed with order := some o }
    let s := pair [b] [100#16] []
    let s := { s with
      rooms := s.rooms.upd 5 fun e => { e with kitchen := some 0 }
      menu := s.menu.set 1 ⟨[], 10, 1, 0xFF#8⟩
      profile := s.profile.set 0 (Tab.fill 96 20) }
    let f (qs : Nat) := { flight (.modify via { change with room := some 5 }) (.check 11) with qs := qs, qe := qs + 6 }
    let qx (qs : Nat) := (after .admissionCheck (working (f qs) s)).engine.inFlight.map fun f =>
      match f.settlement with
      | .place j => j.qx
      | _ => 0
    qx (g0 + 6) = some (g0 + 2) ∧ qx (g0 + 7) = some (g0 + 6) := by decide +kernel

/-- R49: with 16 entries waiting a CANCEL is answered BUSY. -/
theorem test_cancel :
    let f := newFlight (.cancel via 1#16)
    let s := { rooms with engine := ⟨List.replicate 16 (.cancel via 1#16), some f⟩ }
    answered (after (.cancel via 100#16) s) = [3, 2] ∧
      (after (.cancel via 100#16) s).engine.queue.length = 16 := by decide +kernel

/-- R58, step 4: a BOOK of a room that is not IN_SERVICE is refused ROOM_UNAVAILABLE. -/
theorem test_admissionCheck_room :
    answered (after .admissionCheck (working (flight (.book via { ask with room := 7 }) (.check 4)) rooms)) =
      [1, 1] := by decide +kernel

/-- A BOOK whose checks have all held. -/
def placing : Flight :=
  { flight (.book via ask) .place with
    duration := 30, cls := 1, qs := g0 + 6, qe := g0 + 12, span := ⟨g0 + 6, g0 + 13⟩ }

/-- R62: the placement allocates the head cell, and the booking stands in its room's list. -/
theorem test_admissionCheck_places : ((after .admissionCheck (working placing rooms)).record? 100#16) =
      some { rec 100 1 .booked with cells := [0] } ∧
    (after .admissionCheck (working placing rooms)).store.lists.get 4 = [100#16] := by decide +kernel

/-- R73: a booking still BOOKED is displaced: it becomes MOVING and is pushed. -/
theorem test_displacement :
    let s := working (flight (.vacate 4) (.displaceVacated 100#16)) (holding (rec 100 1 .booked))
    ((after .displacement s).record? 100#16).map (·.state) = some .moving ∧
      (after .displacement s).engine.inFlight.map (·.stack) = some [⟨100#16, 4, 1⟩] := by decide +kernel

/-- A moving booking on the stack. -/
def moving : State :=
  working { flight (.vacate 4) .serve with stack := [⟨100#16, 4, 1⟩] }
    { holding (rec 100 1 .moving) with store := { (holding (rec 100 1 .moving)).store with
        lists := emptyStore.lists } }

/-- R77, R79: the moving booking is placed in the alternate. -/
theorem test_moveFramePop : (after (.moveFramePop 9) moving).store.lists.get 5 = [100#16] ∧
    ((after (.moveFramePop 9) moving).record? 100#16).map (·.room) = some 5 := by decide +kernel

/-- R82: the VACATE asks for the first BOOKED booking of the room. -/
theorem test_vacate :
    let s := holding (rec 100 1 .booked)
    let s := { s with rooms := s.rooms.upd 4 fun e => { e with state := .outOfService } }
    (after .vacate (working (flight (.vacate 4) (.vacateRead true)) s)).engine.inFlight.map (·.phase) =
      some (.displaceVacated 100#16) := by decide +kernel

/-- A door panel at loop address 4, bound to room 4, that waits for an answer. -/
def door (s : State) : State :=
  let p : Panel :=
    { freshPanel with kind := .door, binding := 4, state := .present, replies := [⟨7, 1, 0, .waiting⟩] }
  { s with panels := s.panels.set 3 p }

/-- The place that the door panel keeps. -/
def place : ReplyPlace := ⟨3, 7⟩

/-- The reply state that the door panel holds. -/
def reply (s : State) : List ReplyState := (s.panels.get 3).replies.map (·.state)

/-- R68: a BOOK_NOW of two service slots at 08:30 is CHECKED_IN until 09:00. -/
theorem test_bookNow :
    let t := after .bookNow (working (flight (.bookNow place 4 2) (.check 1)) (door rooms))
    reply t = [.ready ⟨.done, none, some 0xFF00#16, some (g0 + 6)⟩] ∧
      t.store.lists.get 4 = [0xFF00#16] := by decide +kernel

/-- R69: an EXTEND adds one service slot to the CHECKED_IN booking. -/
theorem test_extend :
    let t := after .extend (working (flight (.extend place 4) (.check 1)) (door (holding (rec 100 1 .checkedIn))))
    reply t = [.ready ⟨.done, none, some 100#16, some (g0 + 15)⟩] ∧
      (t.record? 100#16).map (·.se) = some (g0 + 16) := by decide +kernel

/-- R70: an END_NOW with nothing CHECKED_IN is refused NOT_LIVE; with a booking it is ENDED EARLY. -/
theorem test_endNow :
    let f := flight (.endNow place 4) (.check 1)
    reply (after .endNow (working f (door (holding (rec 100 1 .booked))))) =
        [.ready ⟨.refused, some .notLive, none, none⟩] ∧
      ((after .endNow (working f (door (holding (rec 100 1 .checkedIn))))).record? 100#16).map (·.endReason) =
        some (some .early) := by decide +kernel

/-- R94: a tap checks the ARMED booking in. -/
theorem test_tap :
    let s := { door (holding (rec 100 1 .armed)) with deliveries := { noDeliveries with taps := [⟨place, 4, 9#32⟩] } }
    ((after .tap s).record? 100#16).map (·.badge) = some (some 9#32) ∧
      reply (after .tap s) = [.ready ⟨.done, none, some 100#16, some (g0 + 12)⟩] := by decide +kernel

/-- An ARMED booking of room 5. -/
def armedBeside : Record :=
  { rec 101 1 .armed with room := 5, qs := g0, qe := g0 + 4, ss := g0, se := g0 + 5, cells := [1] }

/-- A joined booking checked in between its two insertions, and a tap at its partner room, where another is ARMED. -/
def entering : State :=
  let a := { rec 100 1 .checkedIn with joined := true }
  { working { joining with phase := .partner none } (pair [a, armedBeside] [100#16] [101#16]) with
    deliveries := { noDeliveries with taps := [⟨place, 5, 9#32⟩] } }

/-- R97: that tap is answered ALREADY_IN, so the second insertion leaves one CHECKED_IN booking in the list. -/
theorem test_tap_entering :
    let t := after .admissionCheck (after .tap entering)
    ((t.listed 5).filter fun b => b.state == .checkedIn).map (·.id) = [100#16] := by decide +kernel

/-- R93, R94: with nothing ARMED in that list, the tap is answered NOTHING_ARMED as ever. -/
theorem test_tap_emptyList :
    let s := door { entering with store := { entering.store with lists := entering.store.lists.set 5 [] } }
    reply (after .tap s) = [.ready ⟨.refused, some .nothingArmed, none, none⟩] := by decide +kernel

/-- A dispatched order with its ticket, and a pantry call for it. -/
def pantry (delivered : Bool) : State :=
  let s := door (holding { rec 100 1 .booked with order := some (order .dispatched) })
  { s with
    catering := { s.catering with tickets := s.catering.tickets.set 0 [⟨100#16, [], g0 + 6, 20, false, g0, false⟩] }
    deliveries := { noDeliveries with pantryCalls := [⟨place, 0, 100#16, delivered⟩] } }

/-- R114: an ACCEPT makes order and ticket ACCEPTED. -/
theorem test_accept :
    (((after .accept (pantry false)).record? 100#16).bind (·.order)).map (·.state) = some .accepted ∧
      ((after .accept (pantry false)).catering.tickets.get 0).map (·.accepted) = [true] := by decide +kernel

/-- R115: a DELIVERED removes the ticket. -/
theorem test_delivered :
    (((after .delivered (pantry true)).record? 100#16).bind (·.order)).map (·.state) = some .delivered ∧
      (after .delivered (pantry true)).catering.tickets.get 0 = [] := by decide +kernel

/-- R44: a QUERY of an id that the index does not hold is refused. -/
theorem test_query : answered (after (.query via 0x0C03#16) rooms) = [4, 1] ∧
    answered (after (.query via 100#16) (holding (rec 100 1 .booked))) = [4, 0] := by decide +kernel

/-- R45, R48: LIST_ROOM of room 4 is DONE, of room 96 MALFORMED. -/
theorem test_listRoom : answered (after (.listRoom via 4 20000 0) rooms) = [5, 0] ∧
    answered (after (.listRoom via 96 20000 0) rooms) = [5, 4] := by decide +kernel

/-- R166: a TABLE_READ of an absent entry is DONE with 46 bytes of ones. -/
theorem test_tableRead : answered (after (.tableRead via 1 96) day) = [6, 0] ∧
    tableImage day 1 96 = List.replicate 46 0xFF#8 := by decide +kernel

/-- R102, R167: a TABLE_WRITE of a menu entry names its weight alone, clamped to 15. -/
theorem test_tableWrite : (after (.tableWrite via 3 7 [2#8] [40#8, 9#8]) day).menu.get 7 =
    { freshItem with weight := 15 } := by decide +kernel

/-- R167, `12` 12.8: T8 has fields 0 to 9, of which the latch alone can be written. -/
theorem test_tableWrite_loop : (writeLoop 0 none 0x0FFF day).ignored = 0x03FB := by decide +kernel

/-- R20, R13: code 1 is IN_SERVICE, code 4 names no state. -/
theorem test_roomStateWrite : ((after (.roomStateWrite via 7 1) day).rooms.get 7).state = .inService ∧
    ((after (.roomStateWrite via 7 4) day).rooms.get 7).state = .unconfigured := by decide +kernel

/-- R17: repeats, the room itself and codes above 95 are left out. -/
theorem test_alternatesWrite : ((after (.alternatesWrite via 4 [5, 5, 4, 200, 6, 7, 8, 9]) day).rooms.get 4).alternates =
    [5, 6, 7, 8] := by decide +kernel

/-- R15: the second write of the capacity is ignored. -/
theorem test_capacityPartnerWrite :
    let t := after (.capacityPartnerWrite via 4 (some 12) none) day
    (t.rooms.get 4).capacity = 12 ∧
      ((after (.capacityPartnerWrite via 4 (some 20) (some 5)) t).rooms.get 4).capacity = 12 := by decide +kernel

/-- R27: a changed name marks the room. -/
theorem test_roomNameWrite : (after (.roomNameWrite via 4 (oneGlyph 24)) day).composer.roomMarks.get 4 = true ∧
    ((after (.roomNameWrite via 4 (oneGlyph 24)) day).rooms.get 4).name = [0x41#8] := by decide +kernel

/-- R143: a PANTRY panel takes a kitchen 0 to 7, and 8 is ignored. -/
theorem test_panelKindBindingWrite :
    ((after (.panelKindBindingWrite via 4 (some 2) (some 7)) day).panels.get 3).binding = 7 ∧
      ((after (.panelKindBindingWrite via 4 (some 2) (some 8)) day).panels.get 3).binding = 0 := by decide +kernel

/-- R103. -/
theorem test_kitchenStateWrite : ((after (.kitchenStateWrite via 2 1) day).kitchens.get 2).state = .paused := by
  decide +kernel

/-- R103. -/
theorem test_kitchenNameWrite : ((after (.kitchenNameWrite via 2 (oneGlyph 16)) day).kitchens.get 2).name =
    [0x41#8] := by decide +kernel

/-- R104: a capacity above 4095 is brought to it. -/
theorem test_capacityProfileWrite :
    ((after (.capacityProfileWrite via 2 [(36, 5000)]) day).profile.get 2).get 36 = 4095 := by decide +kernel

/-- R131: a row is replaced whole; an attribute code above 2 is NORMAL. -/
theorem test_overlayWrite :
    let t := after (.overlayWrite via 1 [(2, [0x42#8, 1#8, 0x43#8, 9#8])]) day
    (((t.overlays.get 1).get 2).get 0, ((t.overlays.get 1).get 2).get 1) =
      (⟨0x42#8, .inverse⟩, ⟨0x43#8, .normal⟩) := by decide +kernel

/-- R153. -/
theorem test_dispositionWrite : (after (.dispositionWrite via 0 (some 3) (some 7)) day).dispositions.get 0 =
    ⟨.hold, .advisory⟩ := by decide +kernel

/-- R136: the values are brought into range. -/
theorem test_loopSettingsWrite : (after (.loopSettingsWrite via (some 3) (some 101) none) day).settings =
    ⟨4, 100, 3⟩ := by decide +kernel

/-- R137: while the signal is ABSENT the latch is set again. -/
theorem test_signalLossLatchClear : (after (.signalLossLatchClear via) day).loop.lossLatch = true ∧
    (after (.signalLossLatchClear via) { day with loop := { downLoop with signal := true, lossLatch := true } }).loop.lossLatch
      = false := by decide +kernel

/-- A notice. -/
def notice : Notice := ⟨.clockJump, .none, 3#32, g0⟩

/-- `day` with three notices in queue 3. -/
def noticed : State :=
  { day with exceptions := { clearExceptions with queues := clearExceptions.queues.set 3 [notice, notice, notice] } }

/-- R157: a peek keeps the queue; queue 4 is none. -/
theorem test_noticePeek : (after (.noticePeek via 3) noticed).exceptions = noticed.exceptions ∧
    answered (after (.noticePeek via 4) noticed) = [8, 4] := by decide +kernel

/-- R157: a take of two leaves one; a take of nine is MALFORMED. -/
theorem test_noticeTake : (after (.noticeTake via 3 2) noticed).exceptions.queues.get 3 = [notice] ∧
    answered (after (.noticeTake via 3 9) noticed) = [9, 4] := by decide +kernel

/-- R158. -/
theorem test_noticeFlush : (after (.noticeFlush via 3) noticed).exceptions.queues.get 3 = [] := by decide +kernel

/-- R160: LOOP_SIGNAL_LOST is set again while the signal is ABSENT. -/
theorem test_alertClear :
    let s := { day with exceptions := { clearExceptions with latches := Tab.fill 22 true } }
    (after (.alertClear via 0x60000#32) s).exceptions.latches.get 17 = false ∧
      (after (.alertClear via 0x60000#32) s).exceptions.latches.get 18 = true := by decide +kernel

/-- R161: the latch that a reset cleared stays clear under an ALERT_CLEAR while the signal is ABSENT. -/
theorem test_alertClear_afterReset :
    (after (.alertClear via 0x40000#32) day).exceptions.latches.get 18 = false := by decide +kernel

/-- R155. -/
theorem test_countersRead :
    let s := { day with exceptions := { clearExceptions with counters := Tab.fill 22 5 } }
    (after (.countersRead via true) s).exceptions.counters.get 9 = 0 ∧
      (after (.countersRead via false) s).exceptions.counters.get 9 = 5 := by decide +kernel

/-- R128, R129: a GLYPHS unit of one glyph writes at the cursor of the free area, row 4, cell 0. -/
theorem test_panelText :
    (((after (.panelText via 4 [4#8, 1#8, 0x41#8]) (door rooms)).composer.faces.get 3).own.get 4).get 0 =
        ⟨0x41#8, .normal⟩ ∧
      answered (after (.panelText via 5 [4#8, 1#8, 0x41#8]) (door rooms)) = [0x0D, 1] := by decide +kernel

/-- R132: all panels take overlay 2; 113 names no panel. -/
theorem test_panelOverlay : ((after (.panelOverlay via 255 2) day).composer.faces.get 111).server = some 2 ∧
    answered (after (.panelOverlay via 113 2) day) = [0x0E, 4] := by decide +kernel

/-- R150: an echo of a loop that is not UP is refused. -/
theorem test_loopEcho : answered (after (.loopEcho via) day) = [0x11, 1] ∧
    (after (.loopEcho via) { day with loop := { downLoop with state := .up, signal := true } }).loop.echo =
      .waiting via := by decide +kernel

/-- R169: a PART_RESET is answered and the line reset is due; it empties the store. -/
theorem test_partReset_lineReset :
    let t := after (.partReset via) (holding (rec 100 1 .booked))
    answered t = [0x12, 0] ∧ t.ports.resetDue = true ∧ (after (.lineReset 2) t).store = emptyStore ∧
      (after (.lineReset 2) t).ports.node = 2 := by decide +kernel

/-- R169: after a line reset no response is waiting to leave, and the next reset has a draw of its own. -/
theorem test_lineReset_unsent :
    let t := after (.lineReset 0) (after (.clockRead via) day)
    (after (.clockRead via) day).ports.unsent = 1 ∧ t.ports.unsent = 0 ∧ t.ports.resets = 1 := by decide +kernel

/-- R168. -/
theorem test_resetLine :
    let t := after (.resetLineAssert 3) (holding (rec 100 1 .booked))
    t.store = emptyStore ∧ t.ports.resetAsserted = true ∧ t.ports.node = 3 ∧
      (after (.resetLineRelease 1) t).ports.resetAsserted = false := by decide +kernel

/-- R168: the power-on reset forgets the clock; without power a command does nothing. -/
theorem test_power : (after (.powerOnReset 5) day).clock = unsetClock ∧
    (after (.powerOnReset 5) day).ports.node = 5 ∧
    (after .referenceEdge (after .powerGoodFall day)).clock = day.clock := by decide +kernel

/-- R154: the hold makes the room HELD. -/
theorem test_hold :
    let s := { rooms with exceptions := { clearExceptions with holds := [.room 4] } }
    ((after .hold s).rooms.get 4).state = .held ∧ (after .hold s).exceptions.holds = [] := by decide +kernel

/-- R137. -/
theorem test_signals : (after .signalPresent day).loop.state = .syncing ∧
    (after .signalAbsent (after .signalPresent day)).loop.state = .down ∧
    (after .signalAbsent (after .signalPresent day)).exceptions.counters.get 18 = 1 := by decide +kernel

/-- A loop that is UP, in window 4, opened at 0. -/
def ring (s : State) : State :=
  { s with loop := { downLoop with state := .up, signal := true, fresh := false, currentWindow := 4, cursor := 0 } }

/-- R138: a SYNCING loop opens window 0 with a BEACON, which is awaited. -/
theorem test_windowOpen :
    let t := after (.windowOpen 7) (after .signalPresent day)
    t.loop.awaited = some ⟨.beacon, 0, 7, false⟩ ∧ t.loop.currentWindow = 0 ∧ t.ports.loopOut.length = 1 := by
  decide +kernel

/-- R139: the panel at address 4 is served its reply in window 4. -/
theorem test_ownFrameSend :
    let s := ring (door rooms)
    let s := { s with panels := s.panels.upd 3 fun p =>
      { p with replies := [⟨7, 1, 0, .ready ⟨.done, none, none, none⟩⟩] } }
    (after (.ownFrameSend 500) s).loop.awaited = some ⟨.reply 3 7, 0, 500, false⟩ ∧
      (after (.ownFrameSend 17001) s).loop.awaited = none := by decide +kernel

/-- The ring with a beacon of sequence 2 awaited since 100. -/
def awaiting : State :=
  let s := ring day
  { s with loop := { s.loop with state := .syncing, awaited := some ⟨.beacon, 2, 100, false⟩ } }

/-- R141: the beacon comes home and the loop is UP. -/
theorem test_ownFrameReturn :
    (after (.ownFrameReturn (LoopFrame.bytes ⟨0, 0, 1, 2#8, List.replicate 10 0#8⟩) 600) awaiting).loop.state = .up := by
  decide +kernel

/-- R142: the third miss breaks a loop that is UP. -/
theorem test_returnTimeout :
    let s := { awaiting with loop := { awaiting.loop with state := .up, misses := 2 } }
    (after .returnTimeout s).loop.state = .broken ∧ (after .returnTimeout awaiting).loop.state = .syncing := by
  decide +kernel

/-- R145: a frame of an unbound panel is stripped; one of a bound panel for another is sent on with its seen mark. -/
theorem test_panelFrame :
    let f : LoopFrame := ⟨9, 4, 5, 1#8, []⟩
    (after (.panelFrame f.bytes 5) (ring day)).loop.strays = 1 ∧
      (after (.panelFrame f.bytes 5) (ring (door day))).ports.loopOut =
        [LoopFrame.bytes ⟨9, 4, 5, 0x41#8, []⟩] := by decide +kernel

/-- The ring with loop-out taken until 100 by a frame sent on (R145). -/
def taken (s : State) : State := { s with ports := { s.ports with loopBusyUntil := 100 } }

/-- R145, R140: the beacon due at 80 is held back, and awaited from its sending at 100. -/
theorem test_windowOpen_heldBack :
    let s := after (.windowOpen 80) (taken (ring day))
    s.loop.awaited = none ∧ s.ports.loopOut = [] ∧ s.loop.held.isSome = true ∧
      (after (.ownFrameSend 99) s).ports.loopOut = [] ∧
      (after (.ownFrameSend 100) s).loop.awaited = some ⟨.beacon, 0, 100, false⟩ ∧
      (after (.ownFrameSend 100) s).loop.held = none ∧ (after (.ownFrameSend 100) s).ports.loopOut.length = 1 := by
  decide +kernel

/-- R141: a frame of origin 0 with the sequence of a beacon not yet sent is stripped. R137: in DOWN nothing is sent. -/
theorem test_heldBack_unsent :
    let s := after (.windowOpen 80) (taken (ring day))
    let f : LoopFrame := ⟨0, 0, 1, 0#8, List.replicate 10 0#8⟩
    (after (.ownFrameReturn f.bytes 90) s).loop.strays = 1 ∧
      (after (.ownFrameSend 100) (after .signalAbsent s)).ports.loopOut = [] := by decide +kernel

/-- R150: an echo that loop-out keeps waiting is WAITING, and refused where the signal is lost. -/
theorem test_echo_heldBack :
    let s := taken (ring day)
    let s := after (.ownFrameSend 80) { s with loop := { s.loop with echo := .waiting via } }
    s.loop.echo = .waiting via ∧ answered (after .signalAbsent s) = [0x11, 1] := by decide +kernel

/-- R135: a CALL of origin 0 is matched as an own frame: with none awaited, ROGUE_FRAME of detail 2. -/
theorem test_call_origin0 :
    (after (.call 0 0 [3#8]) (ring day)).exceptions =
      (raise .rogueFrame (.panel 0) none 2#32 (ring day)).exceptions := by decide +kernel

/-- R146: a tap in the panel's window is handed on; out of it, it is a violation. -/
theorem test_call :
    let p : Bytes := [1#8, 0#8, 0#8, 0#8, 9#8]
    (after (.call 4 0 p) (ring (door rooms))).deliveries.taps = [⟨⟨3, 0⟩, 4, 9#32⟩] ∧
      ((after (.call 4 0 p) { ring (door rooms) with
          loop := { (ring rooms).loop with currentWindow := 5 } }).panels.get 3).violations = 1 := by decide +kernel

/-- R162: the report of the cascade link. -/
theorem test_linkStateChange : (after (.linkStateChange false true) day).ports.cascadeUp = true := by decide +kernel

/-- The step takes the front command; on an empty queue the part idles. -/
theorem test_step : (match step { day with pending := [.referenceEdge, .hold] } with
    | .next t => (t.clock.subSecond, t.pending)
    | _ => (0, [])) = (1, [.hold]) := by decide +kernel

/-- R171: the check word over the digits 1 to 9 is 29B1h, the value published for this check. -/
theorem test_checkWord : checkWord [0x31#8, 0x32#8, 0x33#8, 0x34#8, 0x35#8, 0x36#8, 0x37#8, 0x38#8, 0x39#8] =
    0x29B1#16 := by decide +kernel

/-- `12` 12.9: the QUERY of booking 0C03h, byte by byte, is that request. -/
theorem test_queryFrame :
    let b : Bytes := [1#8, 0#8, 0#8, 4#8, 0x2A#8, 0x07#8, 0#8, 2#8, 0x0C#8, 0x03#8]
    ((requestBytes 0 4 0x2A07#16 [0x0C#8, 0x03#8]).take 10 = b) ∧
      ((readEnvelope (withCheck b)).bind fun e => readRequest via e.kind e.payload) =
        some (.query via 0x0C03#16) := by decide +kernel

/-- R170: a grain number is four bytes, the most significant first; Qs of the example is 0057E47Bh. -/
theorem test_word32 : word32 5760123 = [0x00#8, 0x57#8, 0xE4#8, 0x7B#8] := by decide +kernel

/-! ## Witnesses: the hypotheses of the statements can be met

Each theorem is named for the statement whose hypotheses it meets. Where the only hypothesis is that the part
takes requests, `witness_taking` is the witness: CapacityPartnerWriteLocksAtItsFirstValue,
RoomNameWriteMarksAChangedName, SettingsWritesChangeOnlyTheirEntries and
AlertClearAndCountersReadAnswerAndClear. -/

/-- An outcome that is a next state. -/
def isNext : Host.Outcome State Fault Refusal → Bool
  | .next _ => true
  | _ => false

theorem exists_of_isNext {o : Host.Outcome State Fault Refusal} (h : isNext o = true) : ∃ t, o = .next t := by
  cases o with
  | next t => exact ⟨t, rfl⟩
  | fault _ => cases h
  | refused _ => cases h

theorem witness_taking : day.taking = true := by decide +kernel

theorem witness_StepRunsTheFrontCommand :
    { day with pending := [.hold, .tap] }.pending = [.hold, .tap] ∧ day.pending = [] := by decide +kernel

/-- `day` with one edge waiting. -/
def waiting : State := { day with pending := [.referenceEdge] }

theorem witness_StepKeepsTheClockLegal : waiting.clock.Legal ∧ (∀ c, c ∈ waiting.pending → c.wf = true) ∧
    ∃ t, step waiting = .next t :=
  ⟨by unfold Clock.Legal; decide +kernel, by decide +kernel, exists_of_isNext (by decide +kernel)⟩

theorem idleEngine_legal : idleEngine.Legal := ⟨by decide, fun _ => rfl, fun _ h => by cases h⟩

theorem witness_StepKeepsTheQueuesAndPagesLegal : waiting.engine.Legal ∧ waiting.exceptions.Legal ∧
    waiting.catering.Legal ∧ ∃ t, step waiting = .next t :=
  ⟨(show waiting.engine = idleEngine by decide +kernel) ▸ idleEngine_legal, by unfold Exceptions.Legal; decide +kernel,
    by unfold Catering.Legal; decide +kernel, exists_of_isNext (by decide +kernel)⟩

/-- A booking of room 4 from 09:00, and a BOOK of the same room from 10:00 whose placement is the next step. -/
def storing : State :=
  let f := { placing with qs := g0 + 18, qe := g0 + 24, span := ⟨g0 + 18, g0 + 25⟩ }
  { working f (holding (rec 99 1 .booked)) with pending := [.admissionCheck] }

theorem storing_store : storing.store.records = [rec 99 1 .booked] ∧
    (∀ q, storing.store.lists.get q = if q = 4 then [99#16] else []) ∧
    storing.store.free = (List.range 3072).drop 1 := by decide +kernel

/-- The invariants of the store, the lists and what is in hand, in a state where the engine is about to insert. -/
theorem witness_StepKeepsTheQueuesAndPagesLegal_store : storing.store.Legal ∧ NewIdInHand storing ∧
    ListsLegal storing ∧ ListsAgree storing ∧ PlacementClear storing ∧ ∃ t, step storing = .next t := by
  have new : storing.record? 100#16 = none := by decide +kernel
  have clear : FreeFor (asRoom ask.room) (g0 + 18) (g0 + 25) storing := by
    unfold FreeFor; decide +kernel
  have flying : ∀ f, storing.engine.inFlight = some f →
      f = { placing with qs := g0 + 18, qe := g0 + 24, span := ⟨g0 + 18, g0 + 25⟩ } := fun f h =>
    (Option.some.inj h).symm
  refine ⟨⟨?_, by decide +kernel, by decide +kernel⟩, ?_, ?_, ⟨by decide +kernel, fun q => ⟨?_, ?_⟩⟩, ?_,
    exists_of_isNext (by decide +kernel)⟩
  · refine List.perm_append_comm.trans ?_
    rw [show (storing.store.records.flatMap fun b => b.cells) = (List.range 3072).take 1 from by decide +kernel,
      storing_store.2.2, List.take_append_drop]
  · intro f v a h hr _
    obtain rfl := flying f h
    cases hr
    exact new
  · unfold ListsLegal; decide +kernel
  · revert q; decide +kernel
  · intro id h
    rw [storing_store.2.1] at h
    split at h
    case isFalse => cases h
    rename_i hq
    obtain rfl := List.mem_singleton.mp h
    subst hq
    exact ⟨rec 99 1 .booked, by decide +kernel, by decide +kernel, by decide +kernel, by decide +kernel⟩
  · intro f h
    obtain rfl := flying f h
    refine ⟨fun v a hr _ => ?_, fun _ _ _ hr => ?_, fun _ _ _ _ _ hr => ?_, fun _ _ _ _ hp => ?_,
      fun _ _ _ hp => ?_, fun m b hm => ?_, fun _ _ _ _ hr => ?_⟩
    · cases hr
      exact ⟨new, clear⟩
    · cases hr
    · cases hr
    · cases hp
    · cases hp
    · obtain ⟨h, -⟩ | ⟨_, -, h | h | ⟨_, h⟩⟩ := hm <;> cases h
    · cases hr

theorem witness_StepKeepsTheLoopLegal : waiting.settings.Legal ∧ waiting.loop.Legal ∧
    ∃ t, step waiting = .next t :=
  ⟨by unfold LoopSettings.Legal; decide +kernel, by unfold Loop.Legal; decide +kernel,
    exists_of_isNext (by decide +kernel)⟩

theorem panels_legal : ∀ a, (waiting.panels.get a).Legal := by unfold Panel.Legal; decide +kernel

theorem witness_StepKeepsThePanelsLegal : (∀ a, (waiting.panels.get a).Legal) ∧ ∃ t, step waiting = .next t :=
  ⟨panels_legal, exists_of_isNext (by decide +kernel)⟩

/-- `rooms` with room 4's capacity and partner locked. -/
def locked : State :=
  { rooms with rooms := rooms.rooms.upd 4 fun e =>
      { e with capacityLocked := true, partnerLocked := true, partner := some 5 } }

theorem witness_LockedCapacityAndPartnerStand : (∀ straps, Instr.lineReset 0 ≠ .powerOnReset straps) ∧
    (∃ t, exec (.lineReset 0) locked = .next t) ∧ (locked.rooms.get 4).capacityLocked = true ∧
    (locked.rooms.get 4).partnerLocked = true :=
  ⟨nofun, exists_of_isNext (by decide +kernel), by decide +kernel, by decide +kernel⟩

/-- `day` with another clock. -/
def clockAt (c : Clock) : State := { day with clock := c }

theorem witness_ReferenceEdgeAdvancesARunningClock :
    (∀ c, c ∈ [⟨20000, 510, 0, 0, .halted, false⟩, ⟨20000, 510, 0, 32766, .running, true⟩,
        ⟨65535, 1439, 59, 32767, .running, true⟩, ⟨65535, 1439, 58, 32767, .running, true⟩,
        ⟨20000, 1439, 59, 32767, .running, true⟩] →
      (clockAt c).ports.powerGood = true ∧ (clockAt c).clock.Legal) := by
  unfold Clock.Legal; decide +kernel

theorem witness_ReferenceLostHaltsARunningClock : day.ports.powerGood = true ∧ day.clock.reference = true ∧
    day.clock.state = .running ∧ (clockAt unsetClock).clock.reference = false := by decide +kernel

theorem witness_ClockSetIsCheckedThenStartsAnUnsetClock :
    (1439 < 1440 ∨ 59 < 0) ∧ (1439 < 0 ∨ 59 < 60) ∧ (clockAt unsetClock).taking = true ∧
      (clockAt unsetClock).clock.reference = false ∧
      (day.clock.reference = true ∧ day.clock.state ≠ .unset ∧
        (20000 * 288 + 504 / 5) + 2 ≤ day.clock.day * 288 + day.clock.minute / 5) ∧
      (let s := clockAt { unsetClock with reference := true }
       s.taking = true ∧ s.clock.reference = true ∧ s.clock.state = .unset) := by decide +kernel

theorem witness_ClockSetMovesAClockOnwardOrWithinItsDay :
    day.taking = true ∧ day.clock.reference = true ∧ day.clock.state ≠ .unset ∧
      (∀ p, p ∈ [(20000, 505, false), (20000, 1439, false), (20001, 0, false), (65535, 1439, false), (20000, 0, true)] →
        p.2.1 ≤ 1439 ∧ day.clock.day ≤ p.1 ∧
          (day.clock.day * 288 + day.clock.minute / 5 ≤ p.1 * 288 + p.2.1 / 5 + 1 ∨ p.2.2 = true)) := by
  decide +kernel

theorem witness_ClockSetToAnEarlierDayRealignsThePages :
    let s := clockAt ⟨20001, 4, 0, 0, .running, true⟩
    s.taking = true ∧ (∀ i, (s.catering.pages.get i).tag % 14 = i.val) ∧ s.clock.reference = true ∧
      s.clock.state ≠ .unset ∧ 20000 < s.clock.day ∧
      s.clock.day * 288 + s.clock.minute / 5 ≤ 20000 * 288 + 1435 / 5 + 1 := by decide +kernel

theorem witness_ClockSetToAnEarlierDay_cuts :
    ahead.taking = true ∧ ahead.catering.Legal ∧ ahead.clock.reference = true ∧ ahead.clock.state ≠ .unset ∧
      20000 < ahead.clock.day ∧ ahead.deliveries.rollovers = [] ∧ (ahead.store.records.map (·.id)).Nodup ∧
      (∀ b, b ∈ ahead.store.records → b.order.any (fun o =>
        o.state != .cancelled && (ahead.catering.pages.get 8).tag == o.qd / 288 &&
          decide (20000 + 13 < o.qd / 288)) = true) ∧
      ahead.store.records.map (·.state) = [.booked, .ended] ∧ (ahead.catering.pages.get 9).tag ≤ 20000 + 13 := by
  unfold Catering.Legal; decide +kernel

theorem witness_DayRolloverGivesPassedPagesToTheHorizon :
    let s := { day with deliveries := { noDeliveries with rollovers := [⟨20001, 1⟩] } }
    s.ports.powerGood = true ∧ s.deliveries.rollovers = [⟨20001, 1⟩] ∧ (s.catering.pages.get 8).tag < 20001 ∧
      20001 ≤ (s.catering.pages.get 9).tag := by decide +kernel

theorem witness_ReadsAnswerWhatStandsAndChangeNothing :
    (holding (rec 100 1 .booked)).taking = true ∧
      (holding (rec 100 1 .booked)).record? 100#16 = some (rec 100 1 .booked) ∧
      (holding (rec 100 1 .booked)).record? 101#16 = none ∧ (96 ≤ 96 ∨ 65535 < 0) ∧ (96 ≤ 0 ∨ 65535 < 65536) ∧
      ∀ p, p ∈ [(9, 0), (1, 96), (2, 0), (2, 113), (3, 256), (4, 8), (5, 8), (6, 8), (7, 22), (0, 1), (8, 1)] →
        (9 ≤ p.1 ∨ (p.1 = 1 ∧ 96 ≤ p.2) ∨ (p.1 = 2 ∧ (p.2 = 0 ∨ 112 < p.2)) ∨ (p.1 = 3 ∧ 256 ≤ p.2) ∨
          ((p.1 = 4 ∨ p.1 = 5 ∨ p.1 = 6) ∧ 8 ≤ p.2) ∨ (p.1 = 7 ∧ 22 ≤ p.2) ∨
          ((p.1 = 0 ∨ p.1 = 8) ∧ p.2 ≠ 0)) := by decide +kernel

/-- The envelope of the request frames below. -/
def envelope (version direction target kind : Nat) (payload : Bytes) : Envelope :=
  ⟨version, direction, target, kind, 0x2A07#16, payload⟩

/-- A frame with any version, direction and target. -/
def anyFrame (version direction target kind : Nat) : EthFrame :=
  ⟨2#48, 1#48, 0x9A61#16,
    withCheck [byte version, byte direction, byte target, byte kind, 0x2A#8, 0x07#8, 0#8, 0#8], true⟩

theorem witness_ClaimedFrameDoesItsRequest :
    day.taking = true ∧ (anyFrame 1 0 0 0x0C).checkOk = true ∧ day.ports.node.val = 0 ∧
      readEnvelope (anyFrame 1 0 0 0x0C).body = some (envelope 1 0 0 0x0C []) ∧
      readRequest ⟨1#48, 2#48, 0x2A07#16⟩ 0x0C [] = some (.clockRead ⟨1#48, 2#48, 0x2A07#16⟩) ∧
      readEnvelope (anyFrame 2 0 0 0x0C).body = some (envelope 2 0 0 0x0C []) ∧
      readEnvelope (anyFrame 1 0 0 0x13).body = some (envelope 1 0 0 0x13 []) ∧
      readRequest ⟨1#48, 2#48, 0x2A07#16⟩ 0x13 [] = none := by decide +kernel

theorem witness_UnclaimedFramesAreRouted :
    day.taking = true ∧ readEnvelope [] = none ∧ { anyFrame 1 0 0 0x0C with frameType := 0x0800#16 }.frameType ≠ 0x9A61#16 ∧
      readEnvelope (anyFrame 1 1 0 0x0C).body = some (envelope 1 1 0 0x0C []) ∧
      readEnvelope (anyFrame 1 0 1 0x0C).body = some (envelope 1 0 1 0x0C []) ∧ day.ports.cascadeUp = false ∧
      day.ports.node.val < 1 ∧ { day.ports with node := 1 }.node.val > 0 := by decide +kernel

theorem witness_FramesReadBackFromTheirBytes :
    let f : LoopFrame := ⟨255, 255, 2, 0xFF#8, List.replicate 50 0#8⟩
    f.destination < 256 ∧ f.payload.length < 256 ∧ requiredPayload f.kind f.payload ≤ f.payload.length ∧
      readLoop f.bytes = some f ∧ readEnvelope (requestBytes 255 255 0xFFFF#16 [1#8]) =
        some ⟨1, 0, 255, 255, 0xFFFF#16, [1#8]⟩ := by decide +kernel

theorem witness_TableWriteTakesNamedFieldsAlone : day.taking = true ∧ (∀ a, (day.panels.get a).Legal) ∧
    (9 ≤ 9 ∨ ([0#8, 0#8] : Bytes).all (· == 0#8) = true) := ⟨witness_taking, panels_legal, by decide⟩

/-- Masks that name all the fields of the clauses of T1, T2 and T4. -/
theorem witness_TableWriteTakesNamedFieldsAlone_masks : 0xF0#8 &&& 0x0F#8 = 0#8 ∧ (0xF7#8).getLsbD 3 = false ∧
    0xFC#8 &&& 0x03#8 = 0#8 ∧ 0xF6#8 &&& 0x09#8 = 0#8 ∧
    bindingFits (day.panels.get 3).kind (day.panels.get 3).binding = true := by decide +kernel

theorem witness_TableWriteOfOneFieldIsTheRowOfThatField : 255 < 256 ∧ (oneGlyph 24).wf 24 = true ∧
    (oneGlyph 16).wf 16 = true ∧ [5, 5, 4, 200, 6, 7, 8, 9, 10].length < 256 ∧
    (∀ n, n ∈ [5, 5, 4, 200, 6, 7, 8, 9, 255] → n < 256) ∧ 65535 < 65536 ∧
    (List.replicate 48 0x41#8).length = 48 := by decide +kernel

/-- `holding` one booking, with the engine's queue filled to `n`. -/
def queued (n : Nat) : State :=
  { holding (rec 100 1 .booked) with
    engine := ⟨List.replicate n (.cancel via 1#16), some (newFlight (.cancel via 1#16))⟩ }

theorem witness_RoomStateWriteIsTakenOrIgnored :
    (∀ n, n ∈ [15, 16] → (queued n).taking = true ∧ ((queued n).rooms.get 4).state = .inService ∧
      (∃ b, b ∈ (queued n).listed 4 ∧ b.state = .booked) ∧ vacateKnown (queued n) 4 = false ∧
      ¬ ((queued n).store.lists.get 4 = [])) ∧
    (rooms.store.lists.get 4 = [] ∧ rooms.store.records = [] ∧ rooms.engine.inFlight = none ∧
      (rooms.rooms.get 4).state ≠ .unconfigured) := by decide +kernel

theorem witness_AlternatesWriteBringsTheListIntoForm : rooms.taking = true ∧
    [5, 6, 7, 8, 9, 95, 96, 255].length ≤ 8 ∧ (95 ∈ [4, 4, 95, 96] ∧ 95 < 96 ∧ 95 ≠ (4 : RoomNo).val) ∧
    ((after (.alternatesWrite via 4 [4, 4, 95, 96]) rooms).rooms.get 4).alternates.length < 4 ∧ 96 ≤ 96 ∧
    ([5, 6, 5, 7, 8, 9].take 8)[2]? = some 5 ∧ ([5, 6, 5, 7, 8, 9].take 8)[5]? = some 9 := by decide +kernel

theorem witness_KitchenWritesRecomposeItsPantryFaces : (pantry false).taking = true ∧
    ((pantry false).catering.tickets.get 0).length ≤ 12 ∧
    ((pantry false).catering.tickets.get 0)[1 - 1]? = some ⟨100#16, [], g0 + 6, 20, false, g0, false⟩ ∧ 20 < 10000 ∧
    ((pantry false).catering.tickets.get 0)[7 - 1]? = none := by decide +kernel

theorem witness_PanelKindBindingWriteRenewsAChangedPanel : (door rooms).taking = true ∧
    ((door rooms).panels.get 3).kind ≠ .pantry ∧ ((door rooms).panels.get 3).binding ≠ 95 := by decide +kernel

/-- `day` with a load of 20 at slot 36 of kitchen 2 on the page of this day. -/
def loaded : State :=
  { day with catering := day.catering.changeLoad 2 (20000 * 288 + 108) (· + 20) }

theorem witness_CapacityProfileWriteReportsSlotsBelowLoad :
    loaded.taking = true ∧ (∀ p, p ∈ [(36, 10), (95, 4096)] → p.1 < 96) ∧
      (∀ i, i ∈ ([36] : List (Fin 96)) ↔ (∃ p, p ∈ [(36, 10), (95, 4096)] ∧ p.1 = i.val) ∧
        ∃ j : Fin 14, loaded.grain < (loaded.catering.pages.get j).tag * 288 + 3 * i.val + 3 ∧
          ((after (.capacityProfileWrite via 2 [(36, 10), (95, 4096)]) loaded).profile.get 2).get i <
            ((loaded.catering.pages.get j).loads.get 2).get i) := by decide +kernel

theorem witness_OverlayWriteMarksChangedRowsWhereShown : day.taking = true ∧
    ∀ p, p ∈ [(7, List.replicate 48 0#8), (0, [])] → p.1 < 8 := by decide +kernel

theorem witness_NoticeStatements : noticed.taking = true ∧ 4 ≤ 4 ∧ (4 ≤ 3 ∨ 0 < 1 ∨ 8 < 0) ∧
    (4 ≤ 3 ∨ 9 < 1 ∨ 8 < 9) ∧ (3 : Fin 4).val = 3 ∧ 1 ≤ 1 ∧ 8 ≤ 8 := by decide +kernel

theorem witness_HoldClosesAnOpenRoomOrKitchen :
    let s := { rooms with exceptions := { clearExceptions with holds := [.room 4, .kitchen 7] } }
    s.ports.powerGood = true ∧ s.exceptions.holds = [.room 4, .kitchen 7] ∧
      (s.rooms.get 4).state = .inService ∧ (s.rooms.get 95).state ≠ .inService ∧
      (s.kitchens.get 7).state = .opened := by decide +kernel

/-- The engine at work on a flight, power good and nothing vacate-pending. -/
theorem atWork_working (f : Flight) (s : State) (p : s.ports.powerGood = true)
    (v : ∀ r, (s.rooms.get r).vacatePending = false) : AtWork (working f s) f := ⟨p, rfl, v⟩

theorem rooms_atWork (f : Flight) : AtWork (working f rooms) f :=
  atWork_working f rooms (by decide +kernel) (by decide +kernel)

theorem holding_atWork (f : Flight) (b : Record) : AtWork (working f (holding b)) f :=
  atWork_working f (holding b) (by rw [show (holding b).ports = rooms.ports from rfl]; decide +kernel)
    (by rw [show (holding b).rooms = rooms.rooms from rfl]; decide +kernel)

theorem pair_atWork (f : Flight) (bs : List Record) (l4 l5 : List BookingId) :
    AtWork (working f (pair bs l4 l5)) f :=
  atWork_working f (pair bs l4 l5) (by rw [show (pair bs l4 l5).ports = rooms.ports from rfl]; decide +kernel)
    (by rw [show (pair bs l4 l5).rooms = pairRooms from rfl]; decide +kernel)

/-- The largest fields that the form check of a BOOK lets through. -/
def fullAsk : BookAsk :=
  { ask with
    room := 95, attendees := 500, minute := 1439, title := some ⟨24, List.replicate 24 0x41#8⟩
    order := some ⟨6, 8, List.replicate 8 (1, 99)⟩ }

theorem witness_AdmissionRequestsJoinTheQueueOrAreTurnedAway :
    (queued 16).taking = true ∧ 16 ≤ (queued 16).engine.queue.length ∧ (queued 15).engine.queue.length < 16 ∧
      (queued 15).engine.inFlight ≠ none ∧ rooms.engine.queue = [] ∧ rooms.engine.inFlight = none ∧
      (fullAsk.room < 96 ∧ 1 ≤ fullAsk.attendees ∧ fullAsk.attendees ≤ 500 ∧ fullAsk.minute < 1440 ∧
        (∀ o, o ∈ fullAsk.order → o.offset ≤ 6 ∧ 1 ≤ o.count ∧ o.count ≤ 8 ∧
          ∀ l, l ∈ o.lines.take o.count → 1 ≤ l.2 ∧ l.2 ≤ 99)) ∧
      (∀ a, a ∈ [{ ask with room := 96 }, { ask with attendees := 0 }, { ask with attendees := 501 },
          { ask with minute := 1440 }] →
        ¬ (a.room < 96 ∧ 1 ≤ a.attendees ∧ a.attendees ≤ 500 ∧ a.minute < 1440)) ∧
      change.room = none ∧ { change with attendees := some 500 }.attendees ≠ none := by decide +kernel

theorem witness_BookChecksRunInOrder (n : Nat) :
    AtWork (working (flight (.book via ask) (.check n)) rooms) (flight (.book via ask) (.check n)) ∧
      (flight (.book via ask) (.check n)).request = .book via ask ∧ ask.room = (4 : RoomNo).val :=
  ⟨rooms_atWork _, rfl, rfl⟩

/-- The step bounds of the checks: each side of each boundary is met by some request or state. -/
theorem witness_BookChecksRunInOrder_bounds :
    (0xFEFF#16).toNat < 0xFF00 ∧ ¬ (0xFF00#16).toNat < 0xFF00 ∧ rooms.clock.state = .running ∧
      day.clock.horizonEnd = 20014 * 288 ∧ (20000 * 288 + 509 / 5 < g0) ∧ ¬ (20000 * 288 + 510 / 5 < g0) ∧
      (20013 * 288 + (1435 + 5 + 4) / 5 ≤ 20014 * 288) ∧ ¬ (20013 * 288 + (1435 + 6 + 4) / 5 ≤ 20014 * 288) ∧
      6 ≤ (rooms.rooms.get 4).capacity ∧ ¬ 7 ≤ (rooms.rooms.get 4).capacity ∧
      (∀ b, b ∈ (holding (rec 100 1 .booked)).store.records → b.id ≠ 101#16) ∧
      ¬ ∀ b, b ∈ (holding (rec 100 1 .booked)).store.records → b.id ≠ 100#16 := by decide +kernel

/-- A menu with item 1 of weight 10 and lead 4, and kitchen 0 that serves room 4. -/
def served (load : Nat) : State :=
  let s := holding (rec 100 0 .booked)
  { s with
    rooms := s.rooms.upd 4 fun e => { e with kitchen := some 0 }
    menu := s.menu.set 1 ⟨[], 10, 4, 0xFF#8⟩
    kitchens := s.kitchens.upd 0 fun k => { k with acceptLimit := 20 }
    profile := s.profile.set 0 (Tab.fill 96 20)
    catering := if load = 0 then s.catering else s.catering.changeLoad 0 (g0 + 6) (· + load) }

/-- A BOOK with an order of two of item 1. -/
def orderAsk : BookAsk := { ask with order := some ⟨0, 1, List.replicate 8 (1, 2)⟩ }

theorem witness_BookOrderAndConflictsAreJudged (p : Phase) :
    AtWork (working (flight (.book via orderAsk) p) (holding (rec 100 0 .booked))) (flight (.book via orderAsk) p) ∧
      orderAsk.room = (4 : RoomNo).val ∧ orderAsk.joined = false := ⟨holding_atWork _ _, rfl, rfl⟩

/-- A load of 20 fits a slot of 20 with nothing in it, and not beside a load of 1; the listed booking conflicts
with 09:00 to 09:30, and yields to class 1. -/
theorem witness_BookOrderAndConflictsAreJudged_sides :
    let s := served 0
    (s.kitchens.get 0).state = .opened ∧ prepares s 0 1 = true ∧
      s.catering.loadAt 0 ((g0 + 6) / 288) (slotIndex (g0 + 6)) + 20 ≤ (s.profile.get 0).get (slotIndex (g0 + 6)) ∧
      ¬ ((served 1).catering.loadAt 0 ((g0 + 6) / 288) (slotIndex (g0 + 6)) + 20 ≤
        ((served 1).profile.get 0).get (slotIndex (g0 + 6))) ∧
      ¬ (g0 + 6 < g0 + 0 + 4) ∧ (g0 + 3 < g0 + 0 + 4) ∧ weightOf s 1 ≠ 0 ∧ weightOf s 2 = 0 ∧
      ((s.listed 4).filter fun b => decide (g0 + 12 < b.se ∧ b.ss < g0 + 19)) = [rec 100 0 .booked] ∧
      ((s.listed 4).filter fun b => decide (g0 + 13 < b.se ∧ b.ss < g0 + 20)) = [] ∧
      (s.rooms.get 4).policy = .displaceLower ∧ ((rec 100 0 .booked).cls < 1 ∧ ¬ (rec 100 1 .booked).cls < 1) := by
  decide +kernel

/-- A joined BOOK meets a booking of the partner's list alone: a BOOKED one of class 0 yields, an ARMED one does
not. -/
theorem witness_BookOrderAndConflictsAreJudged_joined (st : BookingState) :
    let b := { rec 101 0 st with room := 5, cells := [1] }
    let f := { flight (.book via joinedAsk) (.check 12) with cls := 1, qs := g0 + 6, qe := g0 + 12 }
    AtWork (working f (pair [b] [] [101#16])) f ∧ f.request = .book via joinedAsk ∧
      joinedAsk.room = (4 : RoomNo).val ∧ joinedAsk.joined = true := ⟨pair_atWork _ _ _ _, rfl, rfl, rfl⟩

theorem witness_BookOrderAndConflictsAreJudged_partner :
    (∀ st, st ∈ [BookingState.booked, .armed] →
      let b := { rec 101 0 st with room := 5, cells := [1] }
      let s := pair [b] [] [101#16]
      s.listed 4 = [] ∧ s.listed 5 = [b] ∧ (s.rooms.get 4).partner = some 5 ∧
        (s.rooms.get 5).policy = .displaceLower ∧ (g0 + 6 < b.se ∧ b.ss < g0 + 13) ∧ b.cls < 1 ∧
        b.joined = false ∧ b.origin ≠ .panel ∧ (b.state = .booked ↔ st = .booked)) ∧
      (pair [] [] []).listed 5 = [] := by decide +kernel

theorem witness_BookIsPlacedAndAnswered :
    AtWork (working placing rooms) placing ∧ placing.request = .book via ask ∧ placing.phase = .place ∧
      ask.joined = false ∧ placing.stack = [] ∧ (rooms.rooms.get 4).state = .inService ∧
      (∀ b, b ∈ rooms.store.records → b.id ≠ ask.id) ∧ placing.settlement = .keep ∧
      rooms.catering.carries (g0 + 6) = true ∧
      ({ emptyStore with free := List.range 64 }.storeLowArmed = true ∧ ((List.range 64).drop 1).length < 64) ∧
      ¬ ((List.range 65).drop 1).length < 64 :=
  ⟨rooms_atWork _, by decide +kernel⟩

theorem witness_BookIsPlacedAndAnswered_joined :
    AtWork (working joining (pair [] [] [])) joining ∧ joining.request = .book via joinedAsk ∧
      joining.phase = .place ∧ joinedAsk.room = (4 : RoomNo).val ∧ joinedAsk.joined = true ∧
      ((pair [] [] []).rooms.get 4).partner = some 5 ∧ ((pair [] [] []).rooms.get 4).state ≠ .outOfService ∧
      ∀ b, b ∈ (pair [] [] []).store.records → b.id ≠ joinedAsk.id :=
  ⟨pair_atWork _ _ _ _, by decide +kernel⟩

/-- The same booking between its two insertions. -/
theorem witness_BookIsPlacedAndAnswered_partner :
    let b := { rec 100 1 .booked with joined := true }
    let f := { joining with phase := .partner none, placed := some b }
    let s := working f (pair [b] [100#16] [])
    AtWork s f ∧ f.request = .book via joinedAsk ∧ f.phase = .partner none ∧ f.placed = some b ∧
      b.id = joinedAsk.id ∧ f.stack = [] ∧ s.record? joinedAsk.id = some b ∧ b.joined = true ∧
      joinedAsk.id ∈ s.store.lists.get b.room ∧ (s.rooms.get b.room).partner = some 5 ∧
      (s.rooms.get 5).state ≠ .outOfService ∧ f.settlement = .keep :=
  ⟨pair_atWork _ _ _ _, by decide +kernel⟩

/-- A MODIFY that names the room. -/
def moveAsk : ModifyAsk := { change with room := some 5, times := some ⟨20000, 540, 30⟩ }

theorem witness_ModifyChecksRunInOrder (n : Nat) :
    let f := flight (.modify via moveAsk) (.check n)
    let s := working f (holding (rec 100 1 .booked))
    AtWork s f ∧ f.request = .modify via moveAsk ∧ f.phase = .check n := ⟨holding_atWork _ _, rfl, rfl⟩

theorem witness_ModifyChecksRunInOrder_record :
    (holding (rec 100 1 .booked)).record? moveAsk.id = some (rec 100 1 .booked) ∧
      (rooms.record? moveAsk.id = none) ∧ (holding (rec 100 1 .checkedIn)).record? moveAsk.id =
        some (rec 100 1 .checkedIn) ∧
      (let o := order .dispatched
       (holding { rec 100 1 .booked with order := some o }).record? moveAsk.id =
         some { rec 100 1 .booked with order := some o } ∧ moveAsk.room.map asRoom ≠ some (rec 100 1 .booked).room) := by
  decide +kernel

/-- A MODIFY that gives an order of two of item 1. -/
def reorder : ModifyAsk := { change with order := some (some ⟨0, 1, List.replicate 8 (1, 2)⟩) }

/-- Checks 9 and 11: the record's own PLACED load of 20 fills the slot of 20, and is left out. -/
theorem witness_ModifyChecksRunInOrder_order :
    let b := { rec 100 0 .booked with order := some (order .placed) }
    let s := { served 20 with store := (holding b).store }
    (∀ f, AtWork (working f s) f) ∧ s.record? reorder.id = some b ∧ 1 ≤ s.store.free.length + b.cells.length ∧
      ¬ (1 + 2 ≤ ([] : List Nat).length + b.cells.length) ∧ reorder.order ≠ none ∧
      { change with order := some none }.order = some none ∧ moveAsk.order = none ∧ b.order ≠ none ∧
      (order .placed).qx < g0 + 3 ∧ ¬ (order .placed).qx < s.grain ∧ (order .placed).state ≠ .cancelled ∧
      weightOf s 1 ≠ 0 ∧ ¬ g0 + 6 < s.grain + 0 + leadOf s 1 ∧ g0 + 3 < s.grain + 0 + leadOf s 1 ∧
      (s.rooms.get 4).kitchen = some 0 ∧ (s.kitchens.get 0).state = .opened ∧ prepares s 0 1 = true ∧
      s.catering.loadAt 0 ((g0 + 6) / 288) (slotIndex (g0 + 6)) - 20 + 20 ≤
        (s.profile.get 0).get (slotIndex (g0 + 6)) ∧
      ¬ s.catering.loadAt 0 ((g0 + 6) / 288) (slotIndex (g0 + 6)) + 20 ≤
        (s.profile.get 0).get (slotIndex (g0 + 6)) :=
  ⟨fun f => atWork_working f _ (by decide +kernel) (by decide +kernel), by decide +kernel⟩

/-- Check 12 again, after step 1 of R66: the booking that conflicts is ARMED, and the record is put back. -/
theorem witness_ModifyChecksRunInOrder_conflict (joined : Bool) :
    let b := { rec 100 1 .moving with joined := joined }
    let f := { flight (.modify via moveAsk) (.check 12) with
      cls := 1, qs := g0 + 6, qe := g0 + 12, taken := some { b with state := .booked } }
    AtWork (working f (pair [b, { rec 101 0 .armed with room := 5, cells := [1] }] [] [101#16])) f ∧
      f.request = .modify via moveAsk ∧ f.phase = .check 12 ∧ f.taken = some { b with state := .booked } ∧
      moveAsk.times ≠ none := ⟨pair_atWork _ _ _ _, rfl, rfl, rfl, nofun⟩

theorem witness_ModifyChecksRunInOrder_conflict_lists (joined : Bool) :
    let b := { rec 100 1 .moving with joined := joined }
    let c := { rec 101 0 .armed with room := 5, cells := [1] }
    let s := pair [b, c] [] [101#16]
    s.record? moveAsk.id = some b ∧ (moveAsk.room.map asRoom) = some 5 ∧ s.listed 5 = [c] ∧
      (g0 + 6 < c.se ∧ c.ss < g0 + 13 ∧ c.id ≠ b.id) ∧ c.state ≠ .booked ∧
      (s.rooms.get b.room).state ≠ .outOfService ∧ (s.rooms.get b.room).partner = some 5 ∧
      (pair [b] [] []).listed 5 = [] ∧ change.times = none ∧ change.room = none := by
  cases joined <;> decide +kernel

theorem witness_ModifyTakesItsRecordOutOrReplacesItsFields (ids : List BookingId) (st : BookingState) :
    let ask := { change with attendees := some 2 }
    let f := { flight (.modify via ask) (.take ids) with qs := g0 + 6 }
    let b := rec 100 1 st
    AtWork (working f (holding b)) f ∧ f.request = .modify via ask ∧ f.phase = .take ids ∧
      ask.times = none ∧ ask.room = none ∧ ask.order = none ∧ f.settlement = .keep ∧ f.qs = b.qs ∧ f.stack = [] ∧
      { b with attendees := 2 }.cellsNeeded = b.cells.length := ⟨holding_atWork _ _, rfl, rfl, rfl, rfl, rfl, rfl, rfl, rfl, rfl⟩

theorem witness_ModifyTakesItsRecordOut_record :
    (holding (rec 100 1 .armed)).record? 100#16 = some (rec 100 1 .armed) ∧
      orderInService (rec 100 1 .armed) = false ∧
      (holding (rec 100 1 .checkedIn)).record? 100#16 = some (rec 100 1 .checkedIn) := by decide +kernel

/-- Step 3 of R66 for a joined record that grows by the title, and the partner's insertion after it. -/
theorem witness_ModifyTakesItsRecordOut_place (joined : Bool) :
    let ask := { moveAsk with title := some (some (oneGlyph 24)) }
    let b := { rec 100 1 .moving with joined := joined }
    let f := { flight (.modify via ask) .place with
      cls := 1, qs := g0 + 6, qe := g0 + 12, span := ⟨g0 + 6, g0 + 13⟩, taken := some { b with state := .booked } }
    let s := working f (pair [b] [] [])
    AtWork s f ∧ f.request = .modify via ask ∧ f.phase = .place ∧ f.taken = some { b with state := .booked } ∧
      f.stack = [] ∧ f.settlement = .keep ∧ s.record? ask.id = some b ∧ b.cells.Nodup ∧ b.cells ≠ [] ∧
      (ask.room.map asRoom) = some 5 ∧ (s.rooms.get 5).state ≠ .outOfService ∧
      (s.rooms.get 5).partner = some 4 :=
  ⟨pair_atWork _ _ _ _, by cases joined <;> decide +kernel⟩

theorem witness_ModifyTakesItsRecordOut_partner (refused : Option BookingId) :
    let b := { rec 100 1 .booked with joined := true }
    let f := { flight (.modify via moveAsk) (.partner refused) with placed := some b }
    AtWork (working f (pair [b] [100#16] [])) f ∧ f.request = .modify via moveAsk ∧
      f.phase = .partner refused ∧ f.placed = some b ∧ b.id = moveAsk.id ∧ f.stack = [] ∧ b.joined = true :=
  ⟨pair_atWork _ _ _ _, rfl, rfl, rfl, rfl, rfl, rfl⟩

theorem witness_ModifyTakesItsRecordOut_partner_lists :
    let b := { rec 100 1 .booked with joined := true }
    let s := pair [b] [100#16] []
    s.record? moveAsk.id = some b ∧ moveAsk.id ∈ s.store.lists.get b.room ∧
      (s.rooms.get b.room).partner = some 5 ∧ (s.rooms.get 5).state ≠ .outOfService := by decide +kernel

theorem witness_CancelReleasesOrEndsTheBooking (b : Record) :
    let f := flight (.cancel via 100#16) (.check 1)
    AtWork (working f (holding b)) f ∧ f.request = .cancel via 100#16 ∧ f.phase = .check 1 :=
  ⟨holding_atWork _ _, rfl, rfl⟩

theorem witness_CancelReleasesOrEndsTheBooking_records :
    (∀ st, st ∈ [BookingState.booked, .armed, .checkedIn, .moving, .ended] →
      (holding (rec 100 1 st)).record? 100#16 = some (rec 100 1 st)) ∧
      (holding (rec 100 1 .booked)).record? 101#16 = none ∧
      ∀ o, o ∈ [OrderState.placed, .dispatched, .accepted, .delivered, .wasted, .cancelled] →
        let b := { rec 100 1 .booked with order := some (order o) }
        (holding b).record? 100#16 = some b := by
  decide +kernel

theorem witness_BookNowPlacesAWalkInAtTheCurrentGrain :
    let f := flight (.bookNow place 5 4) (.check 1)
    let s := working f (door (holding (rec 100 1 .booked)))
    s.clock.state = .running ∧ (s.rooms.get 5).state = .inService ∧ 1 ≤ (s.rooms.get 5).capacity ∧
      s.grain + 12 ≤ s.clock.horizonEnd ∧ s.store.free ≠ [] ∧ (∀ b, b ∈ s.listed 5 → b.state ≠ .checkedIn) ∧
      walkInOffset s = some 0 ∧ (∀ b, b ∈ s.listed 5 → ¬ (s.grain < b.se ∧ b.ss < s.grain + 13)) := by
  decide +kernel

theorem witness_BookNow_atWork :
    let f := flight (.bookNow place 5 4) (.check 1)
    AtWork (working f (door rooms)) f ∧ f.request = .bookNow place 5 4 ∧ f.phase = .check 1 :=
  ⟨atWork_working _ _ (by decide +kernel) (by decide +kernel), rfl, rfl⟩

theorem witness_ExtendAndEndNowEditTheCheckedInBooking (r : Request) :
    let f := flight r (.check 1)
    AtWork (working f (holding (rec 100 1 .checkedIn))) f ∧ f.phase = .check 1 := ⟨holding_atWork _ _, rfl⟩

theorem witness_ExtendAndEndNow_booking :
    let s := holding (rec 100 1 .checkedIn)
    checkedInAt s 4 = some (rec 100 1 .checkedIn) ∧ s.clock.state = .running ∧
      g0 + 12 + 3 ≤ s.clock.horizonEnd ∧
      (∀ q, q ∈ listRooms s (rec 100 1 .checkedIn) → ∀ c, c ∈ s.listed q → c.id ≠ 100#16 →
        ¬ (g0 + 6 < c.se ∧ c.ss < g0 + 16)) ∧
      checkedInAt s 5 = none ∧ (clockAt unsetClock).clock.state ≠ .running := by decide +kernel

/-- An EXTEND that would end beyond the horizon, and one that meets the next booking of the room. -/
theorem witness_ExtendAndEndNow_refusals :
    let b := { rec 100 1 .checkedIn with qe := 20014 * 288 - 2, se := 20014 * 288 - 1 }
    checkedInAt (holding b) 4 = some b ∧ (holding b).clock.horizonEnd < b.qe + 3 ∧
      (let a := rec 100 1 .checkedIn
       let c := { rec 101 1 .booked with qs := g0 + 15, qe := g0 + 20, ss := g0 + 15, se := g0 + 21, cells := [1] }
       let s := pair [a, c] [100#16, 101#16] []
       checkedInAt s 4 = some a ∧ a.qe + 3 ≤ s.clock.horizonEnd ∧
         ((listRooms s a).flatMap fun q => (s.listed q).filter fun c =>
           decide (c.id ≠ a.id ∧ a.ss < c.se ∧ c.ss < a.qe + 3 + (a.se - a.qe))) = [c]) := by decide +kernel

/-- A moving booking being tried in room 5. -/
def trial : Trial := ⟨⟨200#16, 4, 1⟩, [5], 0, .displacing, 0⟩

theorem witness_DisplacementTakesAllTheBookingsOrNone :
    ∀ p, p ∈ [Phase.displaceRequester [100#16], .displaceMoving trial ⟨g0 + 6, g0 + 13⟩ [100#16],
        .displaceVacated 100#16] →
      AtWork (working (flight (.book via ask) p) (holding (rec 100 0 .booked))) (flight (.book via ask) p) :=
  fun _ _ => holding_atWork _ _

theorem witness_DisplacementTakesAllTheBookingsOrNone_bookings :
    (holding (rec 100 0 .booked)).record? 100#16 = some (rec 100 0 .booked) ∧
      (rec 100 0 .booked).state = .booked ∧ (rec 100 0 .armed).state ≠ .booked ∧ [100#16].Nodup ∧
      4 + [100#16].length ≤ 5 ∧
      (let m : MoveFrame := ⟨300#16, 5, 1⟩
       let upper : List MoveFrame := [⟨201#16, 4, 2⟩, ⟨202#16, 4, 2⟩, ⟨203#16, 4, 1⟩, ⟨204#16, 4, 1⟩]
       let s := holding (rec 100 0 .booked)
       let c := { rec 300 0 .moving with cells := [1], order := some (order .dispatched) }
       let s := { s with store := { s.store with records := s.store.records ++ [c] } }
       (upper ++ [m]).length = 5 ∧ upper.length = 4 ∧ m.booking ≠ 100#16 ∧ s.record? m.booking = some c ∧
         c.served = true) := by decide +kernel

theorem witness_MovingBookingTakesTheFirstFreeAlternate :
    AtWork moving { flight (.vacate 4) .serve with stack := [⟨100#16, 4, 1⟩] } ∧
      moving.record? 100#16 = some (rec 100 1 .moving) ∧ (rec 100 1 .moving).joined = false ∧
      (rec 100 1 .moving).order = none ∧
      (moving.rooms.get 4).alternates[((moving.rooms.get 4).pointer + 0) % 1]? = some 5 ∧
      (moving.rooms.get 5).state = .inService ∧ 3 ≤ (moving.rooms.get 5).capacity ∧ moving.listed 5 = [] ∧
      0 + 3 ≤ 3 ∧
      (let s := { moving with rooms := moving.rooms.upd 5 fun e => { e with capacity := 2, policy := .noDisplace } }
       ¬ (3 ≤ (s.rooms.get 5).capacity) ∧ (s.rooms.get 5).policy = .noDisplace ∧ 2 * 1 + 3 ≤ 5) :=
  ⟨⟨by decide +kernel, by decide +kernel, by decide +kernel⟩, by decide +kernel⟩

/-- The same booking with an order of kitchen 0, and with room 5 at kitchen `k`, which opens and has room for it. -/
def movingOrder (st : OrderState) (k : Option KitchenNo) : State :=
  let b := { rec 100 1 .moving with order := some (order st) }
  let s := served 20
  working { flight (.vacate 4) .serve with stack := [⟨100#16, 4, 1⟩] }
    { s with
      rooms := rooms.rooms.upd 5 fun e => { e with kitchen := k }
      profile := s.profile.set 2 (Tab.fill 96 20)
      store := { (holding b).store with lists := emptyStore.lists } }

theorem witness_MovingBookingTakesTheFirstFreeAlternate_order :
    (∀ st, st ∈ [OrderState.placed, .dispatched, .accepted, .delivered, .wasted, .cancelled] →
      ∀ k, k ∈ [none, some 0, some 2] →
        let s := movingOrder st k
        s.record? 100#16 = some { rec 100 1 .moving with order := some (order st) } ∧
          (s.rooms.get 5).kitchen = k ∧ (s.rooms.get 5).state = .inService ∧ s.listed 5 = []) ∧
      (let s := movingOrder .placed (some 2)
       (s.kitchens.get 2).state = .opened ∧ prepares s 2 1 = true ∧
         s.catering.loadAt 2 ((g0 + 6) / 288) (slotIndex (g0 + 6)) + 20 ≤
           (s.profile.get 2).get (slotIndex (g0 + 6))) := by decide +kernel

theorem witness_MovingBookingTakesTheFirstFreeAlternate_order_atWork :
    ∀ st, st ∈ [OrderState.placed, .dispatched, .accepted, .delivered, .wasted, .cancelled] →
      ∀ k, k ∈ [none, some 0, some 2] →
        AtWork (movingOrder st k) { flight (.vacate 4) .serve with stack := [⟨100#16, 4, 1⟩] } := by
  unfold AtWork; decide +kernel

theorem witness_VacateTakesTheNextBookedBooking (p : Phase) :
    let f := flight (.vacate 4) p
    AtWork (working f (holding (rec 100 1 .booked))) f ∧ f.request = .vacate 4 ∧ f.phase = p ∧ f.stack = [] :=
  ⟨holding_atWork _ _, rfl, rfl, rfl⟩

/-- The room that is vacated, with one booking in its list. -/
def vacated (st : BookingState) : State :=
  { holding (rec 100 1 st) with rooms := rooms.rooms.upd 4 fun e => { e with state := .outOfService } }

theorem witness_VacateTakesTheNextBookedBooking_lists :
    ((vacated .booked).rooms.get 4).state = .outOfService ∧ (rooms.rooms.get 4).state ≠ .outOfService ∧
      (vacated .booked).listed 4 = [] ++ rec 100 1 .booked :: [] ∧
      (vacated .armed).listed 4 = [rec 100 1 .armed] ∧ (rec 100 1 .armed).state ≠ .booked ∧
      (vacated .armed).store.lists.get 4 ≠ [] := by decide +kernel

/-- A tap at the door of room 4. -/
def tapped (b : Record) : State :=
  { holding b with deliveries := { noDeliveries with taps := [⟨place, 4, 9#32⟩] } }

theorem witness_TapChecksInTheNearestArmedBooking :
    (tapped (rec 100 1 .armed)).ports.powerGood = true ∧
      (tapped (rec 100 1 .armed)).deliveries.taps = [⟨place, 4, 9#32⟩] ∧
      checkedInAt (tapped (rec 100 1 .checkedIn)) 4 = some (rec 100 1 .checkedIn) ∧
      checkedInAt (tapped (rec 100 1 .armed)) 4 = none ∧
      ((tapped (rec 100 1 .armed)).listed 4).find? (fun b => b.state == .armed) = some (rec 100 1 .armed) ∧
      ((tapped (rec 100 1 .booked)).listed 4).find? (fun b => b.state == .armed) = none ∧
      ((listRooms (tapped (rec 100 1 .armed)) (rec 100 1 .armed)).filter fun q => q != 4) = [] ∧
      ({ openRoom with checkIn := .organiser }.checkIn = .organiser ∧ (8#32 : Badge) ≠ 9#32) := by decide +kernel

/-- A joined booking of rooms 4 and 5 that is ARMED, beside a CHECKED_IN one of room 5. -/
def joinedTap : State :=
  let a := { rec 100 1 .armed with joined := true }
  let c := { rec 101 1 .checkedIn with room := 5, qs := g0, qe := g0 + 4, ss := g0, se := g0 + 5, cells := [1] }
  let s := holding a
  { s with
    rooms := pairRooms
    store := { s.store with
      records := [a, c], lists := (s.store.lists.set 4 [100#16]).set 5 [101#16, 100#16] }
    deliveries := { noDeliveries with taps := [⟨place, 4, 9#32⟩] } }

theorem witness_TapChecksInTheNearestArmedBooking_beside :
    ((listRooms joinedTap { rec 100 1 .armed with joined := true }).filter fun q => q != 4) = [5] ∧
      (checkedInAt joinedTap 5).map (·.id) = some 101#16 := by decide +kernel

theorem entering_store :
    entering.store.records.map (·.id) = [100#16, 101#16] ∧
    ∀ q, entering.store.lists.get q = if q = 4 then [100#16] else if q = 5 then [101#16] else [] := by decide +kernel

/-- The booking about to enter the list of room 5, in a state that keeps the invariants of the lists. -/
theorem witness_TapChecksInTheNearestArmedBooking_entering :
    (∃ b q, q ∈ listRooms entering armedBeside ∧ Entering entering q b) ∧
      ((entering.listed 5).find? (fun b => b.state == .armed) = some armedBeside ∧ checkedInAt entering 5 = none ∧
        (entering.rooms.get 5).checkIn = .anyTap ∧
        ((listRooms entering armedBeside).filter fun q => q != 5) = []) ∧ (∃ t b, exec .tap entering = .next t ∧ Entering t 5 b) ∧ ListsAgree entering ∧
      PlacementClear entering := by
  have a : (∃ via ask, joining.request = .book via ask ∧
      entering.record? ask.id = some { rec 100 1 .checkedIn with joined := true }) :=
    ⟨via, joinedAsk, rfl, by decide +kernel⟩
  have e : Entering entering 5 { rec 100 1 .checkedIn with joined := true } :=
    ⟨rfl, rfl, by decide +kernel, { joining with phase := .partner none }, none, rfl, rfl, .inl a⟩
  refine ⟨⟨_, 5, by decide +kernel, e⟩, by decide +kernel, ?_, ⟨by rw [entering_store.1]; decide, fun q => ⟨?_, ?_⟩⟩, ?_⟩
  · obtain ⟨t, h⟩ := exists_of_isNext (o := exec .tap entering) (by decide +kernel)
    have r : (after .tap entering).record? 100#16 = some { rec 100 1 .checkedIn with joined := true } := by
      decide +kernel
    have p : ((after .tap entering).rooms.get 4).partner = some 5 := by decide +kernel
    have g : (after .tap entering).engine.inFlight = some { joining with phase := .partner none } := by decide +kernel
    simp only [after, h] at r p g
    exact ⟨t, _, h, rfl, rfl, p, _, none, g, rfl, .inl ⟨via, joinedAsk, rfl, r⟩⟩
  · revert q; decide +kernel
  · intro id h
    rw [entering_store.2] at h
    split at h
    case isTrue hq =>
      obtain rfl := List.mem_singleton.mp h
      subst hq
      exact ⟨{ rec 100 1 .checkedIn with joined := true }, by decide +kernel, by decide +kernel, by decide +kernel,
        by decide +kernel⟩
    split at h
    case isFalse => cases h
    rename_i hq
    obtain rfl := List.mem_singleton.mp h
    subst hq
    exact ⟨armedBeside, by decide +kernel, by decide +kernel, by decide +kernel, by decide +kernel⟩
  · intro f h
    obtain rfl : f = { joining with phase := .partner none } := (Option.some.inj h).symm
    refine ⟨fun v a _ hp => ?_, fun _ _ _ hr => ?_, fun _ _ _ _ _ hr => ?_, fun rf id b q _ hr hb _ hq => ?_,
      fun _ _ _ hp => ?_, fun m b hm => ?_, fun _ _ _ _ hr => ?_⟩
    · cases hp
    · cases hr
    · cases hr
    · obtain ⟨v, k, hk, rfl⟩ | ⟨v, k, hk, -⟩ := hr <;> cases hk
      have : entering.record? joinedAsk.id = some { rec 100 1 .checkedIn with joined := true } := by decide +kernel
      obtain rfl := Option.some.inj (this.symm.trans hb)
      have : (entering.rooms.get 4).partner = some 5 := by decide +kernel
      obtain rfl := Option.some.inj (this.symm.trans hq)
      refine ⟨by decide +kernel, by unfold FreeFor; decide +kernel, fun _ => by decide +kernel⟩
    · cases hp
    · obtain ⟨h, -⟩ | ⟨_, -, h | h | ⟨_, h⟩⟩ := hm <;> cases h
    · cases hr

theorem witness_GrainScanLeavesNothingDueInItsRoom :
    let s := { holding (rec 100 1 .booked) with deliveries := { noDeliveries with scan := some ⟨g0 + 5, 4⟩ } }
    s.ports.powerGood = true ∧ s.deliveries.scan = some ⟨g0 + 5, (4 : RoomNo).val⟩ ∧
      100#16 ∈ s.store.lists.get 4 ∧ s.record? 100#16 = some (rec 100 1 .booked) ∧
      (rec 100 1 .booked).qs ≤ g0 + 5 + (s.rooms.get 4).earlyWindow ∧ g0 + 5 < (rec 100 1 .booked).qe ∧
      (s.rooms.get 4).grace = 0 ∧ day.deliveries.scan = none ∧ day.deliveries.storeBoundaries = [] ∧
      ({ noDeliveries with storeBoundaries := [g0] }.storeBoundaries = g0 :: [] ∧ (0 : RoomNo).val = 0) := by
  decide +kernel

/-- Each outcome of the scan, in a room with a grace of 2 grains and in one without. -/
theorem witness_GrainScan_outcomes :
    let s := holding (rec 100 1 .booked)
    let graced := { s with rooms := s.rooms.upd 4 fun e => { e with grace := 2 } }
    let fed := { rec 100 1 .armed with order := some (order .accepted) }
    (s.store.lists.get 4).Nodup ∧ (rec 100 1 .booked).arms (g0 + 6) s = true ∧
      (rec 100 1 .booked).scanned (g0 + 6) s = rec 100 1 .armed ∧
      (rec 100 1 .armed).missed (g0 + 7) graced = false ∧ (rec 100 1 .armed).missed (g0 + 8) graced = true ∧
      (rec 100 1 .armed).retired (g0 + 8) graced = true ∧ fed.missed (g0 + 8) graced = true ∧
      fed.retired (g0 + 8) graced = false ∧ fed.served = true ∧
      (rec 100 1 .armed).unattended (g0 + 12) s = true ∧
      ((rec 100 1 .armed).scanned (g0 + 12) s).endReason = some .unattended ∧
      (rec 100 1 .checkedIn).attended (g0 + 12) = true ∧
      ((rec 100 1 .checkedIn).scanned (g0 + 12) s).endReason = some .normal ∧
      (rec 100 1 .checkedIn).retired (g0 + 12) s = false ∧ (rec 100 1 .checkedIn).retired (g0 + 13) s = true := by
  decide +kernel

theorem witness_GrainScan_retireList :
    let b := { rec 100 1 .released with retireGrain := g0 }
    let s := holding b
    let s := { s with
      store := { s.store with lists := emptyStore.lists, retireList := [100#16] }
      deliveries := { noDeliveries with scan := some ⟨g0, 96⟩ } }
    s.deliveries.scan = some ⟨g0, 96⟩ ∧ s.store.retireList = [100#16] ++ [] ∧ s.record? 100#16 = some b ∧
      b.retireGrain ≤ g0 ∧ ([100#16] ++ [] : List BookingId).Nodup ∧ (s.record? 100#16).isSome = true := by
  decide +kernel

/-- A booking with a placed order, and the pass of a boundary at kitchen `k`. -/
def passing (g k : Nat) : State :=
  { holding { rec 100 1 .booked with order := some (order .placed) } with
    deliveries := { noDeliveries with pass := some ⟨g, k⟩ } }

theorem witness_DispatchPassDispatchesWhatIsDue :
    (passing (g0 + 2) 0).ports.powerGood = true ∧ ((passing (g0 + 2) 0).store.records.map (·.id)).Nodup ∧
      (passing (g0 + 2) 0).deliveries.pass = some ⟨g0 + 2, (0 : KitchenNo).val⟩ ∧
      (passing (g0 + 2) 7).deliveries.pass = some ⟨g0 + 2, (7 : KitchenNo).val⟩ ∧
      (order .placed).qx ≤ g0 + 2 ∧ ¬ (order .placed).qx ≤ g0 + 1 ∧ (order .placed).qd ≤ g0 + 6 ∧
      day.deliveries.pass = none ∧ day.deliveries.cateringBoundaries = [] := by decide +kernel

theorem witness_PantryCallsAcceptAndDeliverTickets :
    (∀ d, d ∈ [true, false] → (pantry d).ports.powerGood = true ∧
      (pantry d).deliveries.pantryCalls = [⟨place, 0, 100#16, d⟩] ∧
      ((pantry d).record? 100#16).bind (·.order) = some (order .dispatched) ∧
      (order .dispatched).kitchen = 0 ∧ ((pantry d).catering.tickets.get 0).map (·.booking) = [100#16]) ∧
      (pantry false).record? 101#16 = none := by decide +kernel

theorem witness_ZoneRowRecomposeComposesOneRoom :
    let s := { door rooms with deliveries := { noDeliveries with recompose := some ⟨g0, 4⟩ } }
    s.ports.powerGood = true ∧ s.deliveries.recompose = some ⟨g0, (4 : RoomNo).val⟩ ∧ s.clock.state = .running ∧
      { s.clock with state := .halted }.state ≠ .running ∧
      (s.panels.get 3).room? = some 4 ∧ (s.panels.get 2).room? ≠ some 4 ∧
      { noDeliveries with faceBoundaries := [g0] }.faceBoundaries = g0 :: [] ∧
      day.deliveries.recompose = none ∧ day.deliveries.faceBoundaries = [] := by decide +kernel

/-- The current and the next booking in each state of a list, and each state of the room. -/
theorem witness_ZoneRowRecompose_rows :
    (∀ st, st ∈ [BookingState.checkedIn, .armed, .booked] →
      (holding (rec 100 1 st)).listed 4 = [rec 100 1 st]) ∧
      CurrentIs [rec 100 1 .checkedIn] (some (rec 100 1 .checkedIn)) ∧
      NextIs [rec 100 1 .checkedIn] (some (rec 100 1 .checkedIn)) none ∧
      CurrentIs [rec 100 1 .armed] (some (rec 100 1 .armed)) ∧ CurrentIs [rec 100 1 .booked] none ∧
      NextIs [rec 100 1 .booked] none (some (rec 100 1 .booked)) := by
  have only (st : BookingState) (c : Record) (h : c ∈ [rec 100 1 st]) : c.state = st := by
    rw [List.mem_singleton.mp h]; rfl
  refine ⟨by decide +kernel, ⟨[], [], rfl, .inl ⟨rfl, by simp⟩⟩, ?_, ⟨[], [], rfl, .inr ⟨rfl, ?_, by simp⟩⟩, ?_,
    ⟨[], [], rfl, .inl rfl, by simp, by simp⟩⟩
  · exact fun c h _ => ⟨_, rfl, by rw [List.mem_singleton.mp h]⟩
  · exact fun c h => by simp [only _ c h]
  · exact fun c h => by simp [only _ c h]

theorem witness_ZoneRowRecompose_status :
    (∀ p, p ∈ [(RoomState.outOfService, BookingState.booked), (.held, .booked), (.unconfigured, .booked)] →
      (((holding (rec 100 1 p.2)).rooms.upd 4 fun e => { e with state := p.1 }).get 4).state = p.1) ∧
      ((holding (rec 100 1 .booked)).rooms.get 4).state = .inService ∧
      (rec 100 1 .booked).ss ≤ g0 + 4 + 2 ∧ g0 + 3 + 2 < (rec 100 1 .booked).ss ∧
      ({ rec 100 1 .armed with joined := true }.joined = true ∧ (rec 100 1 .armed).room ≠ 5) := by decide +kernel

theorem witness_PanelTextAndOverlayChangeTheFacesNamed :
    let f := (door rooms).composer.faces.get 3
    (door rooms).taking = true ∧ readText [] = some [] ∧ readText [0#8] = none ∧ readText [6#8] = some [.clear] ∧
      ((door rooms).panels.get 3).kind = .door ∧ ((door rooms).panels.get 111).kind ≠ .door ∧
      (4 ≤ f.area.top ∧ f.area.top ≤ f.area.row ∧ f.area.row ≤ f.area.bottom ∧ f.area.bottom ≤ 7) ∧
      ((112 < 113 ∧ 113 ≠ 255) ∧ (112 < 254 ∧ 254 ≠ 255) ∧ (7 < 8 ∧ 8 ≠ 255)) ∧
      readText [1#8, 0#8, 7#8, 0#8, 23#8, 2#8, 5#8, 3#8, 3#8, 1#8, 5#8, 2#8, 4#8, 1#8, 0x41#8, 7#8, 8#8, 9#8, 9#8] =
        some [.window 0 7 0 23, .cursor 5 3, .mode 1, .attr 2, .glyphs [0x41#8], .level, .levelValue 9,
          .finish] := by decide +kernel

/-- A loop in a state, with an echo state. -/
def loopIn (st : LoopState) (e : EchoState) : State :=
  { day with loop := { downLoop with state := st, signal := true, fresh := false, echo := e } }

theorem witness_EchoRequestsAndSignalReports :
    (loopIn .up .none).taking = true ∧ (loopIn .up .none).loop.state = .up ∧ (loopIn .up .none).loop.echo = .none ∧
      (loopIn .up (.inFlight via)).loop.echo ≠ .none ∧ (loopIn .broken .none).loop.state ≠ .up ∧
      (loopIn .up .none).ports.resetAsserted = false ∧ (loopIn .down .none).loop.state = .down ∧
      (loopIn .up (.waiting via)).loop.echo = .waiting via ∧ (loopIn .up .none).loop.awaited = none := by
  decide +kernel

/-- A window falls due at 3099 and at 3100, with an own frame awaited since 100; and with loop-out taken to 100. -/
theorem witness_WindowOpen_late :
    awaiting.loop.state ≠ .down ∧ awaiting.loop.awaited = some ⟨.beacon, 2, 100, false⟩ ∧
      100 + 1000 * awaiting.loop.active.timeout ≤ 3100 ∧ 3099 < 100 + 1000 * awaiting.loop.active.timeout ∧
      isNext (exec .returnTimeout awaiting) = true ∧ (taken (ring day)).ports.loopBusyUntil = 100 ∧
      (taken (ring day)).loop.awaited = none ∧ (taken (ring day)).loop.state = .up := by decide +kernel

theorem witness_WindowOpenSendsTheBeacon :
    (loopIn .syncing .none).ports.powerGood = true ∧ (loopIn .syncing .none).ports.resetAsserted = false ∧
      (loopIn .syncing .none).loop.state ≠ .down ∧ (loopIn .syncing .none).loop.awaited = none ∧
      ¬ (8 ≤ 6 + 1) ∧ 8 ≤ 7 + 1 ∧ downLoop.fresh = true := by decide +kernel

/-- A ring with the door panel of address 4 in its window. -/
def serving (replies : List ReplyEntry) (tickets : List TicketFrame) : State :=
  let s := ring (door rooms)
  { s with panels := s.panels.upd 3 fun p => { p with replies := replies, tickets := tickets } }

theorem witness_OwnFrameSendServesTheNextPanel :
    let e : ReplyEntry := ⟨7, 1, 0, .ready ⟨.done, none, none, none⟩⟩
    let s := serving [e] []
    s.loop.state = .up ∧ s.loop.awaited = none ∧ s.loop.held = none ∧ s.ports.loopBusyUntil ≤ 17000 ∧
      17000 + 1000 * s.loop.active.timeout ≤ s.loop.openedAt + 1000 * s.loop.active.windowTime ∧
      ¬ 17001 + 1000 * s.loop.active.timeout ≤ s.loop.openedAt + 1000 * s.loop.active.windowTime ∧
      (loopIn .up (.waiting via)).loop.echo = .waiting via ∧ s.loop.echo = .none ∧
      (visitOrder s).head? = some 3 ∧ (s.panels.get 3).state ≠ .absent ∧
      (s.panels.get 3).replies = [e] ∧ ((serving [] []).panels.get 3).replies = [] ∧
      (visitOrder (serving [] [])).head? = some 3 ∧
      ((serving [] []).composer.faces.get 3).dirty.get 0 = true ∧
      ((serving [] []).composer.faces.get 3).inFlight.get 0 = false := by decide +kernel

/-- A beacon held back, with loop-out free at 100 and not at 99. -/
theorem witness_OwnFrameSend_held :
    let s := after (.windowOpen 80) (taken (ring day))
    s.loop.awaited = none ∧ s.loop.held = some (s.loop.held.getD []) ∧ s.loop.state ≠ .down ∧
      s.ports.loopBusyUntil ≤ 100 ∧ ¬ s.ports.loopBusyUntil ≤ 99 := by decide +kernel

theorem witness_OwnFrameSend_ticket :
    let k : TicketFrame := ⟨100#16, 0, [], g0 + 6, 20, false⟩
    let s := { serving [] [k] with
      catering := { day.catering with tickets := day.catering.tickets.set 0 [⟨100#16, [], g0 + 6, 20, false, g0, false⟩] } }
    (s.panels.get 3).tickets = [k] ∧ hasTicket s 0 100#16 = true ∧ (visitOrder s).head? = some 3 := by decide +kernel

/-- The panel of the window that has a frame: none while nothing is dirty, and before it none that is not idle. A
TICKET frame without its ticket is no frame; an ABSENT panel that has not been served has one. -/
theorem witness_OwnFrameSend_panels :
    let k : TicketFrame := ⟨101#16, 0, [], g0 + 6, 20, false⟩
    let s := serving [] [k]
    let mine (s : State) (x : Addr) : Bool := decide ((s.panels.get x).kind ≠ .unbound) &&
      decide ((s.panels.get x).cycleWindow.getD (x.val + 1) % s.loop.active.windows = s.loop.currentWindow) &&
      !(decide ((s.panels.get x).state = .absent) && (s.panels.get x).served)
    let off := { s with panels := s.panels.upd 3 fun p => { p with state := .absent, misses := 3 } }
    let clean := { s with composer := { s.composer with
      faces := s.composer.faces.upd 3 fun f => { f with dirty := Tab.fill 8 false } } }
    (∀ x, mine s x = decide (x = 3)) ∧ mine off 3 = true ∧
      mine { off with panels := off.panels.upd 3 fun p => { p with served := true } } 3 = false ∧
      hasTicket s 0 101#16 = false ∧ (s.composer.faces.get 3).dirty.get 0 = true ∧
      ((∀ i, (clean.composer.faces.get 3).dirty.get i = false) ∧ (clean.panels.get 3).state ≠ .absent ∧
        (clean.panels.get 3).replies = []) ∧ s.loop.echo = .none ∧
      s.ports.powerGood = true ∧ s.ports.resetAsserted = false := by decide +kernel

theorem witness_OwnFrameReturnEndsTheAwaiting :
    let f : LoopFrame := ⟨0, 0, 1, 2#8, List.replicate 10 0#8⟩
    awaiting.ports.powerGood = true ∧ awaiting.ports.resetAsserted = false ∧ readLoop [] = none ∧
      readLoop f.bytes = some f ∧ f.origin = 0 ∧ awaiting.loop.awaited = some ⟨.beacon, 2, 100, false⟩ ∧
      f.flags.toNat % 16 = 2 ∧ 3100 ≤ 100 + 1000 * awaiting.loop.active.timeout ∧
      ¬ 3101 ≤ 100 + 1000 * awaiting.loop.active.timeout ∧
      (∀ c, c ∈ [Carried.echo via, .face 3 7, .reply 3 7, .ticket 3 100#16] →
        { awaiting with loop := { awaiting.loop with awaited := some ⟨c, 2, 100, false⟩ } }.loop.awaited =
          some ⟨c, 2, 100, false⟩) ∧
      ((door rooms).panels.get 3).state = .present ∧ ((door rooms).panels.get 3).misses < 2 := by decide +kernel

/-- Panels in each state that a return meets, and a stale record. -/
theorem witness_OwnFrameReturn_panels :
    ∀ st, st ∈ [PanelState.unknown, .present, .absent, .muted] → ∀ stale, stale ∈ [true, false] →
      let w : Awaited := ⟨.face 3 7, 2, 100, stale⟩
      let s := ring (door rooms)
      let s := { s with
        panels := s.panels.upd 3 fun p => { p with state := st, misses := 2 }
        loop := { s.loop with awaited := some w } }
      let f : LoopFrame := ⟨4, 0, 2, 0x82#8, 7#8 :: List.replicate 49 0#8⟩
      s.ports.powerGood = true ∧ s.ports.resetAsserted = false ∧ readLoop f.bytes = some f ∧ f.origin = 0 ∧
        s.loop.awaited = some w ∧ f.flags.toNat % 16 = 2 ∧ 3100 ≤ w.sentAt + 1000 * s.loop.active.timeout ∧
        (s.panels.get 3).state = st ∧ 2 ≤ (s.panels.get 3).misses := by decide +kernel

theorem witness_ReturnTimeoutCountsTheMiss :
    (loopIn .up .none).loop.awaited = none ∧ awaiting.loop.awaited = some ⟨.beacon, 2, 100, false⟩ ∧
      awaiting.loop.echo = .none ∧ (awaiting.loop.state = .syncing) ∧
      (let w : Awaited := ⟨.face 3 0, 2, 100, false⟩
       let s := { ring (door rooms) with loop := { (ring rooms).loop with awaited := some w, misses := 1 } }
       s.loop.awaited = some w ∧ (s.panels.get 3).state = .present ∧
         ¬ (s.loop.state = .up ∧ 3 ≤ min (s.loop.misses + 1) 255)) ∧ 3 ≤ min (2 + 1) 255 := by decide +kernel

/-- A frame of every sort, awaited at the third loop miss in a row and the third miss of its panel. -/
theorem witness_ReturnTimeout_carried :
    ∀ c, c ∈ [Carried.beacon, .echo via, .face 3 7, .reply 3 7, .ticket 3 100#16] →
      let w : Awaited := ⟨c, 2, 100, false⟩
      let s := ring (door rooms)
      let s := { s with
        panels := s.panels.upd 3 fun p => { p with misses := 2 }
        loop := { s.loop with awaited := some w, misses := 2 } }
      s.ports.powerGood = true ∧ s.ports.resetAsserted = false ∧ s.loop.awaited = some w ∧ s.loop.state = .up ∧
        3 ≤ min (s.loop.misses + 1) 255 ∧ (s.panels.get 3).state = .present ∧ 2 ≤ (s.panels.get 3).misses := by
  decide +kernel

theorem witness_PanelFrameIsStrippedOrSentOn :
    (∀ f, f ∈ [(⟨0, 113, 5, 0#8, []⟩ : LoopFrame), ⟨9, 112, 5, 0#8, []⟩, ⟨9, 4, 5, 0x40#8, []⟩, ⟨9, 4, 5, 0#8, []⟩,
        ⟨0, 4, 5, 0#8, []⟩, ⟨0, 4, 6, 3#8, [3#8]⟩] → readLoop f.bytes = some f ∧ f.origin ≠ 0) ∧
      (let f : LoopFrame := ⟨0, 0, 6, 3#8, [3#8]⟩
       readLoop f.bytes = some f ∧ f.flags.toNat < 16) ∧
      (door day).ports.powerGood = true ∧ (door day).ports.resetAsserted = false ∧ readLoop [] = none ∧
      ((door day).panels.get 3).kind ≠ .unbound ∧ ((door day).panels.get 111).kind = .unbound := by decide +kernel

theorem witness_CallIsTakenInItsPanelsWindow :
    let s := ring (door rooms)
    let p := s.panels.get 3
    s.ports.powerGood = true ∧ s.ports.resetAsserted = false ∧ p.kind ≠ .unbound ∧ 15 < 16 ∧
      (∀ b, b ∈ [([1#8, 0#8, 0#8, 0#8, 0#8] : Bytes), [2#8, 4#8], [2#8, 5#8], [3#8], [4#8], [5#8, 0#8, 0#8],
          [6#8, 0#8, 0#8], [0#8], [7#8]] → requiredPayload 6 b ≤ b.length) ∧
      s.loop.state = .up ∧ p.state = .present ∧
      p.cycleWindow.getD 4 % s.loop.active.windows = s.loop.currentWindow ∧ p.callsInWindow < 2 ∧
      p.replies.length < 4 ∧ (∀ e, e ∈ p.replies → e.serial ≠ s.deliveries.nextSerial) ∧
      p.kind = .door ∧ p.binding = (4 : RoomNo).val ∧ (loopIn .syncing .none).loop.state ≠ .up ∧
      (queued 15).engine.queue.length < 16 ∧ 16 ≤ (queued 16).engine.queue.length ∧
      4 ≤ (List.replicate 4 (⟨9, 1, 0, .waiting⟩ : ReplyEntry)).length := by decide +kernel

/-- A panel in each state calls in its window. -/
theorem witness_CallIsTaken_states :
    ∀ st, st ∈ [PanelState.unknown, .present, .absent, .muted] →
      let s := ring (door rooms)
      let s := { s with panels := s.panels.upd 3 fun p => { p with state := st } }
      let p := s.panels.get 3
      p.state = st ∧ p.kind ≠ .unbound ∧ s.loop.state = .up ∧
        p.cycleWindow.getD 4 % s.loop.active.windows = s.loop.currentWindow ∧ p.callsInWindow < 2 ∧
        p.replies.length < 4 := by decide +kernel

theorem witness_CallIsTaken_pantry :
    let p : Panel := { freshPanel with kind := .pantry, binding := 7, state := .present }
    p.kind = .pantry ∧ p.binding = (7 : KitchenNo).val ∧ p.replies.length < 4 := by decide +kernel

theorem witness_LineResetEmptiesTheBlocksAndKeepsTheTables :
    day.taking = true ∧ day.ports.powerGood = true ∧ day.exceptions.holds = [] := by decide +kernel

theorem witness_PowerOnResetAndThePartWithoutPower :
    { day.ports with powerGood := false }.powerGood = false ∧ (∀ x, Instr.hold ≠ .powerOnReset x) ∧
      Instr.hold ≠ .powerGoodFall ∧ (∀ x, Instr.hold ≠ .resetLineAssert x) ∧
      (∀ x, Instr.hold ≠ .resetLineRelease x) ∧ Instr.hold ≠ .signalPresent ∧ Instr.hold ≠ .signalAbsent ∧
      ∀ x y, Instr.hold ≠ .linkStateChange x y := ⟨rfl, nofun, nofun, nofun, nofun, nofun, nofun, nofun⟩

end Sys2Proof.Tests
end

section
/-!
SUPPORT. What almost every operation leaves alone: the clock and the commands that wait. One equation per operation,
for the simplifier, in the order of the model's files; only the commands of chapter 1 and the power-on reset are not
among them.
-/

namespace Sys2Proof.Machine

/-- The clock and the commands that wait. -/
def State.kept (s : State) : Clock × List Instr := (s.clock, s.pending)

@[simp] theorem kept_eta (s : State) : (s.clock, s.pending) = s.kept := rfl

@[simp] theorem kept_fst (s : State) : s.kept.1 = s.clock := rfl

@[simp] theorem kept_snd (s : State) : s.kept.2 = s.pending := rfl

@[simp] theorem kept_mk (clock rooms panels menu kitchens profile overlays dispositions settings store engine
    catering composer loop exceptions ports deliveries pending) :
    (State.mk clock rooms panels menu kitchens profile overlays dispositions settings store engine catering composer
      loop exceptions ports deliveries pending).kept = (clock, pending) := rfl

@[simp] theorem kept_ite (p : Prop) [Decidable p] (s t : State) :
    (if p then s else t).kept = if p then s.kept else t.kept := apply_ite ..

@[simp] theorem foldl_kept {α : Type} {f : State → α → State} (h : ∀ s a, (f s a).kept = s.kept) (l : List α)
    (s : State) : (l.foldl f s).kept = s.kept := by
  induction l generalizing s with
  | nil => rfl
  | cons a l ih => rw [List.foldl_cons, ih, h]

/-! ## The shared operations -/

@[simp] theorem raise_kept (c subject room detail s) : (raise c subject room detail s).kept = s.kept := rfl

@[simp] theorem respondCode_kept (via kind a s) :
    (respondCode via kind a s).kept = s.kept := by simp [respondCode]

@[simp] theorem respond_kept (via kind a s) : (respond via kind a s).kept = s.kept := by simp [respond]

@[simp] theorem answerCall_kept (p a s) : (answerCall p a s).kept = s.kept := rfl

@[simp] theorem putRecord_kept (r s) : (putRecord r s).kept = s.kept := rfl

@[simp] theorem updRecord_kept (id f s) : (updRecord id f s).kept = s.kept := rfl

@[simp] theorem raiseFor_kept (c r detail s) : (raiseFor c r detail s).kept = s.kept := rfl

@[simp] theorem markRoom_kept (r s) : (markRoom r s).kept = s.kept := rfl

@[simp] theorem markRooms_kept (rs s) :
    (markRooms rs s).kept = s.kept := foldl_kept (fun s r => markRoom_kept r s) rs s

@[simp] theorem markRecord_kept (r s) : (markRecord r s).kept = s.kept := by simp [markRecord]

@[simp] theorem whenTaking_kept {s : State} {f : State → State} (h : (f s).kept = s.kept) :
    (whenTaking s f).kept = s.kept := by simp [whenTaking, h]

@[simp] theorem whenPowered_kept {s : State} {f : State → State} (h : (f s).kept = s.kept) :
    (whenPowered s f).kept = s.kept := by simp [whenPowered, h]

@[simp] theorem whenLive_kept {s : State} {f : State → State} (h : (f s).kept = s.kept) :
    (whenLive s f).kept = s.kept := by simp [whenLive, h]

/-! ## The Face Composer -/

@[simp] theorem updFace_kept (a f s) : (updFace a f s).kept = s.kept := rfl

@[simp] theorem updFaces_kept (f s) : (updFaces f s).kept = s.kept := rfl

@[simp] theorem evaluateOverlays_kept (r s) : (evaluateOverlays r s).kept = s.kept := rfl

@[simp] theorem roomStateChanged_kept (r s) : (roomStateChanged r s).kept = s.kept := rfl

@[simp] theorem kitchenChanged_kept (k s) : (kitchenChanged k s).kept = s.kept := rfl

@[simp] theorem recomposeRoom_kept (r g s) : (recomposeRoom r g s).kept = s.kept := rfl

@[simp] theorem refreshFace_kept (a s) : (refreshFace a s).kept = s.kept := rfl

@[simp] theorem resetComposer_kept (s) : (resetComposer s).kept = s.kept := rfl

/-! ## The Catering Scheduler -/

@[simp] theorem addLoad_kept (k qd load s) : (addLoad k qd load s).kept = s.kept := rfl

@[simp] theorem subtractLoad_kept (k qd load s) : (subtractLoad k qd load s).kept = s.kept := rfl

@[simp] theorem handTicket_kept (k t s) : (handTicket k t s).kept = s.kept := by
  unfold handTicket
  split <;> simp

@[simp] theorem changeTickets_kept (k f s) : (changeTickets k f s).kept = s.kept := rfl

@[simp] theorem removeTicket_kept (k id s) : (removeTicket k id s).kept = s.kept := by simp [removeTicket]

@[simp] theorem updOrder_kept (id f s) : (updOrder id f s).kept = s.kept := rfl

@[simp] theorem dispatchOrder_kept (k g r o s) :
    (dispatchOrder k g r o s).kept = s.kept := by simp [dispatchOrder]

@[simp] theorem considerOrder_kept (k g s id) : (considerOrder k g s id).kept = s.kept := by
  unfold considerOrder
  split
  · simp
  · split <;> simp

@[simp] theorem judgeTicket_kept (k g s t) : (judgeTicket k g s t).kept = s.kept := by
  unfold judgeTicket
  dsimp only
  (repeat' split) <;> simp

@[simp] theorem passKitchen_kept (k g s) : (passKitchen k g s).kept = s.kept := by simp [passKitchen]

@[simp] theorem releaseOrder_kept (id s) : (releaseOrder id s).kept = s.kept := by
  unfold releaseOrder
  (repeat' split) <;> simp

@[simp] theorem renameTicket_kept (k id name s) : (renameTicket k id name s).kept = s.kept := by
  unfold renameTicket
  dsimp only
  (repeat' split) <;> simp

@[simp] theorem settleMove_kept (id alternate s) : (settleMove id alternate s).kept = s.kept := by
  unfold settleMove
  dsimp only
  (repeat' split) <;> simp

@[simp] theorem retireOrder_kept (id o s) : (retireOrder id o s).kept = s.kept := by simp [retireOrder]

@[simp] theorem placeOrder_kept (id j s) : (placeOrder id j s).kept = s.kept := by
  unfold placeOrder
  dsimp only
  (repeat' split) <;> simp

@[simp] theorem acceptTicket_kept (c s) : (acceptTicket c s).kept = s.kept := by
  unfold acceptTicket
  split <;> simp

@[simp] theorem deliverTicket_kept (c s) : (deliverTicket c s).kept = s.kept := by
  unfold deliverTicket
  split <;> simp

/-! ## The admission queue -/

@[simp] theorem joinQueue_kept (r s) : (joinQueue r s).kept = s.kept := rfl

@[simp] theorem endFlight_kept (s) : (endFlight s).kept = s.kept := rfl

@[simp] theorem setFlight_kept (f s) : (setFlight f s).kept = s.kept := rfl

@[simp] theorem setPending_kept (r b s) : (setPending r b s).kept = s.kept := rfl

@[simp] theorem triggerVacate_kept (r s) : (triggerVacate r s).kept = s.kept := by simp [triggerVacate]

@[simp] theorem queuePendingVacate_kept (s) : (queuePendingVacate s).kept = s.kept := by
  unfold queuePendingVacate
  split
  · simp
  · split <;> simp

/-! ## The Booking Store -/

@[simp] theorem allocate_kept (n s) : (allocate n s).kept = s.kept := by simp [allocate]

@[simp] theorem freeCells_kept (cells s) : (freeCells cells s).kept = s.kept := rfl

@[simp] theorem insertInto_kept (room r s) : (insertInto room r s).kept = s.kept := rfl

@[simp] theorem removeFrom_kept (room id s) : (removeFrom room id s).kept = s.kept := by simp [removeFrom]

@[simp] theorem triggerOnInsert_kept (state room s) :
    (triggerOnInsert state room s).kept = s.kept := by simp [triggerOnInsert]

@[simp] theorem placeInto_kept (room r s) : (placeInto room r s).kept = s.kept := by simp [placeInto]

@[simp] theorem insertRecord_kept (r s) : (insertRecord r s).kept = s.kept := by simp [insertRecord]

@[simp] theorem insertBeside_kept (id s) : (insertBeside id s).kept = s.kept := by
  unfold insertBeside
  split
  · simp
  · split <;> simp

@[simp] theorem removeRecord_kept (r s) :
    (removeRecord r s).kept = s.kept := foldl_kept (fun s q => removeFrom_kept q r.id s) _ s

@[simp] theorem recomputeRetire_kept (id s) : (recomputeRetire id s).kept = s.kept := rfl

@[simp] theorem retire_kept (id s) : (retire id s).kept = s.kept := by
  unfold retire
  split
  · simp
  · split <;> simp

@[simp] theorem joinRetireList_kept (id s) : (joinRetireList id s).kept = s.kept := by
  unfold joinRetireList
  split <;> simp

@[simp] theorem releaseRecord_kept (id reason s) : (releaseRecord id reason s).kept = s.kept := by
  unfold releaseRecord
  split <;> simp

@[simp] theorem release_kept (id reason s) : (release id reason s).kept = s.kept := by simp [release]

@[simp] theorem editRecord_kept (r f s) : (editRecord r f s).kept = s.kept := by simp [editRecord]

/-! ## Attendance -/

@[simp] theorem armDue_kept (g id s) : (armDue g id s).kept = s.kept := by
  unfold armDue
  split <;> simp

@[simp] theorem absenceDue_kept (g id s) : (absenceDue g id s).kept = s.kept := by
  unfold absenceDue
  split <;> simp

@[simp] theorem endDue_kept (g id s) : (endDue g id s).kept = s.kept := by
  unfold endDue
  split <;> simp

@[simp] theorem retireDue_kept (g id s) : (retireDue g id s).kept = s.kept := by
  unfold retireDue
  split <;> simp

@[simp] theorem scanRecord_kept (g s id) : (scanRecord g s id).kept = s.kept := by simp [scanRecord]

@[simp] theorem scanList_kept (r g s) : (scanList r g s).kept = s.kept := by simp [scanList]

@[simp] theorem scanRetireList_kept (g s) : (scanRetireList g s).kept = s.kept := by simp [scanRetireList]

@[simp] theorem setScan_kept (w s) : (setScan w s).kept = s.kept := rfl

@[simp] theorem beginScan_kept (s) : (beginScan s).kept = s.kept := by
  unfold beginScan
  split <;> simp

@[simp] theorem scanPiece_kept (s) : (scanPiece s).kept = s.kept := by
  unfold scanPiece
  dsimp only
  (repeat' split) <;> simp

@[simp] theorem scanPieces_kept (n : Nat) (s : State) : (scanPieces n s).kept = s.kept := by
  induction n generalizing s with
  | zero => rfl
  | succ n ih => simp [scanPieces, ih]

@[simp] theorem checkIn_kept (target badge s) : (checkIn target badge s).kept = s.kept := by simp [checkIn]

@[simp] theorem judgeTap_kept (t s) : (judgeTap t s).kept = s.kept := by
  unfold judgeTap
  (repeat' split) <;> simp

@[simp] theorem takeTap_kept (s) : (takeTap s).kept = s.kept := by
  unfold takeTap
  split <;> simp

/-! ## The Admission Engine -/

@[simp] theorem offerUplink_kept (via k r s) : (offerUplink via k r s).kept = s.kept := by simp [offerUplink]

@[simp] theorem takeBook_kept (via ask s) : (takeBook via ask s).kept = s.kept := by simp [takeBook]

@[simp] theorem takeModify_kept (via ask s) : (takeModify via ask s).kept = s.kept := by simp [takeModify]

@[simp] theorem takeCancel_kept (via id s) : (takeCancel via id s).kept = s.kept := by simp [takeCancel]

@[simp] theorem complete_kept (f up panel s) : (complete f up panel s).kept = s.kept := by
  unfold complete
  split <;> simp

@[simp] theorem refuse_kept (f r named s) : (refuse f r named s).kept = s.kept := by simp [refuse]

@[simp] theorem refuseMalformed_kept (f s) : (refuseMalformed f s).kept = s.kept := by simp [refuseMalformed]

@[simp] theorem advance_kept (f step s) : (advance f step s).kept = s.kept := rfl

@[simp] theorem checkOr_kept (ok f r next s) : (checkOr ok f r next s).kept = s.kept := by simp [checkOr]

@[simp] theorem actOnJudgement_kept (j required f s) : (actOnJudgement j required f s).kept = s.kept := by
  unfold actOnJudgement
  split <;> simp

@[simp] theorem bookConflict_kept (ask f s) : (bookConflict ask f s).kept = s.kept := by
  unfold bookConflict
  dsimp only
  (repeat' split) <;> simp

@[simp] theorem bookCheck_kept (ask f step s) : (bookCheck ask f step s).kept = s.kept := by
  unfold bookCheck
  (repeat' split) <;> simp

@[simp] theorem addRecord_kept (r s) : (addRecord r s).kept = s.kept := rfl

@[simp] theorem placeSettled_kept (id t s) : (placeSettled id t s).kept = s.kept := by
  unfold placeSettled
  split <;> simp

@[simp] theorem placedThen_kept (f s) : (placedThen f s).kept = s.kept := rfl

@[simp] theorem insertThen_kept (r : Record) (refused : Option BookingId) (f : Flight) {onward : State → State}
    (h : ∀ s, (onward s).kept = s.kept) (s : State) : (insertThen r refused f onward s).kept = s.kept := by
  unfold insertThen
  dsimp only
  split <;> simp [h]

@[simp] theorem completeIfServed_kept (s) : (completeIfServed s).kept = s.kept := by
  unfold completeIfServed
  split <;> simp

@[simp] theorem finishBook_kept (id f s) : (finishBook id f s).kept = s.kept := by simp [finishBook]

@[simp] theorem placeBook_kept (ask f s) : (placeBook ask f s).kept = s.kept := by simp [placeBook]

@[simp] theorem modifyOrder_kept (ask f r s) : (modifyOrder ask f r s).kept = s.kept := by
  unfold modifyOrder
  (repeat' split) <;> simp

@[simp] theorem restoreTaken_kept (t first f s) : (restoreTaken t first f s).kept = s.kept := by
  unfold restoreTaken
  dsimp only
  (repeat' split) <;> simp

@[simp] theorem refuseConflict_kept (first f s) : (refuseConflict first f s).kept = s.kept := by
  unfold refuseConflict
  split <;> simp

@[simp] theorem modifyConflict_kept (ask f r s) : (modifyConflict ask f r s).kept = s.kept := by
  unfold modifyConflict
  dsimp only
  (repeat' split) <;> simp

@[simp] theorem modifyTimes_kept (ask f r s) : (modifyTimes ask f r s).kept = s.kept := by
  unfold modifyTimes
  split <;> simp

@[simp] theorem modifyCheckRecord_kept (ask f r step s) :
    (modifyCheckRecord ask f r step s).kept = s.kept := by
  unfold modifyCheckRecord
  (repeat' split) <;> simp

@[simp] theorem modifyCheck_kept (ask f step s) : (modifyCheck ask f step s).kept = s.kept := by
  unfold modifyCheck
  (repeat' split) <;> simp

@[simp] theorem resizeRecord_kept (r n s) : (resizeRecord r n s).kept = s.kept := by simp [resizeRecord]

@[simp] theorem subtractOwn_kept (r s) : (subtractOwn r s).kept = s.kept := by
  unfold subtractOwn
  split <;> simp

@[simp] theorem settleOrder_kept (r t s) : (settleOrder r t s).kept = s.kept := by
  unfold settleOrder
  split <;> simp

@[simp] theorem applyFields_kept (ask f r s) : (applyFields ask f r s).kept = s.kept := by simp [applyFields]

@[simp] theorem takeModified_kept (ask bookings f s) : (takeModified ask bookings f s).kept = s.kept := by
  unfold takeModified
  split <;> simp

@[simp] theorem finishModify_kept (id f s) : (finishModify id f s).kept = s.kept := by simp [finishModify]

@[simp] theorem placeModified_kept (ask f s) : (placeModified ask f s).kept = s.kept := by
  unfold placeModified
  dsimp only
  (repeat' split) <;> simp

@[simp] theorem partnerStep_kept (refused f s) : (partnerStep refused f s).kept = s.kept := by
  unfold partnerStep
  (repeat' split) <;> simp

@[simp] theorem cancelStep_kept (id f s) : (cancelStep id f s).kept = s.kept := by
  unfold cancelStep
  split
  · simp
  · split <;> simp

@[simp] theorem placeWalkIn_kept (room n sp f s) :
    (placeWalkIn room n sp f s).kept = s.kept := by simp [placeWalkIn]

@[simp] theorem bookNowAtStore_kept (room f s) : (bookNowAtStore room f s).kept = s.kept := by
  unfold bookNowAtStore
  dsimp only
  (repeat' split) <;> simp

@[simp] theorem bookNowCheck_kept (room choice f step s) :
    (bookNowCheck room choice f step s).kept = s.kept := by
  unfold bookNowCheck
  split <;> simp

@[simp] theorem extendAtStore_kept (room f s) : (extendAtStore room f s).kept = s.kept := by
  unfold extendAtStore
  dsimp only
  (repeat' split) <;> simp

@[simp] theorem extendCheck_kept (room f step s) : (extendCheck room f step s).kept = s.kept := by
  unfold extendCheck
  split <;> simp

@[simp] theorem endNowAtStore_kept (room f s) : (endNowAtStore room f s).kept = s.kept := by
  unfold endNowAtStore
  split <;> simp

@[simp] theorem endNowCheck_kept (room f step s) : (endNowCheck room f step s).kept = s.kept := by
  unfold endNowCheck
  split <;> simp

@[simp] theorem checkStep_kept (f step s) : (checkStep f step s).kept = s.kept := by
  unfold checkStep
  split <;> simp

@[simp] theorem placeStep_kept (f s) : (placeStep f s).kept = s.kept := by
  unfold placeStep
  split <;> simp

@[simp] theorem admissionStep_kept (s) : (admissionStep s).kept = s.kept := by
  unfold admissionStep
  split
  · rfl
  · rename_i f _
    cases f.phase with
    | take bookings => cases f.request <;> simp
    | serve => cases f.request <;> simp
    | _ => simp

@[simp] theorem engineStep_kept {f : State → State} (h : ∀ s, (f s).kept = s.kept) (s : State) :
    (engineStep f s).kept = s.kept := by
  unfold engineStep whenPowered
  split <;> simp [h]

@[simp] theorem judgeWhole_kept (p : Request → Bool) (n : Nat) (s : State) :
    (judgeWhole p n s).kept = s.kept := by
  induction n generalizing s with
  | zero => rfl
  | succ n ih =>
    unfold judgeWhole
    (repeat' split) <;> simp [ih]

/-! ## Boundary work -/

@[simp] theorem setPass_kept (w s) : (setPass w s).kept = s.kept := rfl

@[simp] theorem beginPass_kept (s) : (beginPass s).kept = s.kept := by
  unfold beginPass
  split <;> simp

@[simp] theorem passPiece_kept (s) : (passPiece s).kept = s.kept := by
  unfold passPiece
  dsimp only
  (repeat' split) <;> simp

@[simp] theorem passPieces_kept (n : Nat) (s : State) : (passPieces n s).kept = s.kept := by
  induction n generalizing s with
  | zero => rfl
  | succ n ih => simp [passPieces, ih]

@[simp] theorem setRecompose_kept (w s) : (setRecompose w s).kept = s.kept := rfl

@[simp] theorem beginRecompose_kept (s) : (beginRecompose s).kept = s.kept := by
  unfold beginRecompose
  split <;> simp

@[simp] theorem recomposePiece_kept (s) : (recomposePiece s).kept = s.kept := by
  unfold recomposePiece
  dsimp only
  (repeat' split) <;> simp

@[simp] theorem recomposePieces_kept (n : Nat) (s : State) : (recomposePieces n s).kept = s.kept := by
  induction n generalizing s with
  | zero => rfl
  | succ n ih => simp [recomposePieces, ih]

@[simp] theorem takeRecompose_kept (pieces s) :
    (takeRecompose pieces s).kept = s.kept := by simp [takeRecompose]

@[simp] theorem takePantryCall_kept (delivered : Bool) {judge : PantryCall → State → State}
    (h : ∀ c s, (judge c s).kept = s.kept) (s : State) : (takePantryCall delivered judge s).kept = s.kept := by
  unfold takePantryCall
  split <;> simp [h]

/-! ## The load pages, and the answer to a set -/

@[simp] theorem raiseBoundary_kept (g s) : (raiseBoundary g s).kept = s.kept := rfl

@[simp] theorem raiseRollover_kept (old new s) : (raiseRollover old new s).kept = s.kept := rfl

@[simp] theorem updPages_kept (f s) : (updPages f s).kept = s.kept := rfl

@[simp] theorem applyRollover_kept (r s) : (applyRollover r s).kept = s.kept := rfl

@[simp] theorem takeRollover_kept (s) : (takeRollover s).kept = s.kept := by
  unfold takeRollover
  split <;> simp

@[simp] theorem drainRollovers_kept (s) : (drainRollovers s).kept = s.kept := by
  rw [drainRollovers, foldl_kept fun s r => applyRollover_kept r s]
  rfl

@[simp] theorem cutOrder_kept (s id) : (cutOrder s id).kept = s.kept := by
  unfold cutOrder
  split
  · simp
  · split <;> simp

@[simp] theorem addLoads_kept (s os) :
    (addLoads s os).kept = s.kept := foldl_kept (fun s _ => addLoad_kept _ _ _ s) os s

@[simp] theorem realignPage_kept (n s i) : (realignPage n s i).kept = s.kept := by simp [realignPage]

@[simp] theorem realign_kept (n s) : (realign n s).kept = s.kept := by simp [realign]

@[simp] theorem tagPages_kept (n s) : (tagPages n s).kept = s.kept := rfl

@[simp] theorem dayChanged_kept (old new s) : (dayChanged old new s).kept = s.kept := by simp [dayChanged]

@[simp] theorem answerSet_kept (via jump delta s) :
    (answerSet via jump delta s).kept = s.kept := by simp [answerSet]

@[simp] theorem raiseJump_kept (jump delta s) : (raiseJump jump delta s).kept = s.kept := by simp [raiseJump]

@[simp] theorem takeClockRead_kept (via s) : (takeClockRead via s).kept = s.kept := by simp [takeClockRead]

/-! ## Table access -/

@[simp] theorem answerWrite_kept (via : Via) (table index n : Nat) (w : Written) :
    (answerWrite via table index n w).kept = w.state.kept := respond_kept ..

@[simp] theorem Written.none_state (s : State) : (Written.none s).state = s := rfl

@[simp] theorem writeSettings_kept (index w m s) : (writeSettings index w m s).state.kept = s.kept := by
  unfold writeSettings
  split <;> simp

@[simp] theorem roomStateTold_kept (r old s) :
    (roomStateTold r old s).kept = s.kept := by simp [roomStateTold]

@[simp] theorem roomNameTold_kept (r old s) : (roomNameTold r old s).kept = s.kept := by simp [roomNameTold]

@[simp] theorem writeRoom_kept (index w s) : (writeRoom index w s).state.kept = s.kept := by
  unfold writeRoom
  split <;> simp

@[simp] theorem markStale_kept (a s) : (markStale a s).kept = s.kept := rfl

@[simp] theorem panelRenewed_kept (a s) : (panelRenewed a s).kept = s.kept := rfl

@[simp] theorem writePanel_kept (index w m s) : (writePanel index w m s).state.kept = s.kept := by
  unfold writePanel
  split <;> simp

@[simp] theorem writeItem_kept (index w s) : (writeItem index w s).state.kept = s.kept := by
  unfold writeItem
  split <;> simp

@[simp] theorem writeKitchen_kept (index w s) : (writeKitchen index w s).state.kept = s.kept := by
  unfold writeKitchen
  split <;> simp

@[simp] theorem judgeProfile_kept (k w s) : (judgeProfile k w s).kept = s.kept := by
  unfold judgeProfile
  split <;> simp

@[simp] theorem writeProfile_kept (index w s) : (writeProfile index w s).state.kept = s.kept := by
  unfold writeProfile
  split <;> simp

@[simp] theorem markOverlay_kept (k old new s) : (markOverlay k old new s).kept = s.kept := rfl

@[simp] theorem writeOverlay_kept (index w s) : (writeOverlay index w s).state.kept = s.kept := by
  unfold writeOverlay
  split <;> simp

@[simp] theorem writeDisposition_kept (index action level s) :
    (writeDisposition index action level s).state.kept = s.kept := by
  unfold writeDisposition
  split <;> simp

@[simp] theorem clearLossLatch_kept (s) : (clearLossLatch s).kept = s.kept := rfl

@[simp] theorem writeLoop_kept (index latch m s) : (writeLoop index latch m s).state.kept = s.kept := by
  unfold writeLoop
  split <;> simp

@[simp] theorem writeTable_kept (table index m b s) :
    (writeTable table index m b s).state.kept = s.kept := by
  unfold writeTable
  split <;> simp

@[simp] theorem takeTableWrite_kept (via table index mask image s) :
    (takeTableWrite via table index mask image s).kept = s.kept := by simp [takeTableWrite]

@[simp] theorem takeTableRead_kept (via table index s) :
    (takeTableRead via table index s).kept = s.kept := by simp [takeTableRead]

/-! ## Panel text and overlays -/

@[simp] theorem applyText_kept (via a us s) : (applyText via a us s).kept = s.kept := by simp [applyText]

@[simp] theorem takeText_kept (via address units s) : (takeText via address units s).kept = s.kept := by
  unfold takeText
  split <;> simp

@[simp] theorem chooseOverlay_kept (as c s) : (chooseOverlay as c s).kept = s.kept := rfl

@[simp] theorem takeOverlay_kept (via target choice s) :
    (takeOverlay via target choice s).kept = s.kept := by
  unfold takeOverlay
  split <;> simp

/-! ## The Loop Controller -/

@[simp] theorem updLoop_kept (f s) : (updLoop f s).kept = s.kept := rfl

@[simp] theorem updPanel_kept (a f s) : (updPanel a f s).kept = s.kept := rfl

@[simp] theorem raisePanel_kept (c address detail s) : (raisePanel c address detail s).kept = s.kept := rfl

@[simp] theorem loopSend_kept (b s) : (loopSend b s).kept = s.kept := rfl

@[simp] theorem sendOwn_kept (c destination kind payload now s) :
    (sendOwn c destination kind payload now s).kept = s.kept := rfl

@[simp] theorem endAwait_kept (s) : (endAwait s).kept = s.kept := rfl

@[simp] theorem rowBack_kept (a row taken s) : (rowBack a row taken s).kept = s.kept := rfl

@[simp] theorem replyBack_kept (a serial taken s) : (replyBack a serial taken s).kept = s.kept := rfl

@[simp] theorem ticketBack_kept (a id taken s) : (ticketBack a id taken s).kept = s.kept := rfl

@[simp] theorem contentBack_kept (w taken s) : (contentBack w taken s).kept = s.kept := by
  unfold contentBack
  split <;> simp

@[simp] theorem setEcho_kept (e s) : (setEcho e s).kept = s.kept := rfl

@[simp] theorem echoLost_kept (c s) : (echoLost c s).kept = s.kept := by
  unfold echoLost
  split <;> simp

@[simp] theorem echoRefused_kept (s) : (echoRefused s).kept = s.kept := by
  unfold echoRefused
  split <;> simp

@[simp] theorem takeEcho_kept (via s) : (takeEcho via s).kept = s.kept := by
  unfold takeEcho
  (repeat' split) <;> simp

@[simp] theorem markFace_kept (a s) : (markFace a s).kept = s.kept := rfl

@[simp] theorem panelReturned_kept (a s) : (panelReturned a s).kept = s.kept := rfl

@[simp] theorem panelSeen_kept (a s) : (panelSeen a s).kept = s.kept := by
  unfold panelSeen
  split <;> simp

@[simp] theorem panelSuccess_kept (a s) : (panelSuccess a s).kept = s.kept := by
  unfold panelSuccess
  split <;> simp

@[simp] theorem panelMiss_kept (a detail s) : (panelMiss a detail s).kept = s.kept := by
  unfold panelMiss
  dsimp only
  (repeat' split) <;> simp

@[simp] theorem applyToPanel_kept (w : Awaited) {f : Addr → State → State}
    (h : ∀ a s, (f a s).kept = s.kept) (s : State) : (applyToPanel w f s).kept = s.kept := by
  unfold applyToPanel
  split <;> simp [h]

@[simp] theorem breakLoop_kept (destination s) : (breakLoop destination s).kept = s.kept := rfl

@[simp] theorem countMiss_kept (s) : (countMiss s).kept = s.kept := rfl

@[simp] theorem timedOut_kept (w s) : (timedOut w s).kept = s.kept := by simp [timedOut]

@[simp] theorem returnTimeout_kept (s) : (returnTimeout s).kept = s.kept := by
  unfold returnTimeout
  split <;> simp

@[simp] theorem abandonAwaited_kept (s) : (abandonAwaited s).kept = s.kept := by
  unfold abandonAwaited
  split <;> simp

@[simp] theorem beginSync_kept (s : State) : (beginSync s).kept = s.kept := by simp [beginSync]

@[simp] theorem signalPresent_kept (s) : (signalPresent s).kept = s.kept := by
  unfold signalPresent
  rw [whenLive_kept (beginSync_kept _), updLoop_kept]

@[simp] theorem goDown_kept (s) : (goDown s).kept = s.kept := by simp [goDown]

@[simp] theorem signalAbsent_kept (s) : (signalAbsent s).kept = s.kept := by simp [signalAbsent]

@[simp] theorem startCycle_kept (s) : (startCycle s).kept = s.kept := rfl

@[simp] theorem nextWindow_kept (s) : (nextWindow s).kept = s.kept := by simp [nextWindow]

@[simp] theorem freshWindow_kept (now s) : (freshWindow now s).kept = s.kept := rfl

@[simp] theorem lapseAwaited_kept (now s) : (lapseAwaited now s).kept = s.kept := by
  unfold lapseAwaited
  split <;> simp

@[simp] theorem dueBeacon_kept (s) : (dueBeacon s).kept = s.kept := rfl

@[simp] theorem sendDue_kept (now s) : (sendDue now s).kept = s.kept := by
  unfold sendDue
  split <;> simp

@[simp] theorem openWindow_kept (now s) : (openWindow now s).kept = s.kept := by simp [openWindow]

@[simp] theorem dropLapsed_kept (a s) : (dropLapsed a s).kept = s.kept := by simp [dropLapsed]

@[simp] theorem sendReply_kept (a now s) : (sendReply a now s).kept = s.kept := by
  unfold sendReply
  split <;> simp

@[simp] theorem sendTicket_kept (a now s) : (sendTicket a now s).kept = s.kept := by
  unfold sendTicket
  split <;> simp

@[simp] theorem sendRow_kept (a row now s) : (sendRow a row now s).kept = s.kept := rfl

@[simp] theorem sendChosen_kept (c now s) : (sendChosen c now s).kept = s.kept := by
  unfold sendChosen
  split <;> simp

@[simp] theorem visit_kept (now : Nat) (l : List Addr) (s : State) : (visit now l s).kept = s.kept := by
  induction l generalizing s with
  | nil => rfl
  | cons a l ih =>
    unfold visit
    dsimp only
    (repeat' split) <;> simp [ih]

@[simp] theorem serveNext_kept (now s) : (serveNext now s).kept = s.kept := by
  unfold serveNext
  split <;> simp

@[simp] theorem serveAt_kept (now s) : (serveAt now s).kept = s.kept := by simp [serveAt]

@[simp] theorem checkFailed_kept (s) : (checkFailed s).kept = s.kept := rfl

@[simp] theorem strip_kept (s) : (strip s).kept = s.kept := rfl

@[simp] theorem stripRogue_kept (subject detail s) : (stripRogue subject detail s).kept = s.kept := rfl

@[simp] theorem beaconHome_kept (s) : (beaconHome s).kept = s.kept := by
  unfold beaconHome
  split <;> simp

@[simp] theorem echoHome_kept (via time s) : (echoHome via time s).kept = s.kept := by simp [echoHome]

@[simp] theorem matched_kept (w taken now s) : (matched w taken now s).kept = s.kept := by
  unfold matched
  (repeat' split) <;> simp

@[simp] theorem ownReturn_kept (f now s) : (ownReturn f now s).kept = s.kept := by
  unfold ownReturn
  split <;> simp

@[simp] theorem windowViolation_kept (a s) : (windowViolation a s).kept = s.kept := by simp [windowViolation]

@[simp] theorem offerPanel_kept (place r s) : (offerPanel place r s).kept = s.kept := by simp [offerPanel]

@[simp] theorem handDoorCall_kept (place room payload s) :
    (handDoorCall place room payload s).kept = s.kept := by
  unfold handDoorCall
  split <;> simp

@[simp] theorem handPantryCall_kept (place kitchen payload s) :
    (handPantryCall place kitchen payload s).kept = s.kept := by
  unfold handPantryCall
  split <;> simp

@[simp] theorem handCall_kept (place payload s) : (handCall place payload s).kept = s.kept := by
  unfold handCall
  dsimp only
  (repeat' split) <;> simp

@[simp] theorem makeReply_kept (a sequence payload s) : (makeReply a sequence payload s).kept = s.kept := rfl

@[simp] theorem takeCall_kept (a sequence payload s) :
    (takeCall a sequence payload s).kept = s.kept := by simp [takeCall]

@[simp] theorem judgeCall_kept (a sequence payload s) :
    (judgeCall a sequence payload s).kept = s.kept := by simp [judgeCall]

@[simp] theorem loopForward_kept (b now s) : (loopForward b now s).kept = s.kept := rfl

@[simp] theorem judgeBound_kept (a f now s) : (judgeBound a f now s).kept = s.kept := by simp [judgeBound]

@[simp] theorem judgePanelFrame_kept (f now s) : (judgePanelFrame f now s).kept = s.kept := by
  unfold judgePanelFrame
  split <;> simp

@[simp] theorem judgeFrame_kept (f now s) : (judgeFrame f now s).kept = s.kept := by simp [judgeFrame]

@[simp] theorem loopIn_kept (b now s) : (loopIn b now s).kept = s.kept := by
  unfold loopIn
  split <;> simp

@[simp] theorem callIn_kept (origin sequence payload s) :
    (callIn origin sequence payload s).kept = s.kept := by simp [callIn]

/-! ## Moves -/

@[simp] theorem releaseFrame_kept (c m s) : (releaseFrame c m s).kept = s.kept := by
  unfold releaseFrame
  split <;> simp

@[simp] theorem pushFrame_kept (p m) : (pushFrame p m).2.kept = p.2.kept := by
  unfold pushFrame
  dsimp only
  (repeat' split) <;> simp

/-- The pushes of a displacement, in turn. -/
@[simp] theorem pushFrames_kept (l : List MoveFrame) (p : Flight × State) :
    (l.foldl pushFrame p).2.kept = p.2.kept := by
  induction l generalizing p with
  | nil => rfl
  | cons m l ih => rw [List.foldl_cons, ih, pushFrame_kept]

@[simp] theorem makeMoving_kept (s r) : (makeMoving s r).kept = s.kept := by simp [makeMoving]

@[simp] theorem displace_kept (ids depth next f s) : (displace ids depth next f s).kept = s.kept := by simp [displace]

@[simp] theorem judgeDisplacement_kept (ids depth granted refused f s) :
    (judgeDisplacement ids depth granted refused f s).kept = s.kept := by simp [judgeDisplacement]

@[simp] theorem displacementStep_kept (s) : (displacementStep s).kept = s.kept := by
  unfold displacementStep
  split
  · simp
  · split <;> simp

@[simp] theorem popFrame_kept (m rest f s) : (popFrame m rest f s).kept = s.kept := rfl

@[simp] theorem unplace_kept (t f s) : (unplace t f s).kept = s.kept := by simp [unplace]

@[simp] theorem endPass_kept (t f s) : (endPass t f s).kept = s.kept := by simp [endPass]

@[simp] theorem tryAlternate_kept (t f s) : (tryAlternate t f s).kept = s.kept := by
  unfold tryAlternate
  split
  · simp
  · split <;> simp

@[simp] theorem recheckAlternate_kept (t f s) : (recheckAlternate t f s).kept = s.kept := by
  unfold recheckAlternate
  split <;> simp

@[simp] theorem advancePointer_kept (t s) : (advancePointer t s).kept = s.kept := rfl

@[simp] theorem placeMove_kept (t sp f s) : (placeMove t sp f s).kept = s.kept := by
  unfold placeMove
  split <;> simp

@[simp] theorem vacateLeft_kept (v s) : (vacateLeft v s).kept = s.kept := by
  unfold vacateLeft
  split <;> simp

@[simp] theorem readVacated_kept (v f s) : (readVacated v f s).kept = s.kept := by
  unfold readVacated
  (repeat' split) <;> simp

@[simp] theorem popEmpty_kept (f s) : (popEmpty f s).kept = s.kept := by
  unfold popEmpty
  split <;> simp

@[simp] theorem vacateStep_kept (s) : (vacateStep s).kept = s.kept := by
  unfold vacateStep
  split
  · simp
  · split <;> simp

@[simp] theorem moveStep_kept (s) : (moveStep s).kept = s.kept := by
  unfold moveStep
  (repeat' split) <;> simp

@[simp] theorem moveSteps_kept (n : Nat) (s : State) : (moveSteps n s).kept = s.kept := by
  induction n generalizing s with
  | zero => rfl
  | succ n ih => simp [moveSteps, ih]

/-! ## Notices -/

@[simp] theorem setNotices_kept (q l s) : (setNotices q l s).kept = s.kept := rfl

@[simp] theorem takePeek_kept (via queue s) : (takePeek via queue s).kept = s.kept := by
  unfold takePeek
  split <;> simp

@[simp] theorem takeNotices_kept (via q count s) :
    (takeNotices via q count s).kept = s.kept := by simp [takeNotices]

@[simp] theorem takeTake_kept (via queue count s) : (takeTake via queue count s).kept = s.kept := by
  unfold takeTake
  split <;> simp

@[simp] theorem flushQueue_kept (q s) : (flushQueue q s).kept = s.kept := rfl

@[simp] theorem takeFlush_kept (via queue s) : (takeFlush via queue s).kept = s.kept := by
  unfold takeFlush
  split <;> simp

@[simp] theorem takeAlertClear_kept (via mask s) :
    (takeAlertClear via mask s).kept = s.kept := by simp [takeAlertClear]

@[simp] theorem takeCounters_kept (via clear s) :
    (takeCounters via clear s).kept = s.kept := by simp [takeCounters]

@[simp] theorem applyHold_kept (h s) : (applyHold h s).kept = s.kept := by
  unfold applyHold
  split <;> simp

@[simp] theorem takeHold_kept (s) : (takeHold s).kept = s.kept := by
  unfold takeHold
  split <;> simp

@[simp] theorem takeQuery_kept (via id s) : (takeQuery via id s).kept = s.kept := by
  unfold takeQuery
  split <;> simp

@[simp] theorem takeList_kept (via room day start s) : (takeList via room day start s).kept = s.kept := by
  unfold takeList
  split <;> simp

/-! ## The ports -/

@[simp] theorem takePartReset_kept (via s) : (takePartReset via s).kept = s.kept := by simp [takePartReset]

@[simp] theorem dropUplink_kept (s) : (dropUplink s).kept = s.kept := rfl

@[simp] theorem dropCascade_kept (s) : (dropCascade s).kept = s.kept := rfl

@[simp] theorem forwardDown_kept (f s) : (forwardDown f s).kept = s.kept := rfl

@[simp] theorem forwardUp_kept (f s) : (forwardUp f s).kept = s.kept := by simp [forwardUp]

@[simp] theorem cascadeFrame_kept (f s) : (cascadeFrame f s).kept = s.kept := by
  unfold cascadeFrame
  split
  · simp
  · split <;> simp

@[simp] theorem setLink_kept (uplink up s) : (setLink uplink up s).kept = s.kept := by simp [setLink]

/-! ## Resets -/

@[simp] theorem readStraps_kept (straps s) : (readStraps straps s).kept = s.kept := rfl

@[simp] theorem settleHolds_kept (s) : (settleHolds s).kept = s.kept := by
  rw [settleHolds, foldl_kept fun s h => applyHold_kept h s]
  rfl

@[simp] theorem resetBlocks_kept (s) : (resetBlocks s).kept = s.kept := rfl

@[simp] theorem discardUnsent_kept (s) : (discardUnsent s).kept = s.kept := rfl

@[simp] theorem lineReset_kept (straps s) : (lineReset straps s).kept = s.kept := by simp [lineReset]

@[simp] theorem setResetLine_kept (b s) : (setResetLine b s).kept = s.kept := rfl

@[simp] theorem assertReset_kept (straps s) : (assertReset straps s).kept = s.kept := by
  unfold assertReset
  rw [whenPowered_kept (lineReset_kept _ _), setResetLine_kept]

@[simp] theorem releaseReset_kept (straps s) : (releaseReset straps s).kept = s.kept := by
  unfold releaseReset
  rw [whenPowered_kept (by simp), setResetLine_kept]

@[simp] theorem powerOff_kept (s) : (powerOff s).kept = s.kept := rfl

end Sys2Proof.Machine
end

section
/-!
SUPPORT. The clock of chapter 1 under each command that moves it, and the statement that every step keeps it legal.
-/

namespace Sys2Proof.Machine

/-! ## Legal clocks (`01` 1.1) -/

/-- The reference state is no part of what makes a clock legal. -/
theorem Clock.Legal.referred {c : Clock} (h : c.Legal) (b : Bool) : { c with reference := b }.Legal := h

/-- A halted clock, its sub-second count at 0, is legal (R1, R2). -/
theorem Clock.Legal.halted {c : Clock} (h : c.Legal) : { c with state := .halted, subSecond := 0 }.Legal := by
  obtain ⟨hd, hm, hs, -⟩ := h
  exact ⟨hd, hm, hs, by simp, by simp, by simp⟩

/-- A time within its ranges makes a legal clock (R8). -/
theorem Clock.loaded_legal (c : Clock) {day minute second : Nat} (hd : day ≤ 65535) (hm : minute ≤ 1439)
    (hs : second ≤ 59) : (c.loaded day minute second).Legal := by
  refine ⟨hd, ?_, ?_, ?_, ?_, ?_⟩ <;> simp [Clock.loaded] <;> omega

/-- An edge that does not complete a second (R1). -/
theorem Clock.Legal.edge {c : Clock} (h : c.Legal) (hr : c.state = .running) (hb : c.subSecond + 1 < 32768) :
    { c with subSecond := c.subSecond + 1 }.Legal := by
  obtain ⟨hd, hm, hs, -⟩ := h
  exact ⟨hd, hm, hs, hb, by simp [hr], by simp [hr]⟩

theorem Clock.atEnd_iff (c : Clock) : c.atEnd = true ↔ c.day = 65535 ∧ c.minute = 1439 ∧ c.second = 59 := by
  simp [Clock.atEnd, Config.lastDay, and_assoc]

/-- What the next second leaves as it was. -/
@[simp] theorem Clock.nextSecond_frame (c : Clock) :
    c.nextSecond.state = c.state ∧ c.nextSecond.reference = c.reference ∧ c.nextSecond.subSecond = 0 := by
  unfold Clock.nextSecond
  (repeat' split) <;> exact ⟨rfl, rfl, rfl⟩

/-- The next second of a clock that has not reached the end of its range is legal (R1). -/
theorem Clock.Legal.nextSecond {c : Clock} (h : c.Legal) (hr : c.state = .running) (he : c.atEnd = false) :
    c.nextSecond.Legal := by
  obtain ⟨hd, hm, hs, -⟩ := h
  have he : ¬ (c.day = 65535 ∧ c.minute = 1439 ∧ c.second = 59) := by rw [← c.atEnd_iff, he]; simp
  refine ⟨?_, ?_, ?_, by simp, by simp [hr], by simp [hr]⟩ <;> unfold Clock.nextSecond <;> (repeat' split) <;>
    dsimp only <;> omega

/-! ## The commands that move the clock -/

@[simp] theorem loadClock_kept (day minute second s) :
    (loadClock day minute second s).kept = (s.kept.1.loaded day minute second, s.kept.2) := rfl

/-- The clock after an edge of the reference (R1, R2). -/
def Clock.afterEdge (c : Clock) : Clock :=
  let c := { c with reference := true }
  if c.state = .running then
    if c.subSecond + 1 < 32768 then { c with subSecond := c.subSecond + 1 }
    else if c.atEnd then { c with state := .halted, subSecond := 0 }
    else c.nextSecond
  else c

theorem countSecond_kept (s : State) : (countSecond s).kept =
    (if s.clock.atEnd then { s.clock with state := .halted, subSecond := 0 } else s.clock.nextSecond, s.pending) := by
  unfold countSecond
  split
  · rfl
  · simp

theorem referenceEdge_kept (s : State) : (referenceEdge s).kept = (s.clock.afterEdge, s.pending) := by
  unfold referenceEdge countEdge Clock.afterEdge Config.edgesPerSecond
  dsimp only
  split
  · split
    · rfl
    · exact countSecond_kept _
  · rfl

theorem Clock.Legal.afterEdge {c : Clock} (h : c.Legal) : c.afterEdge.Legal := by
  unfold Clock.afterEdge
  dsimp only
  split
  next hr =>
    split
    next hb => exact (h.referred true).edge hr hb
    next =>
      split
      next => exact h.halted
      next he => exact (h.referred true).nextSecond hr (by simpa using he)
  next => exact h

/-- The loss of the reference halts a clock that runs (R2). -/
theorem referenceLost_of_running {s : State} (h : s.clock.reference = true) (hr : s.clock.state = .running) :
    referenceLost s = haltClock 0#32 { s with clock := { s.clock with reference := false } } := by
  simp [referenceLost, h, hr]

/-- It leaves any other clock where it stands (R2). -/
theorem referenceLost_of_not {s : State} (h : s.clock.reference = false ∨ s.clock.state ≠ .running) :
    referenceLost s = { s with clock := { s.clock with reference := false } } := by
  unfold referenceLost
  split
  next hr => exact if_neg (by simpa [hr] using h)
  next hr => rw [← (Bool.not_eq_true _).mp hr]

/-- A CLOCK_SET leaves the clock as it was, or loads a time whose minute and second are in range (R8 to R10). -/
theorem takeClockSet_kept (via : Via) (day minute second : Nat) (force : Bool) (s : State) :
    (takeClockSet via day minute second force s).kept = s.kept ∨
      (minute ≤ 1439 ∧ second ≤ 59 ∧ (takeClockSet via day minute second force s).kept =
        (s.clock.loaded day minute second, s.pending)) := by
  unfold takeClockSet
  split
  next => exact .inl (respond_kept ..)
  next hform =>
    split
    next => exact .inl (respond_kept ..)
    next =>
      have hload : ∀ u : State, u.kept = (s.clock.loaded day minute second, s.pending) →
          u.kept = s.kept ∨ (minute ≤ 1439 ∧ second ≤ 59 ∧ u.kept = (s.clock.loaded day minute second, s.pending)) :=
        fun u hu => .inr ⟨by omega, by omega, hu⟩
      split
      · exact hload _ (by simp [setUnset])
      · unfold setHalted
        dsimp only
        split
        · exact hload _ (by simp)
        · exact .inl (respond_kept ..)
      · unfold setRunning
        dsimp only
        split
        · exact hload _ (by simp)
        · exact .inl (respond_kept ..)

/-! ## The queue of commands, and the clock, under every command -/

/-- The commands that may move the clock. -/
def movesClock : Instr → Bool
  | .referenceEdge | .referenceLost | .clockSet .. | .uplinkFrame _ | .powerOnReset _ => true
  | _ => false

/-- Every other command keeps the clock and the commands that wait. -/
theorem exec_kept {c : Instr} (h : movesClock c = false) (s : State) : ∃ t, exec c s = .next t ∧ t.kept = s.kept := by
  cases c
  case referenceEdge | referenceLost | clockSet | uplinkFrame | powerOnReset => cases h
  all_goals exact ⟨_, rfl, by simp⟩


/-- The clock is legal, and the commands that wait fit the fields that carry them. -/
def TimeLegal (k : Clock × List Instr) : Prop := k.1.Legal ∧ ∀ c, c ∈ k.2 → c.wf = true

/-- The loss of the reference keeps the clock legal. -/
theorem TimeLegal.referenceLost {s : State} (h : TimeLegal s.kept) : TimeLegal (Machine.referenceLost s).kept := by
  by_cases hr : s.clock.reference = true ∧ s.clock.state = .running
  · rw [referenceLost_of_running hr.1 hr.2]
    exact ⟨h.1.halted, h.2⟩
  · rw [referenceLost_of_not (by simpa [or_iff_not_imp_left] using hr)]
    exact h

/-- A CLOCK_SET whose day fits its field keeps the clock legal. -/
theorem TimeLegal.clockSet {s : State} (h : TimeLegal s.kept) (via : Via) {day : Nat} (hd : day < 65536)
    (minute second : Nat) (force : Bool) : TimeLegal (takeClockSet via day minute second force s).kept := by
  obtain hk | ⟨hm, hs, hk⟩ := takeClockSet_kept via day minute second force s <;> rw [hk]
  · exact h
  · exact ⟨s.clock.loaded_legal (by omega) hm hs, h.2⟩

theorem byteAt_lt (b : Bytes) (i : Nat) : byteAt b i < 256 := (b.getD i 0#8).isLt

theorem word16At_lt (b : Bytes) (i : Nat) : word16At b i < 65536 := by
  have h := byteAt_lt b i
  have h' := byteAt_lt b (i + 1)
  unfold word16At
  omega

/-- A request frame carries its day in two bytes (`12` 12.7). -/
theorem readRequest_day {via v : Via} {kind day minute second : Nat} {payload : Bytes} {force : Bool}
    (h : readRequest via kind payload = some (.clockSet v day minute second force)) : day < 65536 := by
  unfold readRequest at h
  dsimp only at h
  (repeat' split at h) <;> cases h
  exact word16At_lt payload 0

/-- Every request but a CLOCK_SET keeps the clock and the commands that wait. -/
theorem takeRequest_kept {i : Instr} (h : ∀ via day minute second force, i ≠ .clockSet via day minute second force)
    (s : State) : (takeRequest i s).kept = s.kept := by
  cases i
  case clockSet => exact absurd rfl (h _ _ _ _ _)
  all_goals simp [takeRequest]

/-- A frame at the uplink port keeps the clock legal. -/
theorem TimeLegal.uplinkFrame {s : State} (h : TimeLegal s.kept) (f : EthFrame) :
    TimeLegal (Machine.uplinkFrame f s).kept := by
  have hclaim : ∀ via e, TimeLegal (claim via e s).kept := by
    intro via e
    unfold claim
    split
    · simpa
    · split
      next i hi =>
        by_cases hc : ∃ v day minute second force, i = .clockSet v day minute second force
        · obtain ⟨v, day, minute, second, force, rfl⟩ := hc
          exact h.clockSet v (readRequest_day hi) minute second force
        · rwa [takeRequest_kept (by simpa using hc)]
      next => simpa
  unfold Machine.uplinkFrame route
  split
  · exact h
  · split
    · simpa
    · split
      · split
        · exact hclaim _ _
        · split <;> simpa
      · simpa

/-- The power-on reset leaves the clock UNSET at 0, and the commands that wait (R12). -/
theorem powerOn_kept (straps : Fin 8) (s : State) : (powerOn straps s).kept = (unsetClock, s.pending) := by
  rw [powerOn, whenLive_kept (beginSync_kept _)]
  rfl

theorem unsetClock_legal : unsetClock.Legal := by simp [Clock.Legal, unsetClock]

/-- Every command that fits its fields keeps the clock legal. -/
theorem TimeLegal.exec {c : Instr} {s t : State} (h : TimeLegal s.kept) (hc : c.wf = true)
    (ht : exec c s = .next t) : TimeLegal t.kept := by
  by_cases hm : movesClock c = false
  · obtain ⟨u, hu, hk⟩ := exec_kept hm s
    cases hu.symm.trans ht
    rwa [hk]
  · have gate : ∀ g : Bool, ∀ u : State, TimeLegal u.kept → TimeLegal (if g then u else s).kept := by
      intro g u hu
      split
      exacts [hu, h]
    cases c
    case referenceEdge => cases ht; exact gate _ _ (by rw [referenceEdge_kept]; exact ⟨h.1.afterEdge, h.2⟩)
    case referenceLost => cases ht; exact gate _ _ h.referenceLost
    case clockSet =>
      cases ht
      simp only [Instr.wf, Bool.and_eq_true, decide_eq_true_eq] at hc
      exact gate _ _ (h.clockSet _ hc.1.1 _ _ _)
    case uplinkFrame => cases ht; exact gate _ _ (h.uplinkFrame _)
    case powerOnReset => cases ht; rw [powerOn_kept]; exact ⟨unsetClock_legal, h.2⟩
    all_goals exact absurd rfl hm

/-- Settles O4: by one lemma for each command that moves the clock, and `exec_kept` for all others. -/
theorem stepKeepsTheClockLegal : Obligations.StepKeepsTheClockLegal := by
  intro s t hc hq ht
  unfold step at ht
  split at ht
  next => cases ht; exact ⟨hc, hq⟩
  next c rest hp =>
    rw [hp] at hq
    exact TimeLegal.exec (s := { s with pending := rest }) ⟨hc, fun c h => hq c (.tail _ h)⟩ (hq c (.head _)) ht

end Sys2Proof.Machine
end

section
/-!
SUPPORT. What an edge of the reference, its loss and a CLOCK_SET do to a part whose clock is legal (R1, R2, R6 to R11,
R106), and the statements on them.
-/

namespace Sys2Proof.Machine

/-! ## The next second (R1, R6, R7) -/

/-- A second later, the clock's time is one second more. -/
theorem Clock.Legal.nextSecond_seconds {c : Clock} (h : c.Legal) : c.nextSecond.seconds = c.seconds + 1 := by
  obtain ⟨-, hm, hs, -⟩ := h
  unfold Clock.seconds Clock.nextSecond
  (repeat' split) <;> dsimp only <;> omega

/-- The minute that a second reaches begins a grain exactly at the end of the last minute of one (R6). -/
theorem Clock.Legal.nextSecond_turn {c : Clock} (h : c.Legal) :
    (c.nextSecond.minute ≠ c.minute ∧ c.nextSecond.minute % 5 = 0) ↔ c.second = 59 ∧ (c.minute + 1) % 5 = 0 := by
  obtain ⟨-, hm, hs, -⟩ := h
  unfold Clock.nextSecond
  (repeat' split) <;> dsimp only <;> omega

/-- A second reaches another day exactly at the end of the last minute of one (R7). -/
theorem Clock.Legal.nextSecond_day {c : Clock} (h : c.Legal) :
    c.nextSecond.day = if c.second = 59 ∧ c.minute = 1439 then c.day + 1 else c.day := by
  obtain ⟨-, hm, hs, -⟩ := h
  unfold Clock.nextSecond
  (repeat' split) <;> dsimp only <;> omega

/-! ## Boundaries and rollovers (R6, R7) -/

/-- A boundary delivered where `p` holds. -/
theorem raiseBoundary_ite (p : Prop) [Decidable p] (g : Nat) (s : State) :
    (if p then raiseBoundary g s else s) = { s with deliveries :=
      let b := if p then [g] else []
      { s.deliveries with
        storeBoundaries := s.deliveries.storeBoundaries ++ b
        cateringBoundaries := s.deliveries.cateringBoundaries ++ b
        faceBoundaries := s.deliveries.faceBoundaries ++ b } } := by
  split <;> simp [raiseBoundary]

/-- A rollover delivered where `p` holds. -/
theorem raiseRollover_ite (p : Prop) [Decidable p] (old new : Nat) (s : State) :
    (if p then raiseRollover old new s else s) = { s with deliveries := { s.deliveries with
      rollovers := s.deliveries.rollovers ++ if p then [⟨new, min (new - old) 14⟩] else [] } } := by
  split <;> simp [raiseRollover, Config.horizonDays]

/-! ## An edge of the reference -/

/-- An edge makes a clock that does not run PRESENT, and nothing else (R2). -/
theorem referenceEdge_of_not {s : State} (h : s.clock.state ≠ .running) :
    referenceEdge s = { s with clock := { s.clock with reference := true } } := if_neg h

/-- A RUNNING clock counts it (R1). -/
theorem referenceEdge_of_running {s : State} (h : s.clock.state = .running) :
    referenceEdge s = countEdge { s with clock := { s.clock with reference := true } } := if_pos h

/-- The edge that completes a second of a legal clock, short of the end of the range: the boundary at a new grain, the
rollover at a new day (R6, R7). -/
theorem countSecond_of_legal {s : State} (h : s.clock.Legal) (he : s.clock.atEnd = false) :
    countSecond s = { s with
      clock := s.clock.nextSecond
      deliveries :=
        let b := if s.clock.second = 59 ∧ (s.clock.minute + 1) % 5 = 0 then [s.clock.nextSecond.grain] else []
        { s.deliveries with
          storeBoundaries := s.deliveries.storeBoundaries ++ b
          cateringBoundaries := s.deliveries.cateringBoundaries ++ b
          faceBoundaries := s.deliveries.faceBoundaries ++ b
          rollovers := s.deliveries.rollovers ++
            if s.clock.second = 59 ∧ s.clock.minute = 1439 then [⟨s.clock.day + 1, 1⟩] else [] } } := by
  have hday : s.clock.nextSecond.day ≠ s.clock.day ↔ s.clock.second = 59 ∧ s.clock.minute = 1439 := by
    rw [h.nextSecond_day]; split <;> simp_all
  have hroll : (if s.clock.second = 59 ∧ s.clock.minute = 1439 then
      [(⟨s.clock.nextSecond.day, min (s.clock.nextSecond.day - s.clock.day) 14⟩ : Rollover)] else []) =
      if s.clock.second = 59 ∧ s.clock.minute = 1439 then [⟨s.clock.day + 1, 1⟩] else [] := by
    split
    next hd => rw [h.nextSecond_day, if_pos hd, Nat.add_sub_cancel_left]; rfl
    next => rfl
  unfold countSecond
  simp only [he, Bool.false_eq_true, if_false, h.nextSecond_turn, hday, raiseBoundary_ite, raiseRollover_ite, hroll]

/-- Settles O9, branch by branch of R1, with `countSecond_of_legal` for the edge that completes a second. -/
theorem referenceEdgeAdvancesARunningClock : Obligations.ReferenceEdgeAdvancesARunningClock := by
  intro s hp hl
  refine ⟨referenceEdge s, by simp [exec, execReferenceEdge, whenPowered_of_power hp], referenceEdge_of_not, ?_⟩
  intro hr
  rw [referenceEdge_of_running hr]
  refine ⟨fun hb => if_pos (by simpa [Config.edgesPerSecond] using Nat.succ_lt_succ hb), fun hb => ?_⟩
  have hc : countEdge { s with clock := { s.clock with reference := true } } =
      countSecond { s with clock := { s.clock with reference := true } } := if_neg (by simp [hb, Config.edgesPerSecond])
  rw [hc]
  refine ⟨fun hend => if_pos ((Clock.atEnd_iff _).2 hend), fun hend => ?_⟩
  have he : Clock.atEnd { s.clock with reference := true } = false := by
    simpa using mt (Clock.atEnd_iff { s.clock with reference := true }).1 hend
  have hl' := hl.referred true
  rw [countSecond_of_legal (s := { s with clock := { s.clock with reference := true } }) hl' he]
  exact ⟨rfl, hl'.nextSecond hr he, hl'.nextSecond_seconds, by simp, by simp [hr], by simp, rfl⟩

/-! ## The loss of the reference -/

/-- Settles O10, by `raise_exceptions` for the clock that runs. -/
theorem referenceLostHaltsARunningClock : Obligations.ReferenceLostHaltsARunningClock := by
  intro s hp
  have hx : exec .referenceLost s = .next (referenceLost s) := by
    simp [exec, execReferenceLost, whenPowered_of_power hp]
  rw [hx]
  refine ⟨fun hr hs => ?_, fun h => by rw [referenceLost_of_not h]⟩
  rw [referenceLost_of_running hr hs]
  refine ⟨_, rfl, rfl, ?_⟩
  rw [haltClock, raise_exceptions]
  simp [holdTarget, ExcClass.number, ExcClass.queue, Tab.upd, State.grain, Clock.grain]
  exact ⟨rfl, rfl⟩

/-! ## CLOCK_SET -/

/-- The answer to a taken set changes the ports alone. -/
theorem answerSet_eq (via : Via) (jump : Bool) (delta : Int) (s : State) :
    answerSet via jump delta s = { s with ports := (answerSet via jump delta s).ports } := by
  simp only [answerSet, respond_eq]

/-- A set is answered with the clock it has loaded. -/
theorem answerSet_answered (via : Via) (jump : Bool) (delta : Int) {s u : State} (hp : u.ports = s.ports) :
    Answered via .clockSet (.done (setContents (answerSet via jump delta u).clock jump delta)) s
      (answerSet via jump delta u) := by
  have hc : (answerSet via jump delta u).clock = u.clock := by rw [answerSet_eq]
  rw [hc]
  exact respond_answered_of via .clockSet _ hp

theorem exec_clockSet {s : State} (h : s.taking = true) (via : Via) (day minute second : Nat) (force : Bool) :
    exec (.clockSet via day minute second force) s = .next (takeClockSet via day minute second force s) := by
  simp [exec, execClockSet, whenTaking_of_taking h]

/-- A set that has passed its checks is judged by the clock state (R8). -/
theorem takeClockSet_of_checked {s : State} {minute second : Nat} (hm : minute ≤ 1439) (hs : second ≤ 59)
    (hr : s.clock.reference = true) (via : Via) (day : Nat) (force : Bool) :
    takeClockSet via day minute second force s =
      match s.clock.state with
      | .unset => setUnset via day minute second s
      | .halted => setHalted via day minute second force s
      | .running => setRunning via day minute second force s := by
  unfold takeClockSet
  exact (if_neg (by omega)).trans (if_neg (by simp [hr]))

/-- The difference of a set in grains, written out (R4, R8). -/
theorem setDelta_eq (c : Clock) (day minute : Nat) :
    setDelta c day minute = ((day * 288 + minute / 5 : Nat) : Int) - ((c.day * 288 + c.minute / 5 : Nat) : Int) := rfl

/-- A set that moves a clock back by two grains or more is refused without FORCE (R10). -/
theorem takeClockSet_backward {s : State} {day minute second : Nat} (hm : minute ≤ 1439) (hs : second ≤ 59)
    (hr : s.clock.reference = true) (hu : s.clock.state ≠ .unset) (hb : ¬ -1 ≤ setDelta s.clock day minute) (via : Via) :
    takeClockSet via day minute second false s = respond via .clockSet (.refused .clockBackward) s := by
  rw [takeClockSet_of_checked hm hs hr]
  cases h : s.clock.state
  case unset => exact absurd h hu
  case halted => simp [setHalted, hb]
  case running => simp [setRunning, hb]

/-- The day of the horizon that a page takes (R105, R106). -/
theorem horizonDay_spec (n : Nat) (i : Fin 14) :
    n ≤ horizonDay n i ∧ horizonDay n i ≤ n + 13 ∧ horizonDay n i % 14 = i.val := by
  unfold horizonDay
  omega

/-- Settles O11. -/
theorem clockSetIsCheckedThenStartsAnUnsetClock : Obligations.ClockSetIsCheckedThenStartsAnUnsetClock := by
  intro via day minute second force s ht
  dsimp only
  rw [exec_clockSet ht]
  refine ⟨fun hform => congrArg _ (if_pos hform), fun hm hs => ⟨fun hr => ?_, fun hr hu hf hb => ?_, fun hr hu => ?_⟩⟩
  · unfold takeClockSet
    rw [if_neg (by omega), if_pos (by simp [hr])]
    rfl
  · subst hf
    rw [takeClockSet_backward hm hs hr hu (by rw [setDelta_eq]; omega)]
    rfl
  · rw [takeClockSet_of_checked hm hs hr, hu]
    refine ⟨_, rfl, ?_, ?_, ?_, fun i => ?_, answerSet_answered via false 0 rfl⟩ <;> dsimp only [setUnset] <;>
      rw [answerSet_eq]
    · rfl
    · simp [tagPages, updPages, loadClock, Clock.loaded, hr]
    · rfl
    · simpa [tagPages, updPages] using horizonDay_spec day i

/-! ## A set that finds the clock RUNNING or HALTED -/

/-- Where it is in range and is not refused for moving the clock back: the state that is answered (R8 to R10). -/
def setDone (day minute second : Nat) (s : State) : State :=
  let delta := setDelta s.clock day minute
  let running := s.clock.state == .running
  let u := loadClock day minute second (raiseJump (running && (decide (2 ≤ delta) || decide (delta ≤ -2))) delta s)
  dayChanged s.clock.day day (if running = true ∧ 1 ≤ delta then raiseBoundary u.grain u else u)

theorem takeClockSet_done {s : State} {day minute second : Nat} {force : Bool} (hm : minute ≤ 1439) (hs : second ≤ 59)
    (hr : s.clock.reference = true) (hu : s.clock.state ≠ .unset)
    (hf : -1 ≤ setDelta s.clock day minute ∨ force = true) (via : Via) :
    takeClockSet via day minute second force s =
      let delta := setDelta s.clock day minute
      answerSet via (s.clock.state == .running && (decide (2 ≤ delta) || decide (delta ≤ -2))) delta
        (setDone day minute second s) := by
  rw [takeClockSet_of_checked hm hs hr]
  cases h : s.clock.state
  case unset => exact absurd h hu
  case halted =>
    have hrun : (ClockState.halted == ClockState.running) = false := rfl
    simp [setHalted, hf, setDone, h, hrun, raiseJump]
  case running => simp [setRunning, hf, setDone, h]

/-- CLOCK_JUMP changes the Exception Unit alone. -/
theorem raiseJump_eq (jump : Bool) (delta : Int) (s : State) :
    raiseJump jump delta s = { s with exceptions := (raiseJump jump delta s).exceptions } := by
  cases jump <;> rfl

/-- A set that does not move the day back: the boundary of a later grain, and the rollover of a later day. -/
theorem setDone_onward {day : Nat} {s : State} (hd : s.clock.day ≤ day) (minute second : Nat) :
    setDone day minute second s =
      let delta := setDelta s.clock day minute
      let running := s.clock.state == .running
      let b := if running = true ∧ 1 ≤ delta then [grainOf day minute] else []
      { s with
        clock := s.clock.loaded day minute second
        exceptions := (raiseJump (running && (decide (2 ≤ delta) || decide (delta ≤ -2))) delta s).exceptions
        deliveries := { s.deliveries with
          storeBoundaries := s.deliveries.storeBoundaries ++ b
          cateringBoundaries := s.deliveries.cateringBoundaries ++ b
          faceBoundaries := s.deliveries.faceBoundaries ++ b
          rollovers := s.deliveries.rollovers ++
            if s.clock.day < day then [⟨day, min (day - s.clock.day) 14⟩] else [] } } := by
  have hback : ¬ day < s.clock.day := by omega
  unfold setDone dayChanged
  simp only [if_neg hback, raiseBoundary_ite, raiseRollover_ite]
  rw [raiseJump_eq]
  rfl

/-- Settles O12. -/
theorem clockSetMovesAClockOnwardOrWithinItsDay : Obligations.ClockSetMovesAClockOnwardOrWithinItsDay := by
  intro via day minute second force s ht hm hs hr hu hd old new delta running jump hf
  have hdelta : setDelta s.clock day minute = delta := rfl
  have hjump : (s.clock.state == .running && (decide (2 ≤ delta) || decide (delta ≤ -2))) = jump := by
    have h2 : (2 ≤ delta) ↔ old + 2 ≤ new := by omega
    have h3 : (delta ≤ -2) ↔ new + 2 ≤ old := by omega
    simp only [h2, h3, jump, running]
  have hpos : 1 ≤ delta ↔ old < new := by omega
  have hdone := setDone_onward hd minute second
  simp only [hdelta, hjump, hpos] at hdone
  rw [exec_clockSet ht, takeClockSet_done hm hs hr hu (hf.imp_left (by rw [hdelta]; omega))]
  simp only [hdelta, hjump, hdone]
  refine ⟨_, rfl, ?_, ?_, ?_, ?_, answerSet_answered via jump delta rfl⟩ <;> rw [answerSet_eq]
  · simp [Clock.loaded, hr]
  · simp only [raiseJump]
    split <;> rfl
  · rfl

end Sys2Proof.Machine
end

section
/-!
SUPPORT. The part right after the power-on reset, and the requests that only read.
-/

namespace Sys2Proof.Machine

/-! ## The invariants after the power-on reset -/

theorem freshPanel_legal : freshPanel.Legal := by simp [Panel.Legal, freshPanel, bindingFits]

/-- Each page carries the day of its number (R105). -/
theorem reset_catering_legal : State.reset.catering.Legal := by
  intro i
  simp [State.reset, emptyPage, Nat.mod_eq_of_lt i.isLt]

theorem clearExceptions_legal : clearExceptions.Legal := by simp [Exceptions.Legal, clearExceptions]

/-- Every cell is on the free list (R46). -/
theorem emptyStore_legal : emptyStore.Legal := by
  simp [Store.Legal, emptyStore, Config.poolCells]

theorem reset_record? (id : BookingId) : State.reset.record? id = none := rfl

theorem reset_list (q : RoomNo) : State.reset.store.lists.get q = [] := by simp [State.reset, emptyStore]

theorem reset_listed (q : RoomNo) : State.reset.listed q = [] := by simp [State.listed, reset_list]

theorem reset_inFlight : State.reset.engine.inFlight = none := rfl

/-- Settles O3, block by block. -/
theorem invariantsHoldAtReset : Obligations.InvariantsHoldAtReset := by
  refine ⟨unsetClock_legal, ?_, clearExceptions_legal, reset_catering_legal, ?_, ?_, fun a => ?_, emptyStore_legal,
    ?_, ?_, ?_, ?_⟩
  case refine_1 => simp [Engine.Legal, State.reset, idleEngine]
  case refine_2 => simp [LoopSettings.Legal, State.reset, defaultSettings]
  case refine_3 => simp [Loop.Legal, State.reset, downLoop, defaultSettings]
  case refine_4 => simpa [State.reset] using freshPanel_legal
  case refine_5 => exact fun f _ _ hf => nomatch hf
  case refine_6 => simp [ListsLegal, reset_listed]
  case refine_7 => simp [ListsAgree, reset_list]; exact .nil
  case refine_8 => exact fun f hf => nomatch hf

/-! ## Requests that only read (R11, R44, R45, R166) -/

/-- A request that is answered, with nothing else done. -/
theorem respond_reads (via : Via) (k : Kind) (a : Answer) {i : Instr} {s : State}
    (h : exec i s = .next (respond via k a s)) :
    ∃ t, exec i s = .next t ∧ t = { s with ports := t.ports } ∧ Answered via k a s t :=
  ⟨_, h, by rw [respond_eq], respond_answered ..⟩

/-- The records of a room's list that touch a day, by the first and last grain of the day (R45). -/
theorem selected_eq (s : State) (r : RoomNo) (day : Nat) :
    selected s r day = (s.listed r).filter fun b => decide (b.ss < day * 288 + 288 ∧ day * 288 < b.se) := by
  refine List.filter_congr fun b _ => ?_
  rw [Config.dayGrains, Nat.succ_mul, Bool.decide_and]

/-- A number that names no entry has the image of an absent one (R166). -/
theorem tableImage_absent {table index : Nat} (s : State)
    (h : 9 ≤ table ∨ (table = 1 ∧ 96 ≤ index) ∨ (table = 2 ∧ (index = 0 ∨ 112 < index)) ∨
      (table = 3 ∧ 256 ≤ index) ∨ ((table = 4 ∨ table = 5 ∨ table = 6) ∧ 8 ≤ index) ∨
      (table = 7 ∧ 22 ≤ index) ∨ ((table = 0 ∨ table = 8) ∧ index ≠ 0)) :
    tableImage s table index = absentImage := by
  unfold tableImage
  split
  case h_1 => exact if_neg (by omega)
  case h_2 => rw [roomNo?, dif_neg (by omega)]
  case h_3 => rw [addr?, dif_neg (by omega)]
  case h_4 => rw [itemNo?, dif_neg (by omega)]
  case h_5 | h_6 | h_7 => rw [kitchenNo?, dif_neg (by omega)]
  case h_8 => rw [classNo?, dif_neg (by omega)]
  case h_9 => exact if_neg (by omega)
  case h_10 => rfl

/-- Settles O15: each read is its answer, by `respond_reads`. -/
theorem readsAnswerWhatStandsAndChangeNothing : Obligations.ReadsAnswerWhatStandsAndChangeNothing := by
  intro via s ht
  dsimp only
  refine ⟨?_, fun id => ⟨fun b hb => ?_, fun hn => ?_⟩, fun r day start hd => ?_, fun room day start hbad => ?_,
    fun table index => ⟨?_, tableImage_absent s⟩⟩ <;> refine respond_reads _ _ _ ?_
  case refine_1 => exact congrArg _ (whenTaking_of_taking ht _)
  case refine_2 => simp [exec, execQuery, whenTaking_of_taking ht, takeQuery, hb, storeSummary, freeCount]
  case refine_3 => simp [exec, execQuery, whenTaking_of_taking ht, takeQuery, hn, storeSummary, freeCount]
  case refine_4 =>
    have hr : roomNo? r.val = some r := dif_pos r.isLt
    have hday : ¬ Config.lastDay < day := by simpa [Config.lastDay] using hd
    rw [← selected_eq]
    simp only [exec, execListRoom, whenTaking_of_taking ht, takeList, hr, if_neg hday]
    rfl
  case refine_5 =>
    simp only [exec, execListRoom, whenTaking_of_taking ht, takeList, roomNo?, Config.lastDay]
    by_cases hroom : room < 96
    · rw [dif_pos hroom]
      exact congrArg _ (if_pos (by omega))
    · rw [dif_neg hroom]
      rfl
  case refine_6 => exact congrArg _ (whenTaking_of_taking ht _)

end Sys2Proof.Machine
end

section
/-!
SUPPORT. The realignment of the load pages (R107): what one cut leaves of each block, what the cuts of several orders
leave, and the loads added up anew; with the statement on a CLOCK_SET to an earlier day.
-/

namespace Sys2Proof.Machine

/-! ## What a realignment may change -/

/-- Of the state, the store, the catering, the composer and the exceptions alone may differ. -/
def CutFrame (s u : State) : Prop :=
  u = { s with store := u.store, catering := u.catering, composer := u.composer, exceptions := u.exceptions }

theorem CutFrame.refl {s : State} : CutFrame s s := Eq.refl s

theorem CutFrame.trans {s u v : State} (h : CutFrame s u) (h' : CutFrame u v) : CutFrame s v :=
  Eq.trans h' (congrArg (fun w : State => { w with
    store := v.store, catering := v.catering, composer := v.composer, exceptions := v.exceptions }) h)

theorem CutFrame.update (u : State) (st : Store) (c : Catering) (f : Composer) (e : Exceptions) :
    CutFrame u { u with store := st, catering := c, composer := f, exceptions := e } := Eq.refl _

theorem CutFrame.foldl {α : Type} {f : State → α → State} (h : ∀ s a, CutFrame s (f s a)) (l : List α) (s : State) :
    CutFrame s (l.foldl f s) := by
  induction l generalizing s with
  | nil => exact .refl
  | cons a l ih => exact (h s a).trans (ih _)

theorem CutFrame.rooms {s u : State} (h : CutFrame s u) : u.rooms = s.rooms := by rw [h]

theorem CutFrame.clock {s u : State} (h : CutFrame s u) : u.clock = s.clock := by rw [h]

theorem CutFrame.dispositions {s u : State} (h : CutFrame s u) : u.dispositions = s.dispositions := by rw [h]

theorem removeTicket_frame (k : KitchenNo) (id : BookingId) (s : State) : CutFrame s (removeTicket k id s) := by
  unfold removeTicket
  split
  · exact .update ..
  · exact .refl

theorem retireOrder_frame (id : BookingId) (o : Order) (s : State) : CutFrame s (retireOrder id o s) := by
  unfold retireOrder
  dsimp only
  split
  · exact (removeTicket_frame _ _ s).trans (.update ..)
  · exact removeTicket_frame _ _ s

theorem removeRecord_frame (r : Record) (s : State) : CutFrame s (removeRecord r s) := by
  unfold CutFrame
  rw [removeRecord_eq]

theorem retire_frame (id : BookingId) (s : State) : CutFrame s (retire id s) := by
  unfold retire
  split
  · exact .refl
  next r _ =>
    have hrem := removeRecord_frame r s
    dsimp only
    split
    · exact (hrem.trans (.update ..)).trans ((retireOrder_frame _ _ _).trans (.update ..))
    · exact hrem.trans (.update ..)

theorem removeTicket_exceptions (k : KitchenNo) (id : BookingId) (s : State) :
    (removeTicket k id s).exceptions = s.exceptions := by
  unfold removeTicket
  split <;> rfl

theorem retire_exceptions (id : BookingId) (s : State) : (retire id s).exceptions = s.exceptions := by
  unfold retire
  split
  · rfl
  · rw [removeRecord_eq]
    split <;> simp [retireOrder, apply_ite State.exceptions, removeTicket_exceptions]

/-! ## Tickets and loads under a cut -/

/-- The ticket of a booking leaves the list of a kitchen, and nothing else of the catering changes (R112). -/
theorem removeTicket_catering (k : KitchenNo) (id : BookingId) (s : State) :
    (removeTicket k id s).catering = { s.catering with
      tickets := s.catering.tickets.upd k fun l => l.filter fun t => t.booking != id } := by
  unfold removeTicket
  split
  · rfl
  next hno =>
    have hall : ∀ t ∈ s.catering.tickets.get k, (t.booking != id) = true := by simpa [hasTicket] using hno
    rw [Tab.upd_eq_set, List.filter_eq_self.2 hall, Tab.set_get]

/-- A change of a load keeps the tickets. -/
@[simp] theorem changeLoad_tickets (c : Catering) (k : KitchenNo) (qd : Nat) (f : Nat → Nat) :
    (c.changeLoad k qd f).tickets = c.tickets := by
  unfold Catering.changeLoad
  split <;> rfl

/-- It keeps the day of every page. -/
@[simp] theorem changeLoad_tag (c : Catering) (k : KitchenNo) (qd : Nat) (f : Nat → Nat) (j : Fin 14) :
    ((c.changeLoad k qd f).pages.get j).tag = (c.pages.get j).tag := by
  unfold Catering.changeLoad
  split
  · dsimp only
    rw [Tab.get_upd]
    split
    next h => rw [h]
    next => rfl
  · rfl

/-- It keeps every page but that of the grain's day. -/
theorem changeLoad_get_ne (c : Catering) (k : KitchenNo) (qd : Nat) (f : Nat → Nat) {j : Fin 14}
    (h : j ≠ pageIndex (dayOf qd)) : (c.changeLoad k qd f).pages.get j = c.pages.get j := by
  unfold Catering.changeLoad
  split
  · exact Tab.get_upd_ne _ _ h
  · rfl

/-- On the page that carries the day it changes the one load. -/
theorem changeLoad_get (c : Catering) (k : KitchenNo) (qd : Nat) (f : Nat → Nat) (h : c.carries qd = true)
    (j : KitchenNo) (slot : Fin 96) :
    (((c.changeLoad k qd f).pages.get (pageIndex (dayOf qd))).loads.get j).get slot =
      if j = k ∧ slot = slotIndex qd then f (((c.pages.get (pageIndex (dayOf qd))).loads.get j).get slot)
      else ((c.pages.get (pageIndex (dayOf qd))).loads.get j).get slot := by
  unfold Catering.changeLoad
  rw [if_pos h]
  dsimp only
  rw [Tab.get_upd_self]
  dsimp only
  by_cases hj : j = k
  · subst hj
    by_cases hs : slot = slotIndex qd
    · subst hs; simp
    · simp [hs]
  · simp [hj]

/-- What a retirement makes of the catering: the scheduler is told of the order (R118). -/
theorem retire_catering {id : BookingId} {s : State} {r : Record} {o : Order} (h : s.record? id = some r)
    (ho : r.order = some o) : (retire id s).catering = if o.counted then
      (removeTicket o.kitchen id s).catering.changeLoad o.kitchen o.qd (· - o.load)
      else (removeTicket o.kitchen id s).catering := by
  unfold retire
  simp only [h, ho, retireOrder]
  rw [removeRecord_eq]
  split <;> simp [subtractLoad, removeTicket_catering]

/-! ## One cut (R107, step 1) -/

/-- The booking is ENDED or RELEASED: its record retires where its order is cut. -/
def Record.over (b : Record) : Bool := b.state == .ended || b.state == .released

/-- What a cut leaves of a record: nothing, or the record with its order CANCELLED and its retire grain computed anew
(R40). -/
def Record.afterCut (b : Record) : Option Record :=
  if b.over then none
  else some { b with order := b.order.map fun o => { o with state := .cancelled, dispatchPending := false }
                     retireGrain := b.se }

/-- CATERING_DROPPED of detail 2 for a booking. -/
def dropped (s : State) (b : Record) : State := raise .cateringDropped (.booking b.id) (some b.room) 2#32 s

theorem dropped_frame (s : State) (b : Record) : CutFrame s (dropped s b) := .update ..

theorem dropped_exceptions_congr {s u : State} (b : Record) (hd : s.dispositions = u.dispositions)
    (hc : s.clock = u.clock) (he : s.exceptions = u.exceptions) : (dropped s b).exceptions = (dropped u b).exceptions :=
  raise_exceptions_congr _ _ _ _ hd he (by rw [State.grain, State.grain, hc]) rfl

variable {u : State} {c : Record} {o : Order}

theorem cutOrder_of_over (hc : u.record? c.id = some c) (ho : c.order = some o) (h : c.over = true) :
    cutOrder u c.id = retire c.id u := by
  have h' : c.state = .ended ∨ c.state = .released := by simpa [Record.over] using h
  simp [cutOrder, hc, ho, h']

theorem cutOrder_of_live (hc : u.record? c.id = some c) (ho : c.order = some o) (h : c.over = false) :
    cutOrder u c.id = dropped (recomputeRetire c.id (updOrder c.id
      (fun o => { o with state := .cancelled, dispatchPending := false }) (removeTicket o.kitchen c.id u))) c := by
  have h' : ¬ (c.state = .ended ∨ c.state = .released) := by simpa [Record.over] using h
  simp [cutOrder, hc, ho, h']
  rfl

theorem cutOrder_frame (u : State) (id : BookingId) : CutFrame u (cutOrder u id) := by
  unfold cutOrder
  split
  · exact .refl
  · split
    · exact .refl
    · split
      · exact retire_frame _ _
      · exact (removeTicket_frame _ _ u).trans (.update ..)

/-- A cut keeps every page but that of the order's day. -/
theorem cutOrder_page_ne (hc : u.record? c.id = some c) (ho : c.order = some o) {j : Fin 14}
    (hj : j ≠ pageIndex (dayOf o.qd)) : (cutOrder u c.id).catering.pages.get j = u.catering.pages.get j := by
  cases h : c.over
  · rw [cutOrder_of_live hc ho h]
    simp [dropped, recomputeRetire, updOrder, removeTicket_catering]
  · rw [cutOrder_of_over hc ho h, retire_catering hc ho]
    split
    · rw [changeLoad_get_ne _ _ _ _ hj, removeTicket_catering]
    · rw [removeTicket_catering]

/-- A cut keeps the day of every page. -/
theorem cutOrder_tag (u : State) (id : BookingId) (j : Fin 14) :
    ((cutOrder u id).catering.pages.get j).tag = (u.catering.pages.get j).tag := by
  unfold cutOrder
  split
  · rfl
  next r hr =>
    split
    · rfl
    next o ho =>
      split
      · rw [retire_catering hr ho]
        split <;> simp [removeTicket_catering]
      · simp [raiseFor, recomputeRetire, updOrder, removeTicket_catering]

/-- A cut takes the booking's ticket from its kitchen's list. -/
theorem cutOrder_tickets (hc : u.record? c.id = some c) (ho : c.order = some o) (k : KitchenNo) :
    (cutOrder u c.id).catering.tickets.get k =
      if k = o.kitchen then (u.catering.tickets.get k).filter (fun t => t.booking != c.id)
      else u.catering.tickets.get k := by
  have hget : (removeTicket o.kitchen c.id u).catering.tickets.get k =
      if k = o.kitchen then (u.catering.tickets.get k).filter (fun t => t.booking != c.id)
      else u.catering.tickets.get k := by
    rw [removeTicket_catering]
    dsimp only
    rw [Tab.get_upd]
    split
    next hk => rw [hk]
    next => rfl
  rw [← hget]
  cases h : c.over
  · rw [cutOrder_of_live hc ho h]
    simp [dropped, recomputeRetire, updOrder]
  · rw [cutOrder_of_over hc ho h, retire_catering hc ho]
    split <;> simp

/-- A cut raises CATERING_DROPPED for a booking that is not over. -/
theorem cutOrder_exceptions (hc : u.record? c.id = some c) (ho : c.order = some o) :
    (cutOrder u c.id).exceptions = if c.over then u.exceptions else (dropped u c).exceptions := by
  cases h : c.over
  · have hframe := removeTicket_frame o.kitchen c.id u
    rw [cutOrder_of_live hc ho h, if_neg (by simp)]
    exact dropped_exceptions_congr c hframe.dispositions hframe.clock (removeTicket_exceptions ..)
  · rw [cutOrder_of_over hc ho h, if_pos rfl, retire_exceptions]

/-- A cut of a booking that is not over changes its record alone (R107, R40). -/
theorem cutOrder_store_of_live (hc : u.record? c.id = some c) (ho : c.order = some o) (h : c.over = false) :
    (cutOrder u c.id).store = { u.store with records := u.store.records.map fun b =>
      if b.id == c.id then
        { b with order := b.order.map fun o => { o with state := .cancelled, dispatchPending := false }
                 retireGrain := b.se }
      else b } := by
  rw [cutOrder_of_live hc ho h]
  simp only [dropped, raise_frame, recomputeRetire, updOrder, updRecord, removeTicket_store, List.map_map]
  congr 1
  refine List.map_congr_left fun b _ => ?_
  by_cases hb : b.id = c.id
  · cases hbo : b.order <;> simp [hb, Record.regrained, retireGrainOf, Order.counted, hbo]
  · simp [hb]

/-! ## The cuts of several orders -/

/-- What the cuts of the orders of some records leave of a record. -/
def cutFrom (bs : List Record) (b : Record) : Option Record := if b ∈ bs then b.afterCut else some b

theorem cutFrom_id {bs : List Record} {b b' : Record} (h : cutFrom bs b = some b') : b'.id = b.id := by
  unfold cutFrom Record.afterCut at h
  (repeat' split at h) <;> cases h <;> rfl

/-- The part after the cuts of the orders of some records, their loads apart (R107, step 1). -/
structure OrdersCut (bs : List Record) (s u : State) : Prop where
  frame : CutFrame s u
  records : u.store.records = s.store.records.filterMap (cutFrom bs)
  lists : ∀ q, u.store.lists.get q = (s.store.lists.get q).filter fun id =>
    !((bs.filter Record.over).any fun b => b.id == id && (listRooms s b).contains q)
  retireList : u.store.retireList = s.store.retireList.filter fun id =>
    !((bs.filter Record.over).any fun b => b.id == id)
  free : ∃ cells, cells.Perm ((bs.filter Record.over).flatMap fun b => b.cells) ∧
    u.store.free = s.store.free ++ cells
  tickets : ∀ k, u.catering.tickets.get k = (s.catering.tickets.get k).filter fun t =>
    !(bs.any fun b => b.id == t.booking && b.order.any fun o => o.kitchen == k)
  exceptions : u.exceptions = ((bs.filter fun b => !b.over).foldl dropped s).exceptions

theorem OrdersCut.nil (s : State) : OrdersCut [] s s where
  frame := .refl
  records := by rw [show cutFrom [] = some from funext fun b => if_neg (by simp), List.filterMap_some]
  lists q := by simp
  retireList := by simp
  free := ⟨[], by simp⟩
  tickets k := by simp
  exceptions := Eq.refl _

/-- What it says does not read the load pages. -/
theorem OrdersCut.withPages {bs : List Record} {s u : State} (h : OrdersCut bs s u) (p : Tab Page 14) :
    OrdersCut bs s { u with catering := { u.catering with pages := p } } where
  frame := h.frame.trans (.update ..)
  records := h.records
  lists := h.lists
  retireList := h.retireList
  free := h.free
  tickets := h.tickets
  exceptions := h.exceptions

/-- Where ids are unique, a record is the one of its id. -/
theorem eq_of_id_eq {l : List Record} (hn : (l.map fun b => b.id).Nodup) {a b : Record} (ha : a ∈ l) (hb : b ∈ l)
    (h : a.id = b.id) : a = b := List.inj_on_of_nodup_map hn ha hb h

/-- The record of a booking after the cuts. -/
theorem OrdersCut.record? {bs : List Record} {s u : State} (h : OrdersCut bs s u)
    (hn : (s.store.records.map fun b => b.id).Nodup) {b : Record} (hb : b ∈ s.store.records) :
    u.record? b.id = cutFrom bs b := by
  have hp : ∀ a, a ∈ s.store.records → (cutFrom bs a).any (fun r => r.id == b.id) = true → a = b := by
    intro a ha hany
    obtain ⟨r, hr, hid⟩ := (Option.any_eq_true ..).1 hany
    exact eq_of_id_eq hn ha hb ((cutFrom_id hr).symm.trans (by simpa using hid))
  rw [State.record?, Store.find, h.records, List.find?_filterMap]
  cases hf : s.store.records.find? fun a => (cutFrom bs a).any fun r => r.id == b.id with
  | some a =>
    rw [hp a (List.mem_of_find?_eq_some hf) (by simpa using List.find?_some hf)]
    rfl
  | none =>
    have := List.find?_eq_none.1 hf b hb
    cases hcut : cutFrom bs b with
    | none => rfl
    | some r => simp [hcut, cutFrom_id hcut] at this

/-- A booking without a record has none after the cuts. -/
theorem OrdersCut.record?_none {bs : List Record} {s u : State} (h : OrdersCut bs s u) {id : BookingId}
    (hid : s.record? id = none) : u.record? id = none := by
  rw [State.record?, Store.find, h.records, List.find?_eq_none]
  intro r hr
  obtain ⟨a, ha, hcut⟩ := List.mem_filterMap.1 hr
  rw [cutFrom_id hcut]
  exact List.find?_eq_none.1 hid a ha

/-- A record that the cuts have not met stands as it was. -/
theorem cutFrom_of_notMem {bs : List Record} {b : Record} (h : b ∉ bs) : cutFrom bs b = some b := if_neg h

theorem cutFrom_append_self (bs : List Record) (c : Record) : cutFrom (bs ++ [c]) c = c.afterCut := if_pos (by simp)

theorem cutFrom_append_ne {bs : List Record} {b c : Record} (h : b ≠ c) : cutFrom (bs ++ [c]) b = cutFrom bs b := by
  simp [cutFrom, h]

/-- The records after one more cut, where the record cut retires. -/
theorem filterMap_cutFrom_over {l bs : List Record} (hn : (l.map fun b => b.id).Nodup) (hmem : c ∈ l) (hbs : c ∉ bs)
    (h : c.over = true) :
    (l.filterMap (cutFrom bs)).filter (fun b => b.id != c.id) = l.filterMap (cutFrom (bs ++ [c])) := by
  rw [List.filter_filterMap]
  refine List.filterMap_congr fun b hb => ?_
  by_cases hbc : b = c
  · subst hbc
    simp [cutFrom_append_self, cutFrom_of_notMem hbs, Record.afterCut, h]
  · have hid : b.id ≠ c.id := fun e => hbc (eq_of_id_eq hn hb hmem e)
    rw [cutFrom_append_ne hbc]
    cases hcut : cutFrom bs b with
    | none => rfl
    | some r => simp [Option.filter, cutFrom_id hcut, hid]

/-- The records after one more cut, where the record cut stays. -/
theorem filterMap_cutFrom_live {l bs : List Record} (hn : (l.map fun b => b.id).Nodup) (hmem : c ∈ l) (hbs : c ∉ bs)
    (h : c.over = false) :
    ((l.filterMap (cutFrom bs)).map fun b => if b.id == c.id then
        { b with order := b.order.map fun o => { o with state := .cancelled, dispatchPending := false }
                 retireGrain := b.se }
      else b) = l.filterMap (cutFrom (bs ++ [c])) := by
  rw [List.map_filterMap]
  refine List.filterMap_congr fun b hb => ?_
  by_cases hbc : b = c
  · subst hbc
    simp [cutFrom_append_self, cutFrom_of_notMem hbs, Record.afterCut, h]
  · have hid : b.id ≠ c.id := fun e => hbc (eq_of_id_eq hn hb hmem e)
    rw [cutFrom_append_ne hbc]
    cases hcut : cutFrom bs b with
    | none => rfl
    | some r => simp [cutFrom_id hcut, hid]

/-- An id that is neither among those gone nor the one that goes now. -/
theorem bne_and_not (id gone : BookingId) (b : Bool) : (id != gone && !b) = !(b || gone == id) := by
  rw [Bool.not_or, Bool.and_comm, bne, BEq.comm]

/-- What one more cut leaves of the tickets and the exceptions, and of all but the store. -/
theorem OrdersCut.cutOrder_of_store {bs : List Record} {s u : State} (h : OrdersCut bs s u)
    (hc : u.record? c.id = some c) (ho : c.order = some o)
    (records : (cutOrder u c.id).store.records = s.store.records.filterMap (cutFrom (bs ++ [c])))
    (lists : ∀ q, (cutOrder u c.id).store.lists.get q = (s.store.lists.get q).filter fun id =>
      !(((bs ++ [c]).filter Record.over).any fun b => b.id == id && (listRooms s b).contains q))
    (retireList : (cutOrder u c.id).store.retireList = s.store.retireList.filter fun id =>
      !(((bs ++ [c]).filter Record.over).any fun b => b.id == id))
    (free : ∃ cells, cells.Perm (((bs ++ [c]).filter Record.over).flatMap fun b => b.cells) ∧
      (cutOrder u c.id).store.free = s.store.free ++ cells) : OrdersCut (bs ++ [c]) s (cutOrder u c.id) where
  frame := h.frame.trans (cutOrder_frame ..)
  records := records
  lists := lists
  retireList := retireList
  free := free
  tickets k := by
    rw [cutOrder_tickets hc ho, h.tickets]
    by_cases hk : k = o.kitchen
    · rw [if_pos hk, List.filter_filter]
      refine List.filter_congr fun t _ => ?_
      simp [bne_and_not, List.any_append, ho, hk]
    · rw [if_neg hk]
      have : (o.kitchen == k) = false := by simpa using Ne.symm hk
      simp [ho, this]
  exceptions := by
    have hfold := CutFrame.foldl dropped_frame (bs.filter fun b => !b.over) s
    rw [cutOrder_exceptions hc ho, List.filter_append, List.foldl_append]
    cases hover : c.over
    · simp only [hover, List.filter_cons, List.filter_nil]
      exact dropped_exceptions_congr c (h.frame.dispositions.trans hfold.dispositions.symm)
        (h.frame.clock.trans hfold.clock.symm) h.exceptions
    · simpa [hover] using h.exceptions

/-- One more cut. -/
theorem OrdersCut.cutOrder {bs : List Record} {s u : State} (h : OrdersCut bs s u)
    (hn : (s.store.records.map fun b => b.id).Nodup) (hmem : c ∈ s.store.records) (hbs : c ∉ bs)
    (ho : c.order = some o) : OrdersCut (bs ++ [c]) s (Machine.cutOrder u c.id) := by
  have hc : u.record? c.id = some c := by rw [h.record? hn hmem, cutFrom_of_notMem hbs]
  cases hover : c.over
  · have hgone : (bs ++ [c]).filter Record.over = bs.filter Record.over := by simp [hover]
    have hst := cutOrder_store_of_live hc ho hover
    refine h.cutOrder_of_store hc ho ?_ ?_ ?_ ?_ <;> rw [hst]
    · rw [← filterMap_cutFrom_live hn hmem hbs hover, ← h.records]
    · exact hgone ▸ h.lists
    · exact hgone ▸ h.retireList
    · exact hgone ▸ h.free
  · have hgone : (bs ++ [c]).filter Record.over = bs.filter Record.over ++ [c] := by simp [hover]
    have hst := cutOrder_of_over hc ho hover ▸ retire_store hc
    have hrooms : listRooms u c = listRooms s c := by rw [listRooms, listRooms, h.frame.rooms]
    obtain ⟨cells, hperm, hfree⟩ := h.free
    have hcells : (cells ++ sortBy (fun a b => decide (a < b)) c.cells).Perm
        (((bs ++ [c]).filter Record.over).flatMap fun b => b.cells) := by
      rw [hgone, List.flatMap_append]
      simpa using hperm.append (sortBy_perm _ _)
    refine h.cutOrder_of_store hc ho ?_ (fun q => ?_) ?_ ⟨_, hcells, ?_⟩ <;> rw [hst]
    · rw [← filterMap_cutFrom_over hn hmem hbs hover, ← h.records]
    · rw [hgone, removeRecord_get, hrooms, h.lists]
      by_cases hq : q ∈ listRooms s c
      · rw [if_pos hq, List.filter_filter]
        exact List.filter_congr fun id _ => by simp [bne_and_not, List.any_append, hq]
      · simp [hq]
    · rw [hgone, h.retireList, List.filter_filter]
      exact List.filter_congr fun id _ => by simp [bne_and_not, List.any_append]
    · rw [hfree, List.append_assoc]

/-- The cuts of the orders of several records, in turn; every page but those of the orders' days stands. -/
theorem OrdersCut.foldl {s : State} (hn : (s.store.records.map fun b => b.id).Nodup) (cs : List Record) :
    ∀ (bs : List Record) (u : State), OrdersCut bs s u → (bs ++ cs).Nodup → (∀ b, b ∈ cs → b ∈ s.store.records) →
      (∀ b, b ∈ cs → b.order ≠ none) →
      OrdersCut (bs ++ cs) s ((cs.map fun b => b.id).foldl Machine.cutOrder u) ∧
      ∀ j, (∀ b, b ∈ cs → ∀ o, b.order = some o → pageIndex (dayOf o.qd) ≠ j) →
        ((cs.map fun b => b.id).foldl Machine.cutOrder u).catering.pages.get j = u.catering.pages.get j := by
  induction cs with
  | nil => exact fun bs u h _ _ _ => ⟨by simpa using h, fun _ _ => rfl⟩
  | cons c cs ih =>
    intro bs u h hnd hmem hord
    obtain ⟨o, ho⟩ := Option.ne_none_iff_exists'.1 (hord c (.head _))
    have hbs : c ∉ bs := fun hc => (List.nodup_append.1 hnd).2.2 c hc c (.head _) rfl
    have hrec : u.record? c.id = some c := by rw [h.record? hn (hmem c (.head _)), cutFrom_of_notMem hbs]
    have happ : bs ++ c :: cs = bs ++ [c] ++ cs := by simp
    obtain ⟨hcut, hpages⟩ := ih (bs ++ [c]) _ (h.cutOrder hn (hmem c (.head _)) hbs ho) (happ ▸ hnd)
      (fun b hb => hmem b (.tail _ hb)) (fun b hb => hord b (.tail _ hb))
    refine ⟨happ ▸ hcut, fun j hj => ?_⟩
    rw [List.map_cons, List.foldl_cons, hpages j fun b hb => hj b (.tail _ hb),
      cutOrder_page_ne hrec ho (hj c (.head _) o ho).symm]

/-! ## The loads added up anew (R105, R107) -/

/-- Loads are added to the pages alone. -/
theorem addLoads_eq (s : State) (os : List (BookingId × Order)) :
    addLoads s os = { s with catering := { s.catering with pages := (addLoads s os).catering.pages } } := by
  unfold addLoads
  induction os generalizing s with
  | nil => rfl
  | cons p os ih =>
    rw [List.foldl_cons, ih]
    simp [addLoad]

/-- They keep the day of every page. -/
theorem addLoads_tag (s : State) (os : List (BookingId × Order)) (j : Fin 14) :
    ((addLoads s os).catering.pages.get j).tag = (s.catering.pages.get j).tag := by
  unfold addLoads
  induction os generalizing s with
  | nil => rfl
  | cons p os ih => rw [List.foldl_cons, ih]; simp [addLoad]

/-- Loads of orders of one day, whose page carries it, are added to their slots of that page. -/
theorem addLoads_get {day : Nat} (os : List (BookingId × Order)) :
    ∀ s : State, (∀ p, p ∈ os → dayOf p.2.qd = day) → (s.catering.pages.get (pageIndex day)).tag = day →
      (∀ j, j ≠ pageIndex day → (addLoads s os).catering.pages.get j = s.catering.pages.get j) ∧
      ∀ (k : KitchenNo) (slot : Fin 96),
        (((addLoads s os).catering.pages.get (pageIndex day)).loads.get k).get slot =
          ((s.catering.pages.get (pageIndex day)).loads.get k).get slot +
            ((os.filter fun p => p.2.kitchen == k && slotIndex p.2.qd == slot).map fun p => p.2.load).sum := by
  induction os with
  | nil => exact fun s _ _ => ⟨fun _ _ => rfl, fun _ _ => rfl⟩
  | cons p os ih =>
    intro s hday htag
    have hp : dayOf p.2.qd = day := hday p (.head _)
    have hcarry : s.catering.carries p.2.qd = true := by simpa [Catering.carries, hp] using htag
    obtain ⟨hother, hload⟩ := ih (addLoad p.2.kitchen p.2.qd p.2.load s) (fun q hq => hday q (.tail _ hq))
      (by simpa [addLoad] using htag)
    refine ⟨fun j hj => (hother j hj).trans (changeLoad_get_ne _ _ _ _ (hp ▸ hj)), fun k slot => ?_⟩
    refine (hload k slot).trans ?_
    have hget := changeLoad_get s.catering p.2.kitchen p.2.qd (· + p.2.load) hcarry k slot
    rw [hp] at hget
    simp only [addLoad, hget]
    by_cases h : k = p.2.kitchen ∧ slot = slotIndex p.2.qd
    · rw [if_pos h, List.filter_cons_of_pos (by simp [h.1, h.2]), List.map_cons, List.sum_cons, Nat.add_assoc]
    · have hneg : ¬ (p.2.kitchen == k && slotIndex p.2.qd == slot) = true := by
        simp only [Bool.and_eq_true, beq_iff_eq]
        exact fun hb => h ⟨hb.1.symm, hb.2.symm⟩
      rw [if_neg h, List.filter_cons_of_neg
        (p := fun q : BookingId × Order => q.2.kitchen == k && slotIndex q.2.qd == slot) hneg]

/-- The loads of a day as the sum over its counted orders. -/
theorem countedLoad_eq (s : State) (k : KitchenNo) (day : Nat) (slot : Fin 96) :
    countedLoad s k day slot =
      (((ordersOn s day).filter fun p => p.2.kitchen == k && slotIndex p.2.qd == slot).map fun p => p.2.load).sum := by
  unfold countedLoad ordersOn
  dsimp only
  rw [List.filter_filterMap, List.map_filterMap, List.filter_filterMap, List.map_filterMap]
  refine congrArg _ (List.filterMap_congr fun b _ => ?_)
  cases b.order with
  | none => rfl
  | some o =>
    have hslot : (slotIndex o.qd == slot) = (o.qd % 288 / 3 == slot.val) := by
      rw [Bool.eq_iff_iff, beq_iff_eq, beq_iff_eq, Fin.ext_iff]
      rfl
    by_cases hc : o.state = .cancelled
    · simp [Order.counted, hc]
    · by_cases hd : o.qd / 288 = day <;> simp [Order.counted, hc, dayOf, Config.dayGrains, hd, hslot, Option.filter]

/-- The counted orders of a day stand where none of its orders has been cut. -/
theorem OrdersCut.ordersOn {bs : List Record} {s u : State} (h : OrdersCut bs s u) {day : Nat}
    (hday : ∀ b, b ∈ bs → ∀ o, b.order = some o → dayOf o.qd ≠ day) : ordersOn u day = Machine.ordersOn s day := by
  unfold Machine.ordersOn
  rw [h.records, List.filterMap_filterMap]
  refine List.filterMap_congr fun b _ => ?_
  unfold cutFrom Record.afterCut
  split
  next hb =>
    cases ho : b.order with
    | none => split <;> simp
    | some o => split <;> simp [Order.counted, hday b hb o ho]
  next => rfl

/-! ## The orders that a realignment cuts (R107) -/

/-- An order that a set to day `n` cuts: counted, of a day beyond the horizon whose page carries it. -/
def cutsOrder (n : Nat) (s : State) (o : Order) : Bool :=
  o.state != .cancelled && (s.catering.pages.get (pageIndex (dayOf o.qd))).tag == dayOf o.qd &&
    decide (n + 13 < dayOf o.qd)

/-- The records whose orders are cut in the turn of a page. -/
def cutOn (n : Nat) (s : State) (i : Fin 14) : List Record :=
  s.store.records.filter fun b => b.order.any fun o => cutsOrder n s o && dayOf o.qd % 14 == i.val

theorem mem_cutOn {n : Nat} {s : State} {i : Fin 14} {b : Record} : b ∈ cutOn n s i ↔
    b ∈ s.store.records ∧ ∃ o, b.order = some o ∧ cutsOrder n s o = true ∧ dayOf o.qd % 14 = i.val := by
  simp [cutOn, Option.any_eq_true]

/-- An order cut is of a day beyond the horizon. -/
theorem cutsOrder_beyond {n : Nat} {s : State} {o : Order} (h : cutsOrder n s o = true) : n + 13 < dayOf o.qd := by
  simp only [cutsOrder, Bool.and_eq_true, decide_eq_true_eq] at h
  exact h.2

/-- A page within the horizon has none of its orders cut. -/
theorem cutOn_of_within {n : Nat} {s : State} {i : Fin 14} (h : (s.catering.pages.get i).tag ≤ n + 13) :
    cutOn n s i = [] := by
  refine List.eq_nil_iff_forall_not_mem.2 fun b hb => ?_
  obtain ⟨-, o, -, hcut, hday⟩ := mem_cutOn.1 hb
  have hi : pageIndex (dayOf o.qd) = i := Fin.ext hday
  simp only [cutsOrder, Bool.and_eq_true, decide_eq_true_eq, beq_iff_eq, hi] at hcut
  omega

/-- A page beyond the horizon has the counted orders of its day cut. -/
theorem cutOn_of_beyond {n : Nat} {s : State} {i : Fin 14} (hl : s.catering.Legal)
    (h : n + 13 < (s.catering.pages.get i).tag) :
    (cutOn n s i).map (fun b => b.id) = (ordersOn s (s.catering.pages.get i).tag).map (·.1) := by
  unfold cutOn ordersOn
  rw [List.map_filterMap, ← List.filterMap_eq_map, ← List.filterMap_eq_filter, List.filterMap_filterMap]
  refine List.filterMap_congr fun b _ => ?_
  cases ho : b.order with
  | none => simp [Option.guard, ho]
  | some o =>
    have hcut : (cutsOrder n s o && dayOf o.qd % 14 == i.val) = true ↔
        o.counted = true ∧ dayOf o.qd = (s.catering.pages.get i).tag := by
      simp only [cutsOrder, Order.counted, Bool.and_eq_true, decide_eq_true_eq, beq_iff_eq, and_assoc]
      refine and_congr_right fun _ => ⟨fun ⟨htag, _, hi⟩ => ?_, fun hd => ?_⟩
      · rw [← htag, show pageIndex (dayOf o.qd) = i from Fin.ext hi]
      · have hi : pageIndex (dayOf o.qd) = i := Fin.ext ((congrArg (· % 14) hd).trans (hl i))
        exact ⟨by rw [hi, hd], hd ▸ h, congrArg Fin.val hi⟩
    by_cases hc : o.counted = true ∧ dayOf o.qd = (s.catering.pages.get i).tag
    · simp [Option.guard, ho, hc, hl i, (Bool.and_eq_true_iff.1 (hcut.2 hc)).1]
    · simp [Option.guard, ho, Bool.eq_false_iff.2 (mt hcut.1 hc), hc]

/-- No record is cut twice. -/
theorem cutOn_nodup {n : Nat} {s : State} (hn : (s.store.records.map fun b => b.id).Nodup) {l : List (Fin 14)}
    (hl : l.Nodup) : (l.flatMap (cutOn n s)).Nodup := by
  refine List.nodup_flatMap.2 ⟨fun i _ => (hn.of_map _).filter _, hl.imp fun {i j} hij => ?_⟩
  intro b hi hj
  obtain ⟨-, o, ho, -, hoi⟩ := mem_cutOn.1 hi
  obtain ⟨-, o', ho', -, hoj⟩ := mem_cutOn.1 hj
  obtain rfl : o = o' := Option.some.inj (ho.symm.trans ho')
  exact hij (Fin.ext (hoi.symm.trans hoj))

/-! ## The pages realigned in turn -/

/-- A page that carries a day of the horizon with the loads of its counted orders (R105). -/
def Page.Renewed (n : Nat) (s : State) (i : Fin 14) (p : Page) : Prop :=
  p.tag = horizonDay n i ∧ ∀ (k : KitchenNo) (slot : Fin 96),
    (p.loads.get k).get slot = countedLoad s k (horizonDay n i) slot

/-- The part after the turns of some pages in the realignment with day `n`. -/
structure Realigned (n : Nat) (done : List (Fin 14)) (s u : State) : Prop where
  cut : OrdersCut (done.flatMap (cutOn n s)) s u
  stands : ∀ i, (i ∉ done ∨ (s.catering.pages.get i).tag ≤ n + 13) → u.catering.pages.get i = s.catering.pages.get i
  renewed : ∀ i, i ∈ done → n + 13 < (s.catering.pages.get i).tag → (u.catering.pages.get i).Renewed n s i

theorem Realigned.nil (n : Nat) (s : State) : Realigned n [] s s where
  cut := .nil s
  stands _ _ := rfl
  renewed _ h := absurd h (by simp)

/-- The orders of a day of the horizon stand. -/
theorem Realigned.ordersOn_horizon {n : Nat} {done : List (Fin 14)} {s u : State}
    (h : OrdersCut (done.flatMap (cutOn n s)) s u) (i : Fin 14) :
    ordersOn u (horizonDay n i) = ordersOn s (horizonDay n i) := by
  refine h.ordersOn fun b hb o ho hd => ?_
  obtain ⟨j, -, hj⟩ := List.mem_flatMap.1 hb
  obtain ⟨-, o', ho', hcut, -⟩ := mem_cutOn.1 hj
  obtain rfl : o = o' := Option.some.inj (ho.symm.trans ho')
  have := (horizonDay_spec n i).2.1
  have := cutsOrder_beyond hcut
  omega

/-- The orders of the day of a page whose turn has not come stand. -/
theorem Realigned.ordersOn_waiting {n : Nat} {done : List (Fin 14)} {s u : State} (h : Realigned n done s u)
    (hl : s.catering.Legal) {i : Fin 14} (hi : i ∉ done) :
    ordersOn u (s.catering.pages.get i).tag = ordersOn s (s.catering.pages.get i).tag := by
  refine h.cut.ordersOn fun b hb o ho hd => ?_
  obtain ⟨j, hjd, hj⟩ := List.mem_flatMap.1 hb
  obtain ⟨-, o', ho', -, hoj⟩ := mem_cutOn.1 hj
  obtain rfl : o = o' := Option.some.inj (ho.symm.trans ho')
  exact hi ((Fin.ext (hoj.symm.trans (hd ▸ hl i)) : j = i) ▸ hjd)

/-- The page emptied, given its day of the horizon and loaded anew. -/
def renewPage (n : Nat) (i : Fin 14) (u : State) : State :=
  addLoads { u with catering := { u.catering with pages := u.catering.pages.set i (emptyPage (horizonDay n i)) } }
    (ordersOn u (horizonDay n i))

theorem realignPage_of_within {n : Nat} {u : State} {i : Fin 14} (h : (u.catering.pages.get i).tag ≤ n + 13) :
    realignPage n u i = u := if_pos h

theorem realignPage_of_beyond {n : Nat} {u : State} {i : Fin 14} (h : n + 13 < (u.catering.pages.get i).tag) :
    realignPage n u i =
      renewPage n i (((ordersOn u (u.catering.pages.get i).tag).map (·.1)).foldl Machine.cutOrder u) :=
  if_neg (Nat.not_le.2 h)

theorem renewPage_eq (n : Nat) (i : Fin 14) (u : State) : renewPage n i u =
    { u with catering := { u.catering with pages := (renewPage n i u).catering.pages } } := by
  unfold renewPage
  rw [addLoads_eq]

theorem pageIndex_horizonDay (n : Nat) (i : Fin 14) : pageIndex (horizonDay n i) = i :=
  Fin.ext (horizonDay_spec n i).2.2

/-- The renewal touches its own page alone, and its loads are those of the counted orders. -/
theorem renewPage_pages (n : Nat) (i : Fin 14) (u : State) :
    (∀ j, j ≠ i → (renewPage n i u).catering.pages.get j = u.catering.pages.get j) ∧
      ((renewPage n i u).catering.pages.get i).Renewed n u i := by
  have hi := pageIndex_horizonDay n i
  have hday : ∀ p, p ∈ ordersOn u (horizonDay n i) → dayOf p.2.qd = horizonDay n i := by
    intro p hp
    obtain ⟨b, -, hb⟩ := List.mem_filterMap.1 hp
    split at hb
    · split at hb
      next hc => cases hb; exact hc.2
      next => cases hb
    · cases hb
  obtain ⟨hother, hload⟩ := addLoads_get (ordersOn u (horizonDay n i)) { u with catering :=
    { u.catering with pages := u.catering.pages.set i (emptyPage (horizonDay n i)) } } hday (by simp [hi, emptyPage])
  rw [hi] at hother hload
  refine ⟨fun j hj => (hother j hj).trans (Tab.get_set_ne _ _ hj), ?_, fun k slot => ?_⟩
  · rw [renewPage, addLoads_tag]
    simp [emptyPage]
  · rw [countedLoad_eq]
    refine (hload k slot).trans ?_
    simp [emptyPage]

/-- The turn of one page. -/
theorem Realigned.step {n : Nat} {done : List (Fin 14)} {s u : State} (h : Realigned n done s u)
    (hl : s.catering.Legal) (hn : (s.store.records.map fun b => b.id).Nodup) {i : Fin 14}
    (hnd : (done ++ [i]).Nodup) : Realigned n (done ++ [i]) s (realignPage n u i) := by
  have hi : i ∉ done := fun hm => (List.nodup_append.1 hnd).2.2 i hm i (.head _) rfl
  have hpage := h.stands i (.inl hi)
  have hbs : (done ++ [i]).flatMap (cutOn n s) = done.flatMap (cutOn n s) ++ cutOn n s i := by simp
  by_cases htag : (s.catering.pages.get i).tag ≤ n + 13
  · rw [realignPage_of_within (hpage ▸ htag)]
    refine ⟨?_, fun j hj => h.stands j ?_, fun j hj hb => h.renewed j ?_ hb⟩
    · rw [hbs, cutOn_of_within htag, List.append_nil]
      exact h.cut
    · exact hj.imp_left fun hj hd => hj (by simp [hd])
    · refine (List.mem_append.1 hj).resolve_right fun hji => ?_
      rw [List.mem_singleton.1 hji] at hb
      omega
  · have hbeyond := Nat.lt_of_not_le htag
    rw [realignPage_of_beyond (hpage ▸ hbeyond), hpage, h.ordersOn_waiting hl hi, ← cutOn_of_beyond hl hbeyond]
    obtain ⟨hcut, hpages⟩ := OrdersCut.foldl hn (cutOn n s i) _ u h.cut (hbs ▸ cutOn_nodup hn hnd)
      (fun b hb => (mem_cutOn.1 hb).1) (fun b hb => by obtain ⟨-, o, ho, -⟩ := mem_cutOn.1 hb; simp [ho])
    rw [← hbs] at hcut
    have hother : ∀ j, j ≠ i → _ := fun j hj => hpages j fun b hb o ho hoj => by
      obtain ⟨-, o', ho', -, hoi⟩ := mem_cutOn.1 hb
      obtain rfl : o = o' := Option.some.inj (ho.symm.trans ho')
      exact hj (hoj.symm.trans (Fin.ext hoi))
    obtain ⟨hstand, hnew⟩ := renewPage_pages n i (((cutOn n s i).map fun b => b.id).foldl Machine.cutOrder u)
    have hkeep : ∀ j, j ≠ i → _ := fun j hj => (hstand j hj).trans (hother j hj)
    refine ⟨?_, fun j hj => ?_, fun j hj hb => ?_⟩
    · rw [renewPage_eq]
      exact hcut.withPages _
    · have hji : j ≠ i := by rintro rfl; exact hj.elim (fun hj => hj (by simp)) htag
      exact (hkeep j hji).trans (h.stands j (hj.imp_left fun hj hd => hj (by simp [hd])))
    · by_cases hji : j = i
      · subst hji
        refine ⟨hnew.1, fun k slot => (hnew.2 k slot).trans ?_⟩
        rw [countedLoad_eq, countedLoad_eq, Realigned.ordersOn_horizon hcut]
      · rw [hkeep j hji]
        exact h.renewed j ((List.mem_append.1 hj).resolve_right (by simpa using hji)) hb

/-- The turns of several pages. -/
theorem Realigned.foldl {n : Nat} {s : State} (hl : s.catering.Legal)
    (hn : (s.store.records.map fun b => b.id).Nodup) (todo : List (Fin 14)) :
    ∀ (done : List (Fin 14)) (u : State), Realigned n done s u → (done ++ todo).Nodup →
      Realigned n (done ++ todo) s (todo.foldl (realignPage n) u) := by
  induction todo with
  | nil => exact fun done u h _ => by simpa using h
  | cons i todo ih =>
    intro done u h hnd
    have happ : done ++ i :: todo = done ++ [i] ++ todo := by simp
    rw [happ] at hnd ⊢
    exact ih _ _ (h.step hl hn (List.nodup_append.1 hnd).1) hnd

/-- All pages realigned, where no rollover waits. -/
theorem realigned_realign {n : Nat} {s : State} (hr : s.deliveries.rollovers = []) (hl : s.catering.Legal)
    (hn : (s.store.records.map fun b => b.id).Nodup) : Realigned n (List.finRange 14) s (realign n s) := by
  have hdrain : drainRollovers s = s := by
    unfold drainRollovers
    rw [hr, List.foldl_nil, ← hr]
  rw [realign, hdrain]
  exact Realigned.foldl hl hn _ [] s (.nil n s) (List.nodup_finRange 14)

/-! ## The whole realignment, whatever waits -/

theorem realignPage_frame (n : Nat) (u : State) (i : Fin 14) : CutFrame u (realignPage n u i) := by
  by_cases h : (u.catering.pages.get i).tag ≤ n + 13
  · rw [realignPage_of_within h]
    exact .refl
  · rw [realignPage_of_beyond (Nat.lt_of_not_le h), renewPage_eq]
    exact (CutFrame.foldl cutOrder_frame _ u).trans (.update ..)

theorem foldl_cutOrder_tag (ids : List BookingId) (u : State) (j : Fin 14) :
    ((ids.foldl Machine.cutOrder u).catering.pages.get j).tag = (u.catering.pages.get j).tag := by
  induction ids generalizing u with
  | nil => rfl
  | cons id ids ih => rw [List.foldl_cons, ih, cutOrder_tag]

/-- The turn of a page gives it a day of the horizon, where it lies beyond, and keeps the day of every other. -/
theorem realignPage_tag (n : Nat) (u : State) (i j : Fin 14) : ((realignPage n u i).catering.pages.get j).tag =
    if j = i ∧ n + 13 < (u.catering.pages.get i).tag then horizonDay n i else (u.catering.pages.get j).tag := by
  by_cases h : (u.catering.pages.get i).tag ≤ n + 13
  · rw [realignPage_of_within h, if_neg fun hj => Nat.not_lt.2 h hj.2]
  · obtain ⟨hother, hself⟩ := renewPage_pages n i
      (((ordersOn u (u.catering.pages.get i).tag).map (·.1)).foldl Machine.cutOrder u)
    rw [realignPage_of_beyond (Nat.lt_of_not_le h)]
    by_cases hj : j = i
    · subst hj
      rw [if_pos ⟨rfl, Nat.lt_of_not_le h⟩, hself.1]
    · rw [if_neg fun hc => hj hc.1, hother j hj, foldl_cutOrder_tag]

/-- The turns of some pages bring them within the horizon, and each page keeps a day of its number. -/
theorem foldl_realignPage_tag (n : Nat) (l : List (Fin 14)) (j : Fin 14) :
    ∀ u : State, (u.catering.pages.get j).tag % 14 = j.val →
      ((l.foldl (realignPage n) u).catering.pages.get j).tag % 14 = j.val ∧
      (j ∈ l ∨ (u.catering.pages.get j).tag ≤ n + 13 →
        ((l.foldl (realignPage n) u).catering.pages.get j).tag ≤ n + 13) := by
  induction l with
  | nil => exact fun u h => ⟨h, fun hj => hj.resolve_left (by simp)⟩
  | cons i l ih =>
    intro u h
    obtain ⟨-, hle, hmod⟩ := horizonDay_spec n i
    have htag := realignPage_tag n u i j
    by_cases hc : j = i ∧ n + 13 < (u.catering.pages.get i).tag
    · rw [if_pos hc] at htag
      obtain ⟨rfl, -⟩ := hc
      obtain ⟨hm, hw⟩ := ih (realignPage n u j) (htag ▸ hmod)
      exact ⟨hm, fun _ => hw (.inr (htag ▸ hle))⟩
    · rw [if_neg hc] at htag
      obtain ⟨hm, hw⟩ := ih (realignPage n u i) (htag ▸ h)
      refine ⟨hm, fun hj => hw ?_⟩
      rw [htag]
      by_cases hji : j = i
      · subst hji
        exact .inr (Nat.le_of_not_lt fun hlt => hc ⟨rfl, hlt⟩)
      · exact hj.imp_left fun hm => (List.mem_cons.1 hm).resolve_left hji

/-- The rollovers that waited are gone, and the pages alone have changed. -/
theorem drainRollovers_eq (s : State) : drainRollovers s = { s with
    deliveries := { s.deliveries with rollovers := [] }, catering := (drainRollovers s).catering } := by
  suffices h : ∀ (l : List Rollover) (u : State), l.foldl (fun s r => applyRollover r s) u =
      { u with catering := (l.foldl (fun s r => applyRollover r s) u).catering } from h _ _
  intro l
  induction l with
  | nil => exact fun _ => rfl
  | cons r l ih =>
    intro u
    rw [List.foldl_cons, ih]
    rfl

theorem applyRollover_legal (r : Rollover) {s : State} (h : s.catering.Legal) : (applyRollover r s).catering.Legal := by
  intro i
  simp only [applyRollover, updPages, Tab.get_gen, rollPage]
  split
  · exact (horizonDay_spec r.day i).2.2
  · exact h i

theorem drainRollovers_legal {s : State} (h : s.catering.Legal) : (drainRollovers s).catering.Legal := by
  suffices hl : ∀ (l : List Rollover) (u : State), u.catering.Legal →
      (l.foldl (fun s r => applyRollover r s) u).catering.Legal from hl _ _ h
  intro l
  induction l with
  | nil => exact fun _ hu => hu
  | cons r l ih => exact fun u hu => ih _ (applyRollover_legal r hu)

/-- What a realignment leaves of the state. -/
theorem realign_eq (n : Nat) (s : State) : realign n s = { s with
    store := (realign n s).store, catering := (realign n s).catering, composer := (realign n s).composer,
    exceptions := (realign n s).exceptions, deliveries := { s.deliveries with rollovers := [] } } := by
  have h : CutFrame (drainRollovers s) (realign n s) := CutFrame.foldl (realignPage_frame n) _ _
  rw [drainRollovers_eq] at h
  exact h

/-- After a realignment every page carries a day of its number within the horizon. -/
theorem realign_tag (n : Nat) {s : State} (h : s.catering.Legal) (i : Fin 14) :
    ((realign n s).catering.pages.get i).tag % 14 = i.val ∧ ((realign n s).catering.pages.get i).tag ≤ n + 13 := by
  have hpages := foldl_realignPage_tag n (List.finRange 14) i (drainRollovers s) (drainRollovers_legal h i)
  rw [← realign] at hpages
  exact ⟨hpages.1, hpages.2 (.inl (List.mem_finRange i))⟩

/-! ## The records cut, as those of the store whose orders are cut -/

/-- The records whose orders a realignment cuts, in the order of the cuts. -/
def cuts (n : Nat) (s : State) : List Record := (List.finRange 14).flatMap (cutOn n s)

theorem mem_cuts {n : Nat} {s : State} {b : Record} :
    b ∈ cuts n s ↔ b ∈ s.store.records ∧ b.order.any (cutsOrder n s) = true := by
  simp only [cuts, List.mem_flatMap, List.mem_finRange, true_and, mem_cutOn, Option.any_eq_true]
  constructor
  · rintro ⟨i, hb, o, ho, hcut, -⟩
    exact ⟨hb, o, ho, hcut⟩
  · rintro ⟨hb, o, ho, hcut⟩
    exact ⟨pageIndex (dayOf o.qd), hb, o, ho, hcut, rfl⟩

theorem cuts_nodup {n : Nat} {s : State} (hn : (s.store.records.map fun b => b.id).Nodup) : (cuts n s).Nodup :=
  cutOn_nodup hn (List.nodup_finRange 14)

/-- Those that retire are the same in the order of the records. -/
theorem cuts_over_perm {n : Nat} {s : State} (hn : (s.store.records.map fun b => b.id).Nodup) :
    ((cuts n s).filter Record.over).Perm
      (s.store.records.filter fun b => b.order.any (cutsOrder n s) && b.over) := by
  refine (List.perm_ext_iff_of_nodup ((cuts_nodup hn).filter _) ((hn.of_map _).filter _)).2 fun b => ?_
  simp only [List.mem_filter, mem_cuts, Bool.and_eq_true, and_assoc]

/-- Those that stay, page by page. -/
theorem cuts_live (n : Nat) (s : State) : ((cuts n s).filter fun b => !b.over) =
    (List.finRange 14).flatMap fun i => s.store.records.filter fun b =>
      (b.order.any fun o => cutsOrder n s o && dayOf o.qd % 14 == i.val) && !b.over := by
  rw [cuts, List.filter_flatMap]
  refine List.flatMap_congr fun i _ => ?_
  rw [cutOn, List.filter_filter]
  exact List.filter_congr fun b _ => Bool.and_comm ..

/-- A question about the records that retire does not depend on their order. -/
theorem any_cuts_over {n : Nat} {s : State} (hn : (s.store.records.map fun b => b.id).Nodup) (p : Record → Bool) :
    ((cuts n s).filter Record.over).any p =
      (s.store.records.filter fun b => b.order.any (cutsOrder n s) && b.over).any p :=
  (cuts_over_perm hn).any_eq

/-- A question about the orders cut. -/
theorem any_cuts_order {n : Nat} {s : State} (p : Record → Bool) (q : Order → Bool) :
    ((cuts n s).any fun b => p b && b.order.any q) =
      s.store.records.any fun b => p b && b.order.any fun o => cutsOrder n s o && q o := by
  rw [Bool.eq_iff_iff, List.any_eq_true, List.any_eq_true]
  refine exists_congr fun b => ?_
  rw [mem_cuts]
  cases b.order <;> simp [and_assoc, and_left_comm]

/-- What a realignment leaves of a record. -/
theorem cutFrom_cuts {n : Nat} {s : State} {b : Record} (hb : b ∈ s.store.records) : cutFrom (cuts n s) b =
    match b.order with
    | none => some b
    | some o =>
      if cutsOrder n s o = false then some b
      else if b.over then none
      else some { b with order := some { o with state := .cancelled, dispatchPending := false }, retireGrain := b.se } := by
  unfold cutFrom Record.afterCut
  simp only [mem_cuts, hb, true_and]
  cases ho : b.order with
  | none => simp
  | some o => cases hc : cutsOrder n s o <;> simp [hc]

/-- The loads of a day of the horizon are counted alike before and after. -/
theorem OrdersCut.countedLoad_horizon {n : Nat} {s u : State} (h : OrdersCut (cuts n s) s u) (i : Fin 14)
    (k : KitchenNo) (slot : Fin 96) : countedLoad u k (horizonDay n i) slot = countedLoad s k (horizonDay n i) slot := by
  rw [countedLoad_eq, countedLoad_eq, Realigned.ordersOn_horizon h]

/-! ## A CLOCK_SET to an earlier day -/

/-- The state that a set to an earlier day realigns: CLOCK_JUMP raised, where it is, and the time loaded. -/
def setBack (day minute second : Nat) (jump : Bool) (delta : Int) (s : State) : State :=
  { s with clock := s.clock.loaded day minute second, exceptions := (raiseJump jump delta s).exceptions }

theorem setBack_eq (day minute second : Nat) (jump : Bool) (delta : Int) (s : State) :
    setBack day minute second jump delta s =
      { raiseJump jump delta s with clock := s.clock.loaded day minute second } := by
  rw [raiseJump_eq]
  rfl

/-- A set that moves the day back raises no boundary, and realigns the pages. -/
theorem setDone_back {day minute : Nat} {s : State} (hd : day < s.clock.day) (hm : minute ≤ 1439) (second : Nat) :
    setDone day minute second s =
      let delta := setDelta s.clock day minute
      realign day (setBack day minute second (s.clock.state == .running && decide (delta ≤ -2)) delta s) := by
  have hdelta := setDelta_eq s.clock day minute
  have h1 : ¬ 1 ≤ setDelta s.clock day minute := by omega
  have h2 : ¬ 2 ≤ setDelta s.clock day minute := by omega
  unfold setDone dayChanged
  simp only [h1, h2, and_false, if_false, decide_false, Bool.false_or, if_neg (Nat.lt_asymm hd), if_pos hd]
  rw [raiseJump_eq]
  rfl

/-- Settles O13: the general part by `realign_eq` and `realign_tag`; the cuts and the loads by `realigned_realign`, with
the records cut counted over the store by the lemmas on `cuts`. -/
theorem clockSetToAnEarlierDayRealignsThePages : Obligations.ClockSetToAnEarlierDayRealignsThePages := by
  intro via day minute second force s ht hl hm hs hr hu hd hf delta jump
  have hdelta : setDelta s.clock day minute = delta := rfl
  have h2 : ¬ 2 ≤ delta := by omega
  have hloaded : s.clock.loaded day minute second = ⟨day, minute, second, 0, .running, true⟩ := by
    simp [Clock.loaded, hr]
  have hdone := setDone_back hd hm second
  rw [exec_clockSet ht, takeClockSet_done hm hs hr hu (hf.imp_left (by rw [hdelta]; omega))]
  simp only [hdelta, h2, decide_false, Bool.false_or] at hdone ⊢
  rw [hdone]
  -- `u` is the state realigned, `v` the realigned one, `t` the one answered.
  have hback := setBack_eq day minute second jump delta s
  generalize hu : setBack day minute second jump delta s = u at *
  have hv := realign_eq day u
  have htag := realign_tag day (s := u) (hu ▸ hl)
  have hreal := realigned_realign (n := day) (s := u)
  have ht := answerSet_eq via jump delta (realign day u)
  have hans := answerSet_answered via jump delta (s := s) (u := realign day u) (by rw [hv, ← hu]; rfl)
  refine ⟨_, rfl, ?_⟩
  generalize answerSet via jump delta (realign day u) = t at *
  generalize realign day u = v at *
  have hst : t.store = v.store := by rw [ht]
  have hca : t.catering = v.catering := by rw [ht]
  have hex : t.exceptions = v.exceptions := by rw [ht]
  have hts : t = { s with
      clock := s.clock.loaded day minute second, store := t.store, catering := t.catering, composer := t.composer
      exceptions := t.exceptions, deliveries := { s.deliveries with rollovers := [] }, ports := t.ports } := by
    rw [ht, hv, ← hu]
    rfl
  have hcl : t.clock = s.clock.loaded day minute second := by rw [hts]
  refine ⟨?_, hcl.trans hloaded, hca ▸ fun i => (htag i).1, fun i => hca ▸ (htag i).2, by rw [hts], by rw [hts],
    by rw [hts], by rw [hts], by rw [hts], by rw [hts], hans, fun hroll hn => ?_⟩
  · rw [hts]
  have hrecs : u.store.records = s.store.records := by rw [← hu]; rfl
  have hn' : (u.store.records.map fun b => b.id).Nodup := hrecs ▸ hn
  obtain ⟨hcut, hstands, hrenewed⟩ := hreal (by rw [← hu]; exact hroll) (hu ▸ hl) hn'
  change OrdersCut (cuts day u) u v at hcut
  have hover := any_cuts_over (n := day) hn'
  have horder := any_cuts_order (n := day) (s := u)
  refine ⟨fun b hb => ?_, fun id hid => ?_, fun q => ?_, ?_, ?_, fun k => ?_, ?_, fun i => ⟨fun hp => ?_, fun hp => ?_⟩⟩
  · have hb' : b ∈ u.store.records := hrecs ▸ hb
    rw [State.record?, hst, ← State.record?, hcut.record? hn' hb', cutFrom_cuts hb', ← hu]
    rfl
  · rw [State.record?, hst, ← State.record?]
    exact hcut.record?_none (hu ▸ hid)
  · rw [hst, hcut.lists]
    simp only [hover]
    rw [← hu]
    rfl
  · rw [hst, hcut.retireList]
    simp only [hover]
    rw [← hu]
    rfl
  · obtain ⟨cells, hperm, hfree⟩ := hcut.free
    refine ⟨cells, hperm.trans ((cuts_over_perm hn').flatMap_right _ |>.trans ?_), ?_⟩
    · rw [← hu]
      exact .refl _
    · rw [hst, hfree, ← hu]
      rfl
  · rw [hca, hcut.tickets]
    simp only [horder]
    rw [← hu]
    rfl
  · rw [hex, hcut.exceptions, cuts_live, hcl]
    refine Eq.trans ?_ (congrArg (fun w : State => (List.foldl dropped w _).exceptions) hback)
    rw [← hu]
    rfl
  · rw [hca, hstands i (.inr (hu ▸ hp)), ← hu]
    rfl
  · obtain ⟨hday, hload⟩ := hrenewed i (List.mem_finRange i) (hu ▸ hp)
    rw [hca, hday]
    obtain ⟨hge, hle, hmod⟩ := horizonDay_spec day i
    refine ⟨hge, hle, hmod, fun k slot => (hload k slot).trans ?_⟩
    rw [← hcut.countedLoad_horizon i k slot, countedLoad, countedLoad, hst]

end Sys2Proof.Machine
end

section
/-!
SUPPORT. The writes of a room's entry that name its name, its capacity and partner, its alternates or its state (R13,
R15, R17, R20, R22, R23, R27), and the arrival of a hold (R154).
-/

namespace Sys2Proof.Machine

/-! ## What a write of T1 is -/

@[simp] theorem roomNo?_val (r : RoomNo) : roomNo? r.val = some r := dif_pos r.isLt

/-- A write to an absent entry does nothing (R167). -/
theorem writeRoom_absent {n : Nat} (h : 96 ≤ n) (w : RoomWrite) (s : State) : writeRoom n w s = .none s := by
  rw [writeRoom, roomNo?, dif_neg (by omega)]

/-- A write of a room's entry, by what it comes to (R13, R20, R27). -/
theorem writeRoom_room (r : RoomNo) (w : RoomWrite) (s : State) : writeRoom r.val w s =
    { state := roomStateTold r (s.rooms.get r).state (roomNameTold r (s.rooms.get r)
        { s with rooms := s.rooms.set r ((s.rooms.get r).written r w (takenState s r w)) })
      clamped := roomClamped (s.rooms.get r) r w
      ignored := roomIgnored (s.rooms.get r) w (takenState s r w) } := by
  rw [writeRoom, roomNo?_val]

/-- The Booking Store and the Face Composer are told of no change where there is none. -/
theorem roomStateTold_same {r : RoomNo} {old : RoomState} {s : State} (h : (s.rooms.get r).state = old) :
    roomStateTold r old s = s := if_pos h

theorem takenState_none {s : State} {r : RoomNo} {w : RoomWrite} (h : w.state = none) : takenState s r w = none := by
  rw [takenState, h]
  rfl

/-- A name told or not told changes a room mark alone (R27). -/
theorem roomNameTold_eq (r : RoomNo) (old : Room) (s : State) :
    roomNameTold r old s = { s with composer := (roomNameTold r old s).composer } := by
  unfold roomNameTold
  dsimp only
  split <;> rfl

/-- A write that names no state leaves the state, and with it the vacate-pending flag. -/
theorem writeRoom_stateless {r : RoomNo} {w : RoomWrite} {s : State} (h : w.state = none) :
    (writeRoom r.val w s).state = roomNameTold r (s.rooms.get r)
      { s with rooms := s.rooms.set r ((s.rooms.get r).written r w none) } := by
  rw [writeRoom_room, takenState_none h]
  refine roomStateTold_same ?_
  rw [roomNameTold_eq]
  simp [Room.written]

theorem bits_lt (l : List Bool) : bits l < 2 ^ l.length := by
  induction l with
  | nil => simp [bits]
  | cons b l ih =>
    rw [bits, List.length_cons, Nat.pow_succ]
    split <;> omega

/-- Fields beyond those reported are not in the mask. -/
theorem bits_append_false (l : List Bool) (n : Nat) : bits (l ++ List.replicate n false) = bits l := by
  induction l with
  | nil =>
    induction n with
    | zero => rfl
    | succ n ih => simpa [List.replicate_succ, bits] using ih
  | cons b l ih => rw [List.cons_append, bits, ih, bits]

/-- A mask of two bytes that reports the first fields alone. -/
theorem maskBytes_low {l : List Bool} (h : l.length ≤ 8) (n : Nat) :
    maskBytes 2 (bits (l ++ List.replicate n false)) = [0#8, byte (bits l)] := by
  have hlt : bits l < 256 := lt_of_lt_of_le (bits_lt l) (Nat.pow_le_pow_right (by omega) h)
  rw [bits_append_false, maskBytes, maskBytes, maskBytes, Nat.div_eq_of_lt hlt]
  rfl

/-- A row that writes a room is answered with its masks, of 2 bytes, and the entry as it now stands (R167). -/
theorem roomRow_answered {s u : State} {w : RoomWrite} {c i : Bytes} (via : Via) (r : RoomNo) (hs : s.taking = true)
    (hu : (writeRoom r.val w s).state = u) (hp : u.ports = s.ports)
    (hc : maskBytes 2 (writeRoom r.val w s).clamped = c) (hi : maskBytes 2 (writeRoom r.val w s).ignored = i) :
    ∃ t, whenTaking s (fun s => answerWrite via 1 r.val 2 (writeRoom r.val w s)) = t ∧
      t = { u with ports := t.ports } ∧
      Answered via .tableWrite (.done ([2#8] ++ c ++ i ++ roomImage (t.rooms.get r))) s t := by
  subst hu hc hi
  refine ⟨_, whenTaking_of_taking hs _, ?_, ?_⟩
  · rw [answerWrite, respond_eq]
  · have hrooms : (answerWrite via 1 r.val 2 (writeRoom r.val w s)).rooms = (writeRoom r.val w s).state.rooms := by
      rw [answerWrite, respond_eq]
    have himage : tableImage (writeRoom r.val w s).state 1 r.val =
        roomImage ((writeRoom r.val w s).state.rooms.get r) := by rw [tableImage, roomNo?_val]
    rw [hrooms, ← himage]
    exact respond_answered_of _ _ _ hp

/-- A changed name, or the first lock of the partner that makes a pair, marks the room (R27). -/
theorem roomNameTold_composer (r : RoomNo) (old : Room) (s : State) : (roomNameTold r old s).composer =
    if (s.rooms.get r).name ≠ old.name ∨
        ((s.rooms.get r).partnerLocked ∧ ¬ old.partnerLocked ∧ (partnerOf s r).isSome) then
      { s.composer with roomMarks := s.composer.roomMarks.set r true } else s.composer :=
  apply_ite State.composer _ _ _

/-- A row that names no state changes the entry, and marks the room where its name, or the first lock of a partner
that makes a pair, asks for it (R27). -/
theorem roomRow_stateless {s : State} {w : RoomWrite} {c i : Bytes} (via : Via) (r : RoomNo) (hs : s.taking = true)
    {e : Room} (hw : w.state = none) (he : (s.rooms.get r).written r w none = e)
    (hc : maskBytes 2 (writeRoom r.val w s).clamped = c) (hi : maskBytes 2 (writeRoom r.val w s).ignored = i) :
    ∃ t, whenTaking s (fun s => answerWrite via 1 r.val 2 (writeRoom r.val w s)) = t ∧
      t = { s with rooms := s.rooms.set r e, composer := t.composer, ports := t.ports } ∧
      t.composer = (if e.name ≠ (s.rooms.get r).name ∨
          (e.partnerLocked ∧ ¬ (s.rooms.get r).partnerLocked ∧ (partnerOf t r).isSome) then
        { s.composer with roomMarks := s.composer.roomMarks.set r true } else s.composer) ∧
      Answered via .tableWrite (.done ([2#8] ++ c ++ i ++ roomImage e)) s t := by
  subst he
  have hu := (writeRoom_stateless (r := r) (s := s) hw).trans (roomNameTold_eq ..)
  obtain ⟨t, hexec, heq, hans⟩ := roomRow_answered via r hs hu rfl hc hi
  have hrooms : t.rooms = s.rooms.set r ((s.rooms.get r).written r w none) := by rw [heq]
  have hcomposer := congrArg State.composer heq
  refine ⟨t, hexec, ?_, ?_, ?_⟩
  · rw [hcomposer]
    exact heq
  · rw [hcomposer, roomNameTold_composer]
    simp only [partnerOf, hrooms, Tab.get_set_self]
  · simpa [hrooms] using hans

/-! ## The name (R27, R170) -/

/-- Settles O24: the name alone is written, and a changed one marks the room. -/
theorem roomNameWriteMarksAChangedName : Obligations.RoomNameWriteMarksAChangedName := by
  intro via r name s hs
  have hc : maskBytes 2 (writeRoom r.val { name := some name } s).clamped =
      [0#8, if 24 < name.length then 2#8 else 0#8] := by
    have hbits : roomClamped (s.rooms.get r) r { name := some name } =
        bits ([false, decide (24 < name.length)] ++ List.replicate 10 false) := by
      simp [roomClamped, tooLong, outside, namedWith]
    rw [writeRoom_room, hbits, maskBytes_low (by simp)]
    by_cases h : 24 < name.length <;> simp [h, bits, byte]
  have hi : maskBytes 2 (writeRoom r.val { name := some name } s).ignored = [0#8, 0#8] := by
    rw [writeRoom_room]
    simp [roomIgnored, bits, namedWith, maskBytes, byte]
  obtain ⟨t, hexec, heq, hcomposer, hans⟩ := roomRow_stateless via r hs rfl rfl hc hi
  have hroom := congrArg (fun u : State => u.rooms.get r) heq
  refine ⟨t, congrArg _ hexec, ?_, ?_, ?_⟩
  · simpa [Room.written, glyphsOf] using heq
  · rw [hcomposer]
    cases hp : (s.rooms.get r).partnerLocked <;> simp [Room.written, glyphsOf, hp]
  · simpa [hroom] using hans

/-! ## Capacity and partner (R13, R15) -/

/-- Settles O22: each field is written until it is locked, and the first lock that makes a pair marks the room. -/
theorem capacityPartnerWriteLocksAtItsFirstValue : Obligations.CapacityPartnerWriteLocksAtItsFirstValue := by
  intro via r capacity partner s hs e code e'
  have hcode : partnerCode r = code := by
    funext n
    unfold partnerCode roomNo? code
    by_cases h : n < 96 <;> simp [h]
  have hw : e.written r { capacity := capacity, partner := partner } none = e' := by
    simp [Room.written, e', hcode]
  have hc : maskBytes 2 (writeRoom r.val { capacity := capacity, partner := partner } s).clamped =
      [0#8, byte (bits [false, false, !e.capacityLocked && capacity.any (fun n => decide (250 < n)),
        !e.partnerLocked && partner.any (fun n => n != 255 && (code n).isNone)])] := by
    rw [writeRoom_room, ← maskBytes_low (by simp) 8]
    simp [roomClamped, tooLong, outside, namedWith, hcode, absentCode, e]
  have hi : maskBytes 2 (writeRoom r.val { capacity := capacity, partner := partner } s).ignored =
      [0#8, byte (bits [false, false, e.capacityLocked && capacity.isSome, e.partnerLocked && partner.isSome])] := by
    rw [writeRoom_room, ← maskBytes_low (by simp) 10]
    simp [roomIgnored, namedWith, e]
  obtain ⟨t, hexec, heq, hcomposer, hans⟩ := roomRow_stateless via r hs rfl hw hc hi
  refine ⟨t, congrArg _ hexec, heq, ?_, hans⟩
  rw [hcomposer]
  cases hp : (s.rooms.get r).partnerLocked <;> simp [e', e, hp]

/-! ## The alternates (R17, R26) -/

/-- One entry more of the list that R17 walks. -/
theorem formAlternates_snoc (r : RoomNo) (l : List Nat) (n : Nat) : formAlternates r (l ++ [n]) =
    if h : n < 96 then
      if ⟨n, h⟩ = r ∨ (formAlternates r l).contains ⟨n, h⟩ ∨ 4 ≤ (formAlternates r l).length then formAlternates r l
      else formAlternates r l ++ [⟨n, h⟩]
    else formAlternates r l := by
  rw [formAlternates, List.foldl_append, List.foldl_cons, List.foldl_nil, ← formAlternates, roomNo?]
  by_cases h : n < 96
  · rw [dif_pos h, dif_pos h]
  · rw [dif_neg h, dif_neg h]

/-- An entry that R17 drops leaves the list as it is. -/
theorem formAlternates_drop {r : RoomNo} {l : List Nat} {n : Nat}
    (h : 96 ≤ n ∨ n = r.val ∨ (∃ q, q ∈ formAlternates r l ∧ q.val = n) ∨ 4 ≤ (formAlternates r l).length) :
    formAlternates r (l ++ [n]) = formAlternates r l := by
  rw [formAlternates_snoc]
  by_cases hn : n < 96
  · rw [dif_pos hn, if_pos]
    obtain h | rfl | ⟨q, hq, rfl⟩ | h := h
    · omega
    · exact .inl rfl
    · exact .inr (.inl (by simpa using hq))
    · exact .inr (.inr h)
  · exact dif_neg hn

/-- Any other entry is kept behind those kept before it. -/
theorem formAlternates_keep {r q : RoomNo} {l : List Nat} (hr : q ≠ r) (hq : q ∉ formAlternates r l)
    (h4 : (formAlternates r l).length < 4) : formAlternates r (l ++ [q.val]) = formAlternates r l ++ [q] := by
  rw [formAlternates_snoc, dif_pos q.isLt, if_neg (by simp [hr, hq]; omega)]

/-- One entry more is dropped, or kept. -/
theorem formAlternates_cases (r : RoomNo) (l : List Nat) (n : Nat) :
    ((96 ≤ n ∨ n = r.val ∨ (∃ q, q ∈ formAlternates r l ∧ q.val = n) ∨ 4 ≤ (formAlternates r l).length) ∧
      formAlternates r (l ++ [n]) = formAlternates r l) ∨
    ∃ q : RoomNo, q.val = n ∧ q ≠ r ∧ q ∉ formAlternates r l ∧ (formAlternates r l).length < 4 ∧
      formAlternates r (l ++ [n]) = formAlternates r l ++ [q] := by
  by_cases h : 96 ≤ n ∨ n = r.val ∨ (∃ q, q ∈ formAlternates r l ∧ q.val = n) ∨ 4 ≤ (formAlternates r l).length
  · exact .inl ⟨h, formAlternates_drop h⟩
  · simp only [not_or, not_exists, not_and, Nat.not_le] at h
    obtain ⟨hn, hr, hq, h4⟩ := h
    have hr' : (⟨n, hn⟩ : RoomNo) ≠ r := fun e => hr (congrArg Fin.val e)
    have hq' : (⟨n, hn⟩ : RoomNo) ∉ formAlternates r l := fun hm => hq _ hm rfl
    exact .inr ⟨⟨n, hn⟩, rfl, hr', hq', h4, formAlternates_keep hr' hq' h4⟩

/-- The list kept holds four rooms at most, none twice and not the room itself, in the order written (R17). -/
theorem formAlternates_spec (r : RoomNo) (l : List Nat) :
    (formAlternates r l).length ≤ 4 ∧ (formAlternates r l).Nodup ∧ r ∉ formAlternates r l ∧
      ((formAlternates r l).map (·.val)).Sublist l := by
  induction l using List.reverseRecOn with
  | nil => simp [formAlternates]
  | append_singleton l n ih =>
    obtain ⟨hlen, hnd, hr, hsub⟩ := ih
    obtain ⟨-, h⟩ | ⟨q, rfl, hqr, hq, h4, h⟩ := formAlternates_cases r l n <;> rw [h]
    · exact ⟨hlen, hnd, hr, hsub.trans (List.sublist_append_left ..)⟩
    · refine ⟨by simp; omega, ?_, by simp [hr, hqr.symm], by simpa using hsub.append_right [q.val]⟩
      exact List.nodup_append.2 ⟨hnd, by simp, by simp; exact fun a ha e => hq (e ▸ ha)⟩

/-- Every other room written is in a list kept that is not full. -/
theorem formAlternates_complete {r : RoomNo} {l : List Nat} {n : Nat} (hn : n ∈ l) (h : n < 96) (hr : n ≠ r.val)
    (h4 : (formAlternates r l).length < 4) : (⟨n, h⟩ : RoomNo) ∈ formAlternates r l := by
  induction l using List.reverseRecOn with
  | nil => cases hn
  | append_singleton l k ih =>
    obtain hk | hk := List.mem_append.1 hn
    · obtain ⟨-, e⟩ | ⟨q, -, -, -, -, e⟩ := formAlternates_cases r l k <;> rw [e] at h4 ⊢
      · exact ih hk h4
      · exact List.mem_append_left _ (ih hk (by simp at h4; omega))
    · obtain rfl : n = k := by simpa using hk
      obtain ⟨hdrop, e⟩ | ⟨q, rfl, -, -, -, e⟩ := formAlternates_cases r l n <;> rw [e] at h4 ⊢
      · obtain hd | hd | ⟨q, hq, rfl⟩ | hd := hdrop
        · omega
        · exact absurd hd hr
        · exact hq
        · omega
      · simp

/-- The field is reported clamped where an entry was dropped, or more were given than the field holds. -/
theorem alternates_clamped (r : RoomNo) (l : List Nat) :
    (decide (8 < l.length) || decide ((formAlternates r (l.take 8)).length ≠ (l.take 8).length)) =
      decide ((formAlternates r (l.take 8)).length < l.length) := by
  obtain ⟨hlen, -, -, hsub⟩ := formAlternates_spec r (l.take 8)
  have hle := hsub.length_le
  rw [List.length_map] at hle
  rw [← Bool.decide_or, decide_eq_decide]
  rw [List.length_take] at hle ⊢
  omega

/-- Settles O23, with the list kept of the first `i` entries as the walk. -/
theorem alternatesWriteBringsTheListIntoForm : Obligations.AlternatesWriteBringsTheListIntoForm := by
  intro via s hs
  refine ⟨fun r l => ?_, fun n l hn => ?_⟩
  · obtain ⟨hlen, hnd, hr, hsub⟩ := formAlternates_spec r (l.take 8)
    have he : (s.rooms.get r).written r { alternates := some (l.take 8), overCount := decide (8 < l.length) } none =
        { s.rooms.get r with
          alternates := formAlternates r (l.take 8), pointer := 0, altsWritten := true } := by
      simp [Room.written]
    have hc : maskBytes 2 (writeRoom r.val
          { alternates := some (l.take 8), overCount := decide (8 < l.length) } s).clamped =
        [if (formAlternates r (l.take 8)).length < l.length then 8#8 else 0#8, 0#8] := by
      rw [writeRoom_room]
      simp only [roomClamped, namedWith, Option.any_some, alternates_clamped]
      by_cases h : (formAlternates r (l.take 8)).length < l.length <;>
        simp [h, bits, tooLong, outside, namedWith, maskBytes, byte]
    have hi : maskBytes 2 (writeRoom r.val
        { alternates := some (l.take 8), overCount := decide (8 < l.length) } s).ignored = [0#8, 0#8] := by
      rw [writeRoom_room]
      simp [roomIgnored, bits, namedWith, maskBytes, byte]
    obtain ⟨t, hexec, heq, hcomposer, hans⟩ := roomRow_stateless via r hs rfl he hc hi
    have hkeep : t.composer = s.composer := hcomposer.trans (if_neg (by simp +contextual))
    have hrooms := congrArg State.rooms heq
    refine ⟨t, fun i => formAlternates r ((l.take 8).take i), congrArg _ hexec, ?_⟩
    simp only [hrooms, Tab.get_set_self, List.take_length]
    refine ⟨rfl, fun i n hin => ?_, trivial, by rw [← hkeep]; exact heq, hlen, hnd, hr, hsub,
      fun n hn h hnr h4 => formAlternates_complete hn h hnr h4, hans⟩
    have hnext : (l.take 8).take (i + 1) = (l.take 8).take i ++ [n] := by
      rw [List.take_add_one (l := l.take 8), hin]
      rfl
    rw [hnext]
    exact ⟨formAlternates_drop, fun q hq hqr hnew h4 => hq ▸ formAlternates_keep hqr hnew h4⟩
  · have himage : tableImage s 1 n = List.replicate 46 0xFF#8 := tableImage_absent s (.inr (.inl ⟨rfl, hn⟩))
    have hanswer : answerWrite via 1 n 2
          (writeRoom n { alternates := some (l.take 8), overCount := decide (8 < l.length) } s) =
          respond via .tableWrite (.done ([2#8, 0#8, 0#8, 0#8, 0#8] ++ List.replicate 46 0xFF#8)) s := by
      rw [writeRoom_absent hn, ← himage]
      simp [answerWrite, Written.none, maskBytes, byte]
    exact respond_reads via .tableWrite _ (congrArg Host.Outcome.next ((whenTaking_of_taking hs _).trans hanswer))

/-! ## Changed rooms and kitchens (R27, R127) -/

/-- The automatic choice reads the panels and the rooms' states alone (R132). -/
theorem autoChoice_congr {s u : State} (hp : s.panels = u.panels)
    (hr : ∀ r, (s.rooms.get r).state = (u.rooms.get r).state) (a : Addr) : autoChoice s a = autoChoice u a := by
  unfold autoChoice
  rw [hp]
  split
  · rfl
  · rw [hr]

/-- A changed room state marks the room and re-evaluates the overlays of the faces bound to it or to its partner
(R27). -/
theorem roomStateChanged_composer (r : RoomNo) (s : State) : (roomStateChanged r s).composer =
    { faces := Tab.gen fun a =>
        if (s.panels.get a).room? = some r ∨
            ((s.panels.get a).room? ≠ none ∧ (s.panels.get a).room? = (s.rooms.get r).partner) then
          (s.composer.faces.get a).withChoices (s.composer.faces.get a).server (autoChoice s a)
        else s.composer.faces.get a
      roomMarks := s.composer.roomMarks.set r true } := rfl

/-- A changed kitchen composes the pantry faces bound to it anew (R127). -/
theorem kitchenChanged_face (k : KitchenNo) (s : State) (a : Addr) : (kitchenChanged k s).composer.faces.get a =
    if (s.panels.get a).kitchen? = some k then (s.composer.faces.get a).withOwn (pantryRows s k)
    else s.composer.faces.get a := Tab.get_gen ..

/-! ## Holds (R21, R103, R154) -/

/-- The oldest hold that waits reaches its owner. -/
theorem takeHold_cons {h : HoldTarget} {rest : List HoldTarget} {s : State} (hh : s.exceptions.holds = h :: rest) :
    takeHold s = applyHold h { s with exceptions := { s.exceptions with holds := rest } } := by
  rw [takeHold, hh]

/-- A hold changes the rooms, the kitchens and the composer alone. -/
theorem applyHold_eq (h : HoldTarget) (s : State) : applyHold h s = { s with
    rooms := (applyHold h s).rooms, kitchens := (applyHold h s).kitchens, composer := (applyHold h s).composer } := by
  unfold applyHold
  split <;> split <;> rfl

theorem applyHold_room {r : RoomNo} {s : State} (h : (s.rooms.get r).state = .inService) :
    applyHold (.room r) s =
      roomStateChanged r { s with rooms := s.rooms.set r { s.rooms.get r with state := .held } } := if_pos h

theorem applyHold_room_closed {r : RoomNo} {s : State} (h : (s.rooms.get r).state ≠ .inService) :
    applyHold (.room r) s = s := if_neg h

theorem applyHold_kitchen {k : KitchenNo} {s : State} (h : (s.kitchens.get k).state = .opened) :
    applyHold (.kitchen k) s =
      kitchenChanged k { s with kitchens := s.kitchens.set k { s.kitchens.get k with state := .paused } } := if_pos h

theorem applyHold_kitchen_closed {k : KitchenNo} {s : State} (h : (s.kitchens.get k).state ≠ .opened) :
    applyHold (.kitchen k) s = s := if_neg h

/-- Settles O33: a hold closes the room or kitchen it names where that is open, and leaves it else. -/
theorem holdClosesAnOpenRoomOrKitchen : Obligations.HoldClosesAnOpenRoomOrKitchen := by
  intro h rest s hp hh
  obtain ⟨u, hu⟩ : ∃ u, u = { s with exceptions := { s.exceptions with holds := rest } } := ⟨_, rfl⟩
  have hrooms : u.rooms = s.rooms := by rw [hu]
  have hkitchens : u.kitchens = s.kitchens := by rw [hu]
  have hcomposer : u.composer = s.composer := by rw [hu]
  have hpanels : u.panels = s.panels := by rw [hu]
  refine ⟨applyHold h u, ?_, (applyHold_eq h u).trans (by rw [hu]), ?_, ?_⟩
  · rw [hu, ← takeHold_cons hh]
    exact congrArg Host.Outcome.next (whenPowered_of_power hp _)
  · rintro r rfl
    rw [← hrooms, ← hkitchens, ← hcomposer, ← hpanels]
    by_cases ho : (u.rooms.get r).state = .inService
    · rw [applyHold_room ho]
      refine ⟨rfl, fun _ => ⟨rfl, rfl, fun a => ?_⟩, fun hn => absurd ho hn⟩
      rw [roomStateChanged_composer, Tab.get_gen, Tab.get_set_self]
      rfl
    · rw [applyHold_room_closed ho]
      exact ⟨rfl, fun hi => absurd hi ho, fun _ => ⟨rfl, rfl⟩⟩
  · rintro k rfl
    rw [← hrooms, ← hkitchens, ← hcomposer, ← hpanels]
    by_cases ho : (u.kitchens.get k).state = .opened
    · rw [applyHold_kitchen ho]
      exact ⟨rfl, fun _ => ⟨rfl, rfl, fun a => kitchenChanged_face ..⟩, fun hn => absurd ho hn⟩
    · rw [applyHold_kitchen_closed ho]
      exact ⟨rfl, fun hi => absurd hi ho, fun _ => ⟨rfl, rfl⟩⟩

/-! ## The VACATE trigger (R23, R24) -/

/-- The VACATE of a room has not been asked for, and its room does not wait to ask for it (R23). -/
def VacateNew (s : State) (r : RoomNo) : Prop := vacateKnown s r = false ∧ (s.rooms.get r).vacatePending = false

/-- A VACATE asked for already is not asked for again; a new one waits where the queue is full, and joins it else. -/
theorem triggerVacate_known {r : RoomNo} {s : State} (h : ¬ VacateNew s r) : triggerVacate r s = s := by
  refine if_pos ?_
  simp only [VacateNew, not_and_or, Bool.not_eq_false] at h
  simpa using h

theorem triggerVacate_full {r : RoomNo} {s : State} (h : VacateNew s r) (hq : 16 ≤ s.engine.queue.length) :
    triggerVacate r s = setPending r true s := by
  simp [triggerVacate, h.1, h.2, queueFull, Config.queuePlaces, hq]

theorem triggerVacate_joins {r : RoomNo} {s : State} (h : VacateNew s r) (hq : s.engine.queue.length < 16) :
    triggerVacate r s = joinQueue (.vacate r) s := by
  simp [triggerVacate, h.1, h.2, queueFull, Config.queuePlaces, Nat.not_le.2 hq]

/-! ## The state (R20, R22, R23) -/

theorem roomState?_none {code : Nat} (h : 4 ≤ code) : roomState? code = none := by
  obtain ⟨k, rfl⟩ := Nat.exists_eq_add_of_le' h
  rfl

/-- What R22 asks of a room that is to become UNCONFIGURED. -/
theorem mayUnconfigure_iff (s : State) (r : RoomNo) : mayUnconfigure s r = true ↔
    s.store.lists.get r = [] ∧ (∀ b, b ∈ s.store.records → b.state = .moving → b.room ≠ r) ∧
      s.engine.inFlight = none := by
  simp [mayUnconfigure, and_assoc]

theorem holdsBooked_iff (s : State) (r : RoomNo) :
    holdsBooked s r = true ↔ ∃ b, b ∈ s.listed r ∧ b.state = .booked := by simp [holdsBooked]

/-- The room's entry with its state written (R20): a change clears the vacate-pending flag. -/
def Room.moved (e : Room) (new : RoomState) : Room :=
  { e with state := new, vacatePending := e.vacatePending && decide (new = e.state) }

/-- The part with a room's state written, and nothing else done. -/
def roomMoved (r : RoomNo) (new : RoomState) (s : State) : State :=
  { s with rooms := s.rooms.set r ((s.rooms.get r).moved new) }

@[simp] theorem roomMoved_get (r : RoomNo) (new : RoomState) (s : State) :
    (roomMoved r new s).rooms.get r = (s.rooms.get r).moved new := Tab.get_set_self ..

/-- The change fires the VACATE trigger (R23). -/
def FiresVacate (r : RoomNo) (new : RoomState) (s : State) : Prop :=
  new = .outOfService ∧ ((s.rooms.get r).state = .inService ∨ (s.rooms.get r).state = .held) ∧
    (∃ b, b ∈ s.listed r ∧ b.state = .booked) ∧ vacateKnown s r = false

/-- A state that is taken is written; a changed one is told, and may fire the trigger. -/
theorem writeRoom_state {r : RoomNo} {code : Nat} {new : RoomState} {s : State}
    (h : takenState s r { state := some code } = some new) :
    (writeRoom r.val { state := some code } s).state = roomStateTold r (s.rooms.get r).state (roomMoved r new s) := by
  have he : (s.rooms.get r).written r { state := some code } (some new) = (s.rooms.get r).moved new := by
    simp [Room.written, Room.moved]
  rw [writeRoom_room, h, he]
  refine congrArg (roomStateTold r _) (if_neg ?_)
  simp +contextual [Room.moved]

theorem roomMoved_told_same {r : RoomNo} {new : RoomState} {s : State} (h : new = (s.rooms.get r).state) :
    roomStateTold r (s.rooms.get r).state (roomMoved r new s) = roomMoved r new s :=
  roomStateTold_same (by simpa [Room.moved] using h)

theorem roomMoved_told_quiet {r : RoomNo} {new : RoomState} {s : State} (h : new ≠ (s.rooms.get r).state)
    (hf : ¬ FiresVacate r new s) :
    roomStateTold r (s.rooms.get r).state (roomMoved r new s) = roomStateChanged r (roomMoved r new s) := by
  have hl : ∀ q, (roomStateChanged r (roomMoved r new s)).listed q = s.listed q := fun _ => rfl
  unfold roomStateTold
  rw [if_neg (by simpa [Room.moved] using h)]
  dsimp only
  split
  next hc =>
    refine triggerVacate_known fun hn => hf ?_
    rw [holdsBooked_iff, hl, roomMoved_get] at hc
    exact ⟨hc.1, hc.2.1, hc.2.2, hn.1⟩
  next => rfl

theorem roomMoved_told_fires {r : RoomNo} {new : RoomState} {s : State} (h : FiresVacate r new s) :
    roomStateTold r (s.rooms.get r).state (roomMoved r new s) =
      triggerVacate r (roomStateChanged r (roomMoved r new s)) := by
  obtain ⟨rfl, hold, hb, -⟩ := h
  have hnew : (((roomMoved r .outOfService s).rooms.get r).state = .outOfService) := by simp [Room.moved]
  have hne : ¬ RoomState.outOfService = (s.rooms.get r).state := by
    obtain h | h := hold <;> simp [h]
  unfold roomStateTold
  rw [hnew, if_neg hne]
  exact if_pos ⟨rfl, hold, (holdsBooked_iff ..).2 hb⟩

/-- A change that fires the trigger finds no VACATE of the room waiting in its flag. -/
theorem FiresVacate.vacateNew {r : RoomNo} {new : RoomState} {s : State} (h : FiresVacate r new s) :
    VacateNew (roomStateChanged r (roomMoved r new s)) r := by
  obtain ⟨rfl, hold, -, hk⟩ := h
  refine ⟨hk, ?_⟩
  have hp : ((roomMoved r .outOfService s).rooms.get r).vacatePending = false := by
    obtain h | h := hold <;> simp [Room.moved, h]
  exact hp

/-- A change that fires the trigger is one. -/
theorem FiresVacate.changed {r : RoomNo} {new : RoomState} {s : State} (h : FiresVacate r new s) :
    new ≠ (s.rooms.get r).state := by
  obtain ⟨rfl, hold, -⟩ := h
  obtain h | h := hold <;> simp [h]

theorem roomMoved_changed {r : RoomNo} {new : RoomState} {s : State} (h : new ≠ (s.rooms.get r).state) :
    (s.rooms.get r).moved new = { s.rooms.get r with state := new, vacatePending := false } := by
  simp [Room.moved, h]

/-- What a state written and told leaves: the room's entry, the engine and the composer alone may have changed; the
room's flag stands where its state does, and is set where the trigger fires on a full queue; and the trigger has a
VACATE join a queue that is not full (R20, R23, R27). -/
structure Told (r : RoomNo) (new : RoomState) (flag : Bool) (s u : State) : Prop where
  frame : u = { s with rooms := u.rooms, engine := u.engine, composer := u.composer }
  rooms : u.rooms = s.rooms.set r { s.rooms.get r with state := new, vacatePending := flag }
  waits : flag = true ↔ (new = (s.rooms.get r).state ∧ (s.rooms.get r).vacatePending = true) ∨
    (FiresVacate r new s ∧ 16 ≤ s.engine.queue.length)
  quiet : ¬ (FiresVacate r new s ∧ s.engine.queue.length < 16) → u.engine = s.engine
  joins : FiresVacate r new s → s.engine.queue.length < 16 → u.engine = (joinQueue (.vacate r) s).engine
  same : new = (s.rooms.get r).state → u.composer = s.composer
  changed : new ≠ (s.rooms.get r).state → u.composer = (roomStateChanged r (roomMoved r new s)).composer

theorem roomMoved_told (r : RoomNo) (new : RoomState) (s : State) :
    ∃ flag, Told r new flag s (roomStateTold r (s.rooms.get r).state (roomMoved r new s)) := by
  by_cases hf : FiresVacate r new s
  · have hne := hf.changed
    have hmoved := congrArg (s.rooms.set r) (roomMoved_changed hne)
    rw [roomMoved_told_fires hf]
    by_cases hq : s.engine.queue.length < 16
    · rw [triggerVacate_joins hf.vacateNew hq]
      exact ⟨false, rfl, hmoved, by simp [hne, hq], fun h => absurd ⟨hf, hq⟩ h, fun _ _ => rfl, fun h => absurd h hne,
        fun _ => rfl⟩
    · rw [triggerVacate_full hf.vacateNew (Nat.not_lt.1 hq)]
      refine ⟨true, rfl, ?_, by simp [hf, Nat.not_lt.1 hq], fun _ => rfl, fun _ h => absurd h hq,
        fun h => absurd h hne, fun _ => rfl⟩
      have hset : (setPending r true (roomStateChanged r (roomMoved r new s))).rooms =
          (s.rooms.set r ((s.rooms.get r).moved new)).upd r fun e => { e with vacatePending := true } := rfl
      rw [hset, Tab.upd_set]
      rfl
  · by_cases hsame : new = (s.rooms.get r).state
    · rw [roomMoved_told_same hsame]
      refine ⟨(s.rooms.get r).vacatePending, rfl, ?_,
        ⟨fun h => .inl ⟨hsame, h⟩, fun h => h.elim And.right fun h => absurd h.1 hf⟩, fun _ => rfl,
        fun h => absurd h hf, fun _ => rfl, fun h => absurd hsame h⟩
      simp [roomMoved, Room.moved, hsame]
    · have hmoved := congrArg (s.rooms.set r) (roomMoved_changed hsame)
      rw [roomMoved_told_quiet hsame hf]
      exact ⟨false, rfl, hmoved, by simp [hf, hsame], fun _ => rfl, fun h => absurd h hf, fun h => absurd h hsame,
        fun _ => rfl⟩

/-- The composer after a change of state, by the automatic choices of a part that differs from the one told in no
room's state. -/
theorem roomMoved_composer {r : RoomNo} {new : RoomState} {s t : State}
    (hc : t.composer = (roomStateChanged r (roomMoved r new s)).composer) (hp : t.panels = s.panels)
    (hr : ∀ q, (t.rooms.get q).state = ((roomMoved r new s).rooms.get q).state) : t.composer =
    { faces := Tab.gen fun a =>
        let f := s.composer.faces.get a
        let bound := (s.panels.get a).room?
        if bound = some r ∨ (bound ≠ none ∧ bound = (s.rooms.get r).partner) then
          f.withChoices f.server (autoChoice t a)
        else f
      roomMarks := s.composer.roomMarks.set r true } := by
  have ha : autoChoice t = autoChoice (roomMoved r new s) := funext (autoChoice_congr hp hr)
  rw [hc, ha, roomStateChanged_composer, roomMoved_get]
  rfl

/-- The row of a room's state, where the state is taken. -/
theorem stateRow_taken {r : RoomNo} {code : Nat} {new : RoomState} {s u : State} (via : Via) (hs : s.taking = true)
    (h : takenState s r { state := some code } = some new)
    (hu : roomStateTold r (s.rooms.get r).state (roomMoved r new s) = u) (hp : u.ports = s.ports) :
    ∃ t, exec (.roomStateWrite via r.val code) s = .next t ∧ t = { u with ports := t.ports } ∧
      Answered via .tableWrite (.done ([2#8, 0#8, 0#8, 0#8, 0#8] ++ roomImage (t.rooms.get r))) s t := by
  have hc : maskBytes 2 (writeRoom r.val { state := some code } s).clamped = [0#8, 0#8] := by
    rw [writeRoom_room]
    simp [roomClamped, bits, tooLong, outside, namedWith, maskBytes, byte]
  have hi : maskBytes 2 (writeRoom r.val { state := some code } s).ignored = [0#8, 0#8] := by
    rw [writeRoom_room, h]
    simp [roomIgnored, bits, namedWith, maskBytes, byte]
  obtain ⟨t, hexec, heq, hans⟩ := roomRow_answered via r hs ((writeRoom_state h).trans hu) hp hc hi
  exact ⟨t, congrArg _ hexec, heq, hans⟩

/-- The row of a room's state, where the state is not taken: nothing changes, and the field is reported ignored. -/
theorem stateRow_ignored {r : RoomNo} {code : Nat} {s : State} (via : Via) (hs : s.taking = true)
    (h : takenState s r { state := some code } = none) :
    ∃ t, exec (.roomStateWrite via r.val code) s = .next t ∧ t = { s with ports := t.ports } ∧
      Answered via .tableWrite (.done ([2#8, 0#8, 0#8, 0#8, 1#8] ++ roomImage (s.rooms.get r))) s t := by
  have he : (s.rooms.get r).written r { state := some code } none = s.rooms.get r := by simp [Room.written]
  have hu : (writeRoom r.val { state := some code } s).state = s := by
    rw [writeRoom_room, h, he, Tab.set_get]
    have hname : roomNameTold r (s.rooms.get r) s = s := if_neg (by simp +contextual)
    exact (congrArg _ hname).trans (roomStateTold_same rfl)
  have hc : maskBytes 2 (writeRoom r.val { state := some code } s).clamped = [0#8, 0#8] := by
    rw [writeRoom_room]
    simp [roomClamped, bits, tooLong, outside, namedWith, maskBytes, byte]
  have hi : maskBytes 2 (writeRoom r.val { state := some code } s).ignored = [0#8, 1#8] := by
    rw [writeRoom_room, h]
    simp [roomIgnored, bits, namedWith, maskBytes, byte]
  obtain ⟨t, hexec, heq, hans⟩ := roomRow_answered via r hs hu rfl hc hi
  have hrooms : t.rooms = s.rooms := by rw [heq]
  rw [hrooms] at hans
  exact ⟨t, congrArg _ hexec, heq, hans⟩

theorem takenState_code {new : RoomState} (h : new ≠ .unconfigured) (s : State) (r : RoomNo) :
    takenState s r { state := some new.code } = some new := by
  cases new
  case unconfigured => exact absurd rfl h
  all_goals rfl

/-- Settles O21: a state that is taken is written and told; one that is not is ignored. -/
theorem roomStateWriteIsTakenOrIgnored : Obligations.RoomStateWriteIsTakenOrIgnored := by
  intro via r s hs e free
  have hfree : free ↔ mayUnconfigure s r = true := (mayUnconfigure_iff s r).symm
  refine ⟨fun new hn => ?_, fun hf he => ?_, fun code hcode => ?_⟩
  · obtain ⟨flag, htold⟩ := roomMoved_told r new s
    generalize hu : roomStateTold r (s.rooms.get r).state (roomMoved r new s) = u at htold
    obtain ⟨t, hexec, heq, hans⟩ := stateRow_taken via hs (takenState_code hn s r) hu (by rw [htold.frame])
    have hrooms : t.rooms = s.rooms.set r { e with state := new, vacatePending := flag } := by rw [heq, htold.rooms]
    have hroom : t.rooms.get r = { e with state := new, vacatePending := flag } := by simp [hrooms]
    have hengine := congrArg State.engine heq
    have hcomposer := congrArg State.composer heq
    refine ⟨t, hexec, ?_, by rw [hroom], by rw [hroom]; exact htold.waits, fun h => hengine.trans (htold.quiet h),
      fun h hq => hengine.trans (htold.joins h hq), fun h => hcomposer.trans (htold.same h), fun hne => ?_, hans⟩
    · rw [hroom, ← htold.rooms, hengine, hcomposer]
      exact heq.trans (by rw [htold.frame])
    · refine roomMoved_composer (hcomposer.trans (htold.changed hne)) (by rw [heq, htold.frame]) fun q => ?_
      rw [hrooms, roomMoved, roomMoved_changed hne]
      by_cases hq : q = r <;> simp [hq]
  · have ht : takenState s r { state := some 0 } = some .unconfigured := if_pos (hfree.1 hf)
    have hne : RoomState.unconfigured ≠ (s.rooms.get r).state := fun h => he h.symm
    obtain ⟨t, hexec, heq, hans⟩ := stateRow_taken via hs ht (roomMoved_told_quiet hne (by simp [FiresVacate])) rfl
    have hcomposer : t.composer = (roomStateChanged r (roomMoved r .unconfigured s)).composer := by rw [heq]
    refine ⟨t, hexec, ?_, by rw [hcomposer]; rfl, hans⟩
    rw [hcomposer, ← roomMoved_changed hne]
    exact heq
  · refine stateRow_ignored via hs ?_
    obtain ⟨rfl, hf⟩ | ⟨h4, -⟩ := hcode
    · exact if_neg (fun h => hf (hfree.2 h))
    · simp [takenState, roomState?_none h4]

end Sys2Proof.Machine
end

section
/-!
SUPPORT. What a release leaves of each block (R39, R41, R116): the record, its order, the tickets, the loads, the cells
and the room lists; with the occurrence that goes with it.
-/

namespace Sys2Proof.Machine

/-! ## Removals, and the marks they leave (R38) -/

theorem removeFrom_marks (q : RoomNo) (id : BookingId) (s : State) (p : RoomNo) :
    (removeFrom q id s).composer.roomMarks.get p =
      (s.composer.roomMarks.get p || (p == q && (s.store.lists.get p).contains id)) := by
  unfold removeFrom
  by_cases hp : p = q
  · subst hp
    split
    next h => rw [h]; simp [markRoom]
    next h => rw [(Bool.not_eq_true _).mp h]; simp
  · have hp' : (p == q) = false := by simpa using hp
    rw [hp', Bool.false_and, Bool.or_false]
    split
    · exact Tab.get_set_ne _ _ hp
    · rfl

theorem removeFroms_marks (qs : List RoomNo) (id : BookingId) (s : State) (p : RoomNo) :
    (qs.foldl (fun s q => removeFrom q id s) s).composer.roomMarks.get p =
      (s.composer.roomMarks.get p || (qs.contains p && (s.store.lists.get p).contains id)) := by
  induction qs generalizing s with
  | nil => simp
  | cons q qs ih =>
    rw [List.foldl_cons, ih, removeFrom_marks, removeFrom_get]
    by_cases hp : p = q
    · subst hp
      cases s.composer.roomMarks.get p <;> cases (s.store.lists.get p).contains id <;> simp
    · have hb : (p == q) = false := by simpa using hp
      simp [hp, hb]

/-- The removal of a record marks the rooms in whose lists it stood. -/
theorem removeRecord_marks (r : Record) (s : State) (p : RoomNo) :
    (removeRecord r s).composer.roomMarks.get p =
      (s.composer.roomMarks.get p || ((listRooms s r).contains p && (s.store.lists.get p).contains r.id)) := by
  rw [removeRecord, removeFroms_marks]
  simp

theorem removeRecord_record? (r : Record) (s : State) (x : BookingId) :
    (removeRecord r s).record? x = s.record? x := by
  rw [removeRecord_eq]
  rfl

/-! ## Tickets and loads -/

/-- The pantry faces of the kitchen are composed anew where the ticket stood there (R127). -/
theorem removeTicket_face (k : KitchenNo) (id : BookingId) (s : State) (a : Addr) :
    (removeTicket k id s).composer.faces.get a =
      if hasTicket s k id = true ∧ (s.panels.get a).kitchen? = some k then
        (s.composer.faces.get a).withOwn (pantryRows (removeTicket k id s) k) else s.composer.faces.get a := by
  unfold removeTicket
  split
  next h => simp only [h, true_and]; exact kitchenChanged_face ..
  next h => rw [if_neg fun c => h c.1]

/-- Nothing is gone where no ticket is one of a booking named, and tickets and faces stand. -/
theorem TicketsGone.refl_of {gone : List Record} {s t : State}
    (h : ∀ b, b ∈ gone → b.order = none)
    (ht : t.catering.tickets = s.catering.tickets) (hf : t.composer.faces = s.composer.faces) :
    TicketsGone gone s t := by
  have hlost : ∀ (k : KitchenNo) (u : Ticket),
      (gone.any fun b => b.id == u.booking && b.order.any fun o => o.kitchen == k) = false := by
    intro k u
    rw [List.any_eq_false]
    intro b hb
    simp [h b hb]
  refine ⟨fun k => by simp [hlost, ht], fun a => ?_⟩
  simp only [hlost, hf]
  split <;> simp

/-- A ticket removed is gone (R116, R118, R127). -/
theorem removeTicket_gone {b : Record} {o : Order} (ho : b.order = some o) (s : State) :
    TicketsGone [b] s (removeTicket o.kitchen b.id s) := by
  have hlost : ∀ (k : KitchenNo) (u : Ticket),
      ([b].any fun b => b.id == u.booking && b.order.any fun o => o.kitchen == k) =
        (k == o.kitchen && u.booking == b.id) := by
    intro k u
    simp [ho, Bool.beq_comm, Bool.and_comm]
  refine ⟨fun k => ?_, fun a => ?_⟩
  · simp only [hlost, removeTicket_catering, Tab.get_upd]
    by_cases hk : k = o.kitchen
    · simp [hk, bne]
    · have hb : (k == o.kitchen) = false := by simpa using hk
      simp [hk, hb]
  · simp only [hlost, removeTicket_face]
    split
    next k hk =>
      by_cases hko : k = o.kitchen
      · subst hko
        by_cases ht : hasTicket s o.kitchen b.id = true
        · have hany : ((s.catering.tickets.get o.kitchen).any fun u => u.booking == b.id) = true := ht
          simp +contextual [ht, hk, hany, Face.withOwn]
        · have hany : ((s.catering.tickets.get o.kitchen).any fun u => u.booking == b.id) = false := by
            simpa [hasTicket] using ht
          simp [ht, hk, hany]
      · simp [hk, hko]
    next hk => simp [hk]

theorem CutFrame.kitchens {s u : State} (h : CutFrame s u) : u.kitchens = s.kitchens := by rw [h]

/-- The rows of a pantry face read the kitchens and the ticket lists alone (R127). -/
theorem pantryRows_congr {s u : State} (hk : s.kitchens = u.kitchens) (ht : s.catering.tickets = u.catering.tickets)
    (k : KitchenNo) : pantryRows s k = pantryRows u k := by
  unfold pantryRows pantryRow0
  rw [hk, ht]

/-- What a ticket removed makes of the faces reads the tickets, the panels, the kitchens and the faces alone. -/
theorem removeTicket_faces_congr {s u : State} (ht : s.catering.tickets = u.catering.tickets)
    (hp : s.panels = u.panels) (hk : s.kitchens = u.kitchens) (hf : s.composer.faces = u.composer.faces)
    (k : KitchenNo) (id : BookingId) :
    (removeTicket k id s).composer.faces = (removeTicket k id u).composer.faces := by
  have hrows : pantryRows (removeTicket k id s) k = pantryRows (removeTicket k id u) k := by
    refine pantryRows_congr ?_ ?_ k
    · rw [(removeTicket_frame k id s).kitchens, (removeTicket_frame k id u).kitchens, hk]
    · rw [removeTicket_catering, removeTicket_catering, ht]
  refine Tab.ext_get fun a => ?_
  rw [removeTicket_face, removeTicket_face, hrows, hasTicket, hasTicket, ht, hp, hf]

theorem removeTicket_marks (k : KitchenNo) (id : BookingId) (s : State) :
    (removeTicket k id s).composer.roomMarks = s.composer.roomMarks := by
  unfold removeTicket
  split <;> rfl

/-- What tickets are gone reads the tickets, the faces, the panels and the kitchens alone. -/
theorem TicketsGone.congr {gone : List Record} {s t s' t' : State} (h : TicketsGone gone s t)
    (hs : s'.catering.tickets = s.catering.tickets) (hf : s'.composer.faces = s.composer.faces)
    (hp : s'.panels = s.panels) (ht : t'.catering.tickets = t.catering.tickets)
    (hf' : t'.composer.faces = t.composer.faces) (hk : t'.kitchens = t.kitchens) : TicketsGone gone s' t' := by
  unfold TicketsGone pantryRows pantryRow0 at *
  rw [hs, hf, hp, ht, hf', hk]
  exact h

/-- It reads of a booking its id and its order's kitchen alone. -/
theorem TicketsGone.of_kitchen {b c : Record} {p : Bool} {s t : State} (h : TicketsGone (if p then [b] else []) s t)
    (hid : c.id = b.id) (ho : c.order.map (·.kitchen) = b.order.map (·.kitchen)) :
    TicketsGone (if p then [c] else []) s t := by
  have hk : ∀ k, (c.order.any fun o => o.kitchen == k) = b.order.any fun o => o.kitchen == k := by
    intro k
    cases hc : c.order <;> cases hb : b.order <;> simp_all
  cases p
  · exact h
  · simpa only [TicketsGone, if_true, List.any_cons, List.any_nil, hid, hk] using h

/-- Where no booking is named, every ticket and every face stands. -/
theorem TicketsGone.nothing {s t : State} (h : TicketsGone [] s t) :
    t.catering.tickets = s.catering.tickets ∧ t.composer.faces = s.composer.faces := by
  obtain ⟨ht, hf⟩ := h
  refine ⟨Tab.ext_get fun k => by simp [ht], Tab.ext_get fun a => ?_⟩
  have := hf a
  simp only [List.any_nil, List.any_eq_true, Bool.false_eq_true, and_false, exists_false, if_false] at this
  split at this <;> exact this

theorem LoadsGone.none {s t : State} (h : t.catering.pages = s.catering.pages) : LoadsGone [] s t := by
  intro i
  simp [h]

/-- The one load changed, where the page carries the day of the grain. -/
theorem changeLoad_load (c : Catering) (k : KitchenNo) (qd : Nat) (f : Nat → Nat) (i : Fin 14) (j : KitchenNo)
    (slot : Fin 96) : (((c.changeLoad k qd f).pages.get i).loads.get j).get slot =
      if j = k ∧ i = pageIndex (dayOf qd) ∧ c.carries qd = true ∧ slot = slotIndex qd then
        f (((c.pages.get i).loads.get j).get slot)
      else ((c.pages.get i).loads.get j).get slot := by
  by_cases hi : i = pageIndex (dayOf qd)
  · subst hi
    by_cases hc : c.carries qd = true
    · rw [changeLoad_get _ _ _ _ hc]
      simp [hc]
    · rw [Catering.changeLoad, if_neg hc, if_neg fun h => hc h.2.2.1]
  · rw [changeLoad_get_ne _ _ _ _ hi, if_neg fun h => hi h.2.1]

/-- A load subtracted is gone from the slot of its order, where the page carries the order's day (R105). -/
theorem LoadsGone.subtracted {s t : State} {o : Order}
    (h : t.catering.pages = (s.catering.changeLoad o.kitchen o.qd (· - o.load)).pages) : LoadsGone [o] s t := by
  intro i
  rw [h]
  refine ⟨changeLoad_tag .., fun k slot => ?_⟩
  have hpage : i = pageIndex (dayOf o.qd) ↔ o.qd / 288 % 14 = i.val := by
    rw [Fin.ext_iff, eq_comm]
    rfl
  have hslot : slot = slotIndex o.qd ↔ o.qd % 288 / 3 = slot.val := by
    rw [Fin.ext_iff, eq_comm]
    rfl
  have hcarries : i = pageIndex (dayOf o.qd) →
      (s.catering.carries o.qd = true ↔ (s.catering.pages.get i).tag = o.qd / 288) := by
    rintro rfl
    exact beq_iff_eq
  have hcond : (o.kitchen == k && o.qd / 288 % 14 == i.val && (s.catering.pages.get i).tag == o.qd / 288 &&
      o.qd % 288 / 3 == slot.val) = true ↔
        k = o.kitchen ∧ i = pageIndex (dayOf o.qd) ∧ s.catering.carries o.qd = true ∧ slot = slotIndex o.qd := by
    simp only [Bool.and_eq_true, beq_iff_eq, ← hpage, ← hslot, and_assoc, eq_comm (a := o.kitchen)]
    exact and_congr_right fun _ => and_congr_right fun hi => by rw [hcarries hi]
  rw [changeLoad_load]
  split
  next h => simp [hcond.2 h]
  next h => simp [Bool.eq_false_iff.2 (mt hcond.1 h)]

/-! ## The order of a released booking (R116) -/

/-- A release of an order changes the records, the catering, the faces and the exceptions alone. -/
structure OrderReleased (r : Record) (s u : State) : Prop where
  frame : CutFrame s u
  store : ∃ records, u.store = { s.store with records := records }
  own : u.record? r.id = some { r with order := r.order.map Order.afterRelease }
  others : ∀ x, x ≠ r.id → u.record? x = s.record? x
  marks : u.composer.roomMarks = s.composer.roomMarks
  tickets : TicketsGone (if r.served then [r] else []) s u
  loads : LoadsGone (r.order.filter fun o => o.state == .placed).toList s u
  exceptions : u.exceptions = (wasteRaised r s).exceptions

theorem updOrder_self {id : BookingId} {s : State} {r : Record} (h : s.record? id = some r) (f : Order → Order) :
    (updOrder id f s).record? id = some { r with order := r.order.map f } :=
  (updRecord_self id (fun r => { r with order := r.order.map f }) (fun _ => rfl) s).trans (by rw [h]; rfl)

theorem updOrder_of_ne {id x : BookingId} (h : x ≠ id) (f : Order → Order) (s : State) :
    (updOrder id f s).record? x = s.record? x :=
  updRecord_of_ne id x h (fun r => { r with order := r.order.map f }) (fun _ => rfl) s

theorem releaseOrder_released {r : Record} {s : State} (h : s.record? r.id = some r) :
    OrderReleased r s (releaseOrder r.id s) := by
  have hstands : releaseOrder r.id s = s → r.order.map Order.afterRelease = r.order → r.served = false →
      (r.order.filter fun o => o.state == .placed) = none → OrderReleased r s (releaseOrder r.id s) := by
    intro he hmap hserved hplaced
    rw [he]
    refine ⟨.refl, ⟨_, rfl⟩, ?_, fun _ _ => rfl, rfl, ?_, ?_, ?_⟩
    · rw [hmap]
      exact h
    · rw [hserved]
      exact .refl_of (by simp) rfl rfl
    · rw [hplaced]
      exact .none rfl
    · unfold wasteRaised
      split <;> simp [hserved]
  cases ho : r.order with
  | none => exact hstands (by simp [releaseOrder, h, ho]) (by simp [ho]) (by simp [Record.served, ho]) (by simp [ho])
  | some o =>
    have hserved : o.state = .dispatched ∨ o.state = .accepted → OrderReleased r s (releaseOrder r.id s) := by
      intro hs
      have he : releaseOrder r.id s = raiseFor .cateringWaste r o.kitchen.val
          (removeTicket o.kitchen r.id (updOrder r.id (fun o => { o with state := .wasted }) s)) := by
        obtain hs | hs := hs <;> simp [releaseOrder, h, ho, hs]
      have hmap : r.order.map (fun o => { o with state := .wasted }) = r.order.map Order.afterRelease := by
        obtain hs | hs := hs <;> simp [ho, Order.afterRelease, hs]
      have hserve : r.served = true := by obtain hs | hs := hs <;> simp [Record.served, ho, hs]
      have hplaced : (r.order.filter fun o => o.state == .placed) = none := by obtain hs | hs := hs <;> simp [ho, hs]
      obtain ⟨v, hv⟩ : ∃ v, v = updOrder r.id (fun o => { o with state := .wasted }) s := ⟨_, rfl⟩
      have hstore : (removeTicket o.kitchen r.id v).store = v.store := removeTicket_store ..
      rw [he, ← hv]
      refine ⟨?_, ?_, ?_, fun x hx => ?_, ?_, ?_, ?_, ?_⟩
      · have hcut : CutFrame s v := by rw [hv]; exact .update ..
        exact (hcut.trans (removeTicket_frame ..)).trans (.update ..)
      · exact ⟨v.store.records, hstore.trans (by rw [hv]; rfl)⟩
      · refine (congrArg (fun st => st.find r.id) hstore).trans ?_
        rw [hv, ← hmap]
        exact updOrder_self h _
      · refine (congrArg (fun st => st.find x) hstore).trans ?_
        rw [hv]
        exact updOrder_of_ne hx _ s
      · refine (removeTicket_marks ..).trans ?_
        rw [hv]
        rfl
      · rw [if_pos hserve]
        refine (removeTicket_gone ho v).congr ?_ ?_ ?_ rfl rfl rfl <;> rw [hv] <;> rfl
      · rw [hplaced]
        refine .none ((congrArg Catering.pages (removeTicket_catering ..)).trans ?_)
        rw [hv]
        rfl
      · have hw : wasteRaised r s =
            raise .cateringWaste (.booking r.id) (some r.room) (BitVec.ofNat 32 o.kitchen.val) s := by
          simp [wasteRaised, ho, hserve]
        have hcut := removeTicket_frame o.kitchen r.id v
        rw [hw]
        refine raise_exceptions_congr _ _ _ _ ?_ ?_ ?_ rfl
        · rw [hcut.dispositions, hv]
          rfl
        · rw [removeTicket_exceptions, hv]
          rfl
        · rw [State.grain, hcut.clock, hv]
          rfl
    cases hs : o.state with
    | placed =>
      have he : releaseOrder r.id s = subtractLoad o.kitchen o.qd o.load
          (updOrder r.id (fun o => { o with state := .cancelled, dispatchPending := false }) s) := by
        simp [releaseOrder, h, ho, hs]
      rw [he]
      refine ⟨.update .., ⟨_, rfl⟩, ?_, fun x hx => updOrder_of_ne hx _ s, rfl, ?_, ?_, ?_⟩
      · refine (updOrder_self h _).trans ?_
        simp [ho, Order.afterRelease, hs]
      · exact .refl_of (by simp [Record.served, ho, hs]) (changeLoad_tickets ..) rfl
      · have hplaced : (r.order.filter fun o => o.state == .placed).toList = [o] := by simp [ho, hs]
        rw [hplaced]
        exact .subtracted rfl
      · have hw : wasteRaised r s = s := by simp [wasteRaised, Record.served, ho, hs]
        rw [hw]
        rfl
    | dispatched => exact hserved (.inl hs)
    | accepted => exact hserved (.inr hs)
    | delivered | wasted | cancelled =>
      exact hstands (by simp [releaseOrder, h, ho, hs]) (by simp [ho, Order.afterRelease, hs])
        (by simp [Record.served, ho, hs]) (by simp [ho, hs])

/-! ## The release of a record (R39) -/

/-- What a release makes of the part before its record retires or joins the retire list (R39, steps 1 to 4). -/
structure RecordReleased (why : ReleaseReason) (b : Record) (s u : State) : Prop where
  frame : CutFrame s u
  store : ∃ records lists, u.store = { s.store with records := records, lists := lists }
  own : u.record? b.id = some (b.afterRelease why)
  others : ∀ x, x ≠ b.id → u.record? x = s.record? x
  lists : ∀ q, u.store.lists.get q =
    if q ∈ listRooms s b then (s.store.lists.get q).filter (fun x => x != b.id) else s.store.lists.get q
  marks : ∀ q, u.composer.roomMarks.get q = (s.composer.roomMarks.get q ||
    (listRooms s b).contains q && (s.store.lists.get q).contains b.id)
  tickets : TicketsGone (if b.served then [b] else []) s u
  loads : LoadsGone (b.order.filter fun o => o.state == .placed).toList s u
  exceptions : u.exceptions = (wasteRaised b s).exceptions

/-- The loads gone read the load pages alone. -/
theorem LoadsGone.congr {gone : List Order} {s t s' t' : State} (h : LoadsGone gone s t)
    (hs : s'.catering.pages = s.catering.pages) (ht : t'.catering.pages = t.catering.pages) :
    LoadsGone gone s' t' := by
  unfold LoadsGone at *
  rw [hs, ht]
  exact h

/-- The occurrence for an order that goes to waste reads the dispositions, the Exception Unit and the clock alone. -/
theorem wasteRaised_exceptions_congr {s u : State} (b : Record) (hd : s.dispositions = u.dispositions)
    (he : s.exceptions = u.exceptions) (hc : s.clock = u.clock) :
    (wasteRaised b s).exceptions = (wasteRaised b u).exceptions := by
  unfold wasteRaised
  split
  · split
    · exact raise_exceptions_congr _ _ _ _ hd he (by rw [State.grain, State.grain, hc]) rfl
    · exact he
  · exact he

theorem releaseRecord_released {b : Record} {s : State} (h : s.record? b.id = some b) (why : ReleaseReason) :
    RecordReleased why b s (releaseRecord b.id why s) := by
  obtain ⟨v, hv⟩ : ∃ v, v = updRecord b.id (fun b => { b with state := .released, releaseReason := some why })
    (removeRecord b s) := ⟨_, rfl⟩
  have hrem := removeRecord_eq b s
  have hstored : v.store = { s.store with records := v.store.records, lists := (removeRecord b s).store.lists } := by
    have hlists : (removeRecord b s).store = { s.store with lists := (removeRecord b s).store.lists } :=
      congrArg State.store hrem
    have hrecords : v.store = { (removeRecord b s).store with records := v.store.records } := by rw [hv]; rfl
    exact hrecords.trans (by rw [hlists])
  have hown : v.record? b.id = some { b with state := .released, releaseReason := some why } := by
    rw [hv]
    refine (updRecord_self b.id (fun b => { b with state := .released, releaseReason := some why })
      (fun _ => rfl) _).trans ?_
    rw [removeRecord_record?, h]
    rfl
  have hothers : ∀ x, x ≠ b.id → v.record? x = s.record? x := fun x hx => by
    rw [hv]
    refine (updRecord_of_ne b.id x hx (fun b => { b with state := .released, releaseReason := some why })
      (fun _ => rfl) _).trans (removeRecord_record? ..)
  have hframe : v = { s with
      store := v.store, composer := { s.composer with roomMarks := (removeRecord b s).composer.roomMarks } } := by
    have hupd : v = { removeRecord b s with store := v.store } := by rw [hv]; rfl
    exact hupd.trans (congrArg (fun u : State => { u with store := v.store }) hrem)
  have hcatering : s.catering = v.catering := by rw [hframe]
  have hfaces : s.composer.faces = v.composer.faces := by rw [hframe]
  have hmarks : v.composer.roomMarks = (removeRecord b s).composer.roomMarks := by rw [hframe]
  have hexceptions : (wasteRaised b v).exceptions = (wasteRaised b s).exceptions :=
    wasteRaised_exceptions_congr b (by rw [hframe]) (by rw [hframe]) (by rw [hframe])
  have he : releaseRecord b.id why s = recomputeRetire b.id (releaseOrder b.id v) := by
    simp [releaseRecord, h, hv]
  have ho := releaseOrder_released (r := { b with state := .released, releaseReason := some why }) hown
  generalize releaseOrder b.id v = u at ho he
  obtain ⟨records, hstore⟩ := ho.store
  rw [he]
  constructor
  case frame =>
    have hcut : CutFrame s v := hframe.trans (by rw [hframe])
    exact (hcut.trans ho.frame).trans (.update ..)
  case store =>
    refine ⟨(recomputeRetire b.id u).store.records, (removeRecord b s).store.lists, ?_⟩
    refine (congrArg (fun st : Store => { st with records := (recomputeRetire b.id u).store.records }) hstore).trans ?_
    rw [hstored]
  case own =>
    refine (updRecord_self b.id Record.regrained (fun _ => rfl) u).trans ?_
    rw [ho.own]
    rfl
  case others =>
    exact fun x hx => (updRecord_of_ne b.id x hx Record.regrained (fun _ => rfl) u).trans
      ((ho.others x hx).trans (hothers x hx))
  case lists =>
    intro q
    rw [← removeRecord_get]
    refine (congrArg (fun st : Store => st.lists.get q) hstore).trans ?_
    rw [hstored]
  case marks =>
    intro q
    rw [← removeRecord_marks, ← hmarks]
    exact congrArg (fun t : Tab Bool 96 => t.get q) ho.marks
  case tickets =>
    have hv : TicketsGone (if b.served then [b] else []) v u := ho.tickets.of_kitchen rfl rfl
    exact hv.congr (by rw [hcatering]) hfaces (by rw [hframe]) rfl rfl rfl
  case loads => exact ho.loads.congr (by rw [hcatering]) rfl
  case exceptions => exact ho.exceptions.trans hexceptions

/-! ## Retirement at once, or at the retire grain (R39, R41, R43) -/

/-- An order is counted after its release where it was neither PLACED nor CANCELLED (R116). -/
theorem Record.stays_iff (why : ReleaseReason) (b : Record) :
    ((b.afterRelease why).order.map Order.counted).getD false = b.stays := by
  unfold Record.stays
  cases ho : b.order with
  | none => simp [Record.afterRelease, ho]
  | some o => cases hs : o.state <;> simp [Record.afterRelease, ho, Order.afterRelease, Order.counted, hs] <;> rfl

theorem Order.afterRelease_kitchen (o : Order) : o.afterRelease.kitchen = o.kitchen := by
  unfold Order.afterRelease
  split <;> rfl

theorem retire_record?_of_ne {id x : BookingId} {s : State} {r : Record} (h : s.record? id = some r) (hx : x ≠ id) :
    (retire id s).record? x = s.record? x := by
  rw [State.record?, Store.find, retire_store h, List.find?_filter]
  refine congrArg (fun p => s.store.records.find? p) (funext fun q => ?_)
  by_cases hq : q.id = x <;> simp [hq, hx]

theorem retireOrder_composer (id : BookingId) (o : Order) (s : State) :
    (retireOrder id o s).composer = (removeTicket o.kitchen id s).composer := by
  unfold retireOrder
  dsimp only
  split <;> rfl

/-- The marks of a retirement are those of the removal. -/
theorem retire_marks {id : BookingId} {s : State} {r : Record} (h : s.record? id = some r) :
    (retire id s).composer.roomMarks = (removeRecord r s).composer.roomMarks := by
  unfold retire
  simp only [h]
  split
  · simp only [freeCells_frame, retireOrder_composer, removeTicket_marks]
  · rfl

/-- A retirement takes the ticket of the record's order, where one stands (R118). -/
theorem retire_tickets {s : State} {r : Record} (h : s.record? r.id = some r) : TicketsGone [r] s (retire r.id s) := by
  have hrem := removeRecord_eq r s
  cases ho : r.order with
  | none =>
    refine .refl_of (by simp [ho]) ?_ ?_
    · simp only [retire, h, ho, freeCells_frame]
      rw [hrem]
    · simp only [retire, h, ho, freeCells_frame]
      rw [hrem]
  | some o =>
    refine (removeTicket_gone ho s).congr rfl rfl rfl ?_ ?_ ?_
    · rw [retire_catering h ho]
      split <;> simp
    · simp only [retire, h, ho, freeCells_frame, retireOrder_composer]
      refine removeTicket_faces_congr ?_ ?_ ?_ ?_ .. <;> rw [hrem]
    · rw [(retire_frame r.id s).kitchens, (removeTicket_frame o.kitchen r.id s).kitchens]

/-- It leaves the load pages where the order is not counted. -/
theorem retire_pages {id : BookingId} {s : State} {r : Record} (h : s.record? id = some r)
    (hc : (r.order.map Order.counted).getD false = false) : (retire id s).catering.pages = s.catering.pages := by
  cases ho : r.order with
  | none =>
    simp only [retire, h, ho, freeCells_frame]
    rw [removeRecord_eq]
  | some o =>
    rw [retire_catering h ho, if_neg (by simpa [ho] using hc), removeTicket_catering]

/-- A record that its released order keeps waits for its retire grain. -/
theorem release_of_stays {b : Record} {s : State} (h : s.record? b.id = some b) {why : ReleaseReason}
    (hs : b.stays = true) : release b.id why s =
      { releaseRecord b.id why s with store := { (releaseRecord b.id why s).store with
        retireList := insertWhere (retiresAfter (releaseRecord b.id why s).store (b.afterRelease why).retireGrain) b.id
          (releaseRecord b.id why s).store.retireList } } := by
  rw [release, joinRetireList, (releaseRecord_released h why).own]
  exact if_pos (by rw [Record.stays_iff, hs])

/-- Any other retires at once. -/
theorem release_of_leaves {b : Record} {s : State} (h : s.record? b.id = some b) {why : ReleaseReason}
    (hs : b.stays = false) : release b.id why s = retire b.id (releaseRecord b.id why s) := by
  rw [release, joinRetireList, (releaseRecord_released h why).own]
  exact if_neg (by rw [Record.stays_iff, hs]; simp)

/-- An order that has a ticket keeps its booking in the store. -/
theorem Record.stays_of_served {b : Record} (h : b.served = true) : b.stays = true := by
  unfold Record.served at h
  unfold Record.stays
  cases ho : b.order with
  | none => simp [ho] at h
  | some o => cases hs : o.state <;> simp [ho, hs] at h ⊢

theorem retiresAfter_of_find {st : Store} {id : BookingId} {r : Record} (h : st.find id = some r) (g : Nat) :
    retiresAfter st g id = decide (g < r.retireGrain) := by
  rw [retiresAfter, h]

theorem retiresAfter_record {st : Store} {id : BookingId} {g : Nat} (h : retiresAfter st g id = true) :
    ∃ r, st.find id = some r ∧ g < r.retireGrain := by
  unfold retiresAfter at h
  split at h
  next r hr => exact ⟨r, hr, by simpa using h⟩
  next => cases h

/-- A release, by whether the record stays. -/
theorem release_released {b : Record} {s : State} (h : s.record? b.id = some b) (why : ReleaseReason) :
    Released why b s (release b.id why s) := by
  have hr := releaseRecord_released h why
  obtain ⟨records, lists, hstore⟩ := hr.store
  cases hstays : b.stays with
  | true =>
    rw [release_of_stays h hstays]
    generalize releaseRecord b.id why s = u at hr hstore
    obtain ⟨before, after, hsplit, hinsert, hbefore, hafter⟩ := insertWhere_split
      (retiresAfter u.store (b.afterRelease why).retireGrain) b.id u.store.retireList
    refine ⟨hr.others, by rw [hstays]; exact hr.own, hr.lists, hr.marks,
      fun _ => ⟨before, after, ?_, hinsert, ?_, ?_⟩, fun h' => ?_, ?_, ?_, ?_, hr.loads⟩
    · rw [← hsplit, hstore]
    · intro x hx c hc
      have hlate := hbefore x hx
      rw [retiresAfter_of_find (st := u.store) hc] at hlate
      simpa using hlate
    · exact fun x hx => retiresAfter_record (hafter x hx)
    · rw [hstays] at h'
      cases h'
    · rw [hstays]
      refine ⟨⟨[], .nil, ?_⟩, ?_⟩ <;> simp [hstore]
    · simp [hstore]
    · rw [hstays, Bool.not_true, Bool.or_false]
      exact hr.tickets
  | false =>
    rw [release_of_leaves h hstays]
    have hserved : b.served = false := by
      by_contra hc
      rw [Record.stays_of_served (by simpa using hc)] at hstays
      cases hstays
    generalize releaseRecord b.id why s = u at hr hstore
    have hlist := retire_store hr.own
    have hrooms : listRooms u (b.afterRelease why) = listRooms s b := by
      unfold listRooms
      rw [hr.frame.rooms]
      rfl
    refine ⟨fun x hx => (retire_record?_of_ne hr.own hx).trans (hr.others x hx), ?_, fun q => ?_, fun q => ?_,
      fun h' => ?_,
      fun _ => ?_, ?_, ?_, ?_, ?_⟩
    · rw [hstays]
      exact retire_record? ..
    · rw [hlist, ← hr.lists]
      refine (removeRecord_get ..).trans ?_
      rw [hrooms, hr.lists]
      split <;> simp [Record.afterRelease]
    · rw [retire_marks hr.own, removeRecord_marks, hrooms, hr.marks, hr.lists]
      by_cases hq : q ∈ listRooms s b <;> simp [hq, Record.afterRelease]
    · rw [hstays] at h'
      cases h'
    · rw [hlist, hstore]
    · unfold CellsReturned
      rw [hstays, hlist, hstore]
      exact ⟨⟨[_], .cons ⟨sortBy_perm .., sortBy_pairwise (fun n : Nat => n) b.cells⟩ .nil, by simp; rfl⟩,
        by simp⟩
    · rw [hlist, hstore]
    · rw [hstays, Bool.not_false, Bool.or_true]
      have hgone : TicketsGone (if true then [b] else []) u (retire b.id u) := by
        refine TicketsGone.of_kitchen (b := b.afterRelease why) (p := true) (retire_tickets hr.own) rfl ?_
        cases ho : b.order <;> simp [Record.afterRelease, ho, Order.afterRelease_kitchen]
      have hsame : TicketsGone [] s u := by simpa [hserved] using hr.tickets
      exact hgone.congr hsame.nothing.1.symm hsame.nothing.2.symm (by rw [hr.frame]) rfl rfl rfl
    · refine hr.loads.congr rfl (retire_pages hr.own ?_)
      rw [Record.stays_iff, hstays]

theorem release_frame {b : Record} {s : State} (h : s.record? b.id = some b) (why : ReleaseReason) :
    CutFrame s (release b.id why s) := by
  have hr := releaseRecord_released h why
  cases hstays : b.stays with
  | true =>
    rw [release_of_stays h hstays]
    exact hr.frame.trans (.update ..)
  | false =>
    rw [release_of_leaves h hstays]
    exact hr.frame.trans (retire_frame ..)

/-- A release raises CATERING_WASTE where its order goes to waste, and no more (R116). -/
theorem release_exceptions {b : Record} {s : State} (h : s.record? b.id = some b) (why : ReleaseReason) :
    (release b.id why s).exceptions = (wasteRaised b s).exceptions := by
  have hr := releaseRecord_released h why
  cases hstays : b.stays with
  | true =>
    rw [release_of_stays h hstays]
    exact hr.exceptions
  | false =>
    rw [release_of_leaves h hstays, retire_exceptions]
    exact hr.exceptions

end Sys2Proof.Machine
end

section
/-!
SUPPORT. The serving of the move stack (R76 to R81): the readings of one popped booking in the alternates of its origin
room, what settling its order makes of each block (R117), and where it is placed or released.
-/

namespace Sys2Proof.Machine

/-! ## The alternates that take a booking (R55, R57, R77) -/

/-- A booking moved from its origin room may be placed in a room at once: that room is IN_SERVICE, large enough, not the
origin, and free for the booking's span (R77). -/
def Fits (s : State) (origin : RoomNo) (b : Record) (a : RoomNo) : Prop :=
  (s.rooms.get a).state = .inService ∧ b.attendees ≤ (s.rooms.get a).capacity ∧ a ≠ origin ∧
    ∀ c, c ∈ s.listed a → c.id ≠ b.id → ¬ ((spanFor s a b).first < c.se ∧ c.ss < (spanFor s a b).last)

theorem passedOver_iff (s : State) (t : Trial) (b : Record) (a : RoomNo) : passedOver s t b a = false ↔
    (s.rooms.get a).state = .inService ∧ b.attendees ≤ (s.rooms.get a).capacity ∧ a ≠ t.frame.origin := by
  simp [passedOver, inService, and_assoc]

theorem conflictsIn_eq_nil (s : State) (a : RoomNo) (sp : Span) (id : BookingId) :
    conflictsIn s a sp (some id) = [] ↔
      ∀ c, c ∈ s.listed a → c.id ≠ id → ¬ (sp.first < c.se ∧ c.ss < sp.last) := by
  simp only [conflictsIn, conflicts, List.filter_eq_nil_iff, Bool.and_eq_true, decide_eq_true_eq, bne_iff_ne, ne_eq,
    Option.some.injEq]
  refine forall₂_congr fun c _ => ?_
  rw [eq_comm (a := id)]
  tauto

theorem fits_iff (s : State) (t : Trial) (b : Record) (a : RoomNo) : Fits s t.frame.origin b a ↔
    passedOver s t b a = false ∧ conflictsIn s a (spanFor s a b) (some b.id) = [] := by
  rw [passedOver_iff, conflictsIn_eq_nil, Fits, and_assoc, and_assoc]

/-! ## One reading of the engine -/

/-- The engine about to read the next alternate of a trial. -/
def tryingAt (f : Flight) (t : Trial) (s : State) : State := setFlight { f with phase := .tryNext t } s

theorem checkAlternate_free {s : State} {t : Trial} {b : Record} {a : RoomNo}
    (h : conflictsIn s a (spanFor s a b) (some b.id) = []) :
    checkAlternate t b a s = .placeMoving t (spanFor s a b) := by
  rw [checkAlternate, h]

/-- A conflict sends the booking onward, in the pass of R78 where the room's policy is NO_DISPLACE (R72). -/
theorem checkAlternate_taken {s : State} {t : Trial} {b : Record} {a : RoomNo}
    (h : conflictsIn s a (spanFor s a b) (some b.id) ≠ [])
    (hd : t.pass = .displacing → (s.rooms.get a).policy = .noDisplace) :
    checkAlternate t b a s = .tryNext t.onward := by
  unfold checkAlternate
  dsimp only
  split
  next hc => exact absurd hc h
  next =>
    refine if_neg fun hm => ?_
    simp [mayDisplace, hd hm.1, h] at hm

theorem moveStep_tryingAt {f : Flight} {t : Trial} {s : State} {a : RoomNo} {b : Record} (ha : t.alternate? = some a)
    (hb : s.record? t.frame.booking = some b) : moveStep (tryingAt f t s) =
      if passedOver s t b a then tryingAt f t.onward s else setFlight { f with phase := checkAlternate t b a s } s := by
  have hb' : (tryingAt f t s).record? t.frame.booking = some b := hb
  have hstep : moveStep (tryingAt f t s) = tryAlternate t { f with phase := .tryNext t } (tryingAt f t s) := rfl
  rw [hstep, tryAlternate, ha]
  dsimp only
  rw [hb']
  rfl

/-- An alternate that does not take the booking is passed over; in the pass of R78 one whose room may not be displaced
into. -/
theorem moveStep_onward {f : Flight} {t : Trial} {s : State} {a : RoomNo} {b : Record} (ha : t.alternate? = some a)
    (hb : s.record? t.frame.booking = some b) (hf : ¬ Fits s t.frame.origin b a)
    (hd : t.pass = .displacing → (s.rooms.get a).policy = .noDisplace) :
    moveStep (tryingAt f t s) = tryingAt f t.onward s := by
  rw [moveStep_tryingAt ha hb]
  split
  · rfl
  next hp =>
    have hc : conflictsIn s a (spanFor s a b) (some b.id) ≠ [] := fun hc =>
      hf ((fits_iff s t b a).2 ⟨(Bool.not_eq_true _).mp hp, hc⟩)
    rw [checkAlternate_taken hc hd]
    rfl

/-- One that takes it is where it is to be placed (R77). -/
theorem moveStep_fits {f : Flight} {t : Trial} {s : State} {a : RoomNo} {b : Record} (ha : t.alternate? = some a)
    (hb : s.record? t.frame.booking = some b) (hf : Fits s t.frame.origin b a) :
    moveStep (tryingAt f t s) = setFlight { f with phase := .placeMoving t (spanFor s a b) } s := by
  obtain ⟨hp, hc⟩ := (fits_iff s t b a).1 hf
  rw [moveStep_tryingAt ha hb, hp, checkAlternate_free hc]
  rfl

/-- A pass that has tried every position is followed by the pass of R78, or by the release (R80). -/
theorem moveStep_passed {f : Flight} {t : Trial} {s : State} (ha : t.alternate? = none) (hp : t.pass = .freeSpan)
    (hn : t.alternates ≠ []) :
    moveStep (tryingAt f t s) = tryingAt f { t with pass := .displacing, tried := 0 } s := by
  have hstep : moveStep (tryingAt f t s) = tryAlternate t { f with phase := .tryNext t } (tryingAt f t s) := rfl
  rw [hstep, tryAlternate, ha]
  exact if_pos ⟨hp, hn⟩

theorem moveStep_unplaced {f : Flight} {t : Trial} {s : State} (ha : t.alternate? = none)
    (hp : t.pass = .displacing ∨ t.alternates = []) : moveStep (tryingAt f t s) =
      setFlight { f with phase := .serve, figures := f.figures.lose }
        (releaseFrame .unplaced t.frame (tryingAt f t s)) := by
  have hstep : moveStep (tryingAt f t s) = tryAlternate t { f with phase := .tryNext t } (tryingAt f t s) := rfl
  rw [hstep, tryAlternate, ha]
  refine if_neg fun h => ?_
  obtain hp | hp := hp
  · rw [hp] at h
    cases h.1
  · exact h.2 hp

/-! ## The readings in turn -/

theorem moveSteps_trying {n : Nat} {s : State} (h : inTrial (moveStep s) = true) :
    moveSteps (n + 1) s = moveSteps n (moveStep s) := if_pos h

theorem moveSteps_done {n : Nat} {s : State} (h : inTrial (moveStep s) = false) :
    moveSteps (n + 1) s = moveStep s := if_neg (by simp [h])

/-- The trial come to a position of its pass. -/
def Trial.at (t : Trial) (n : Nat) : Trial := { t with tried := n }

/-- The positions that do not take the booking are passed over one by one. -/
theorem moveSteps_onward {f : Flight} {t : Trial} {s : State} {b : Record} (hb : s.record? t.frame.booking = some b)
    (k work : Nat)
    (h : ∀ j, j < k → ∃ a, (t.at (t.tried + j)).alternate? = some a ∧ ¬ Fits s t.frame.origin b a ∧
      (t.pass = .displacing → (s.rooms.get a).policy = .noDisplace)) :
    moveSteps (work + k) (tryingAt f t s) = moveSteps work (tryingAt f (t.at (t.tried + k)) s) := by
  induction k generalizing t with
  | zero => rfl
  | succ k ih =>
    obtain ⟨a, ha, hf, hd⟩ := h 0 (by omega)
    have hstep : moveStep (tryingAt f t s) = tryingAt f t.onward s := moveStep_onward ha hb hf hd
    have htrial : inTrial (moveStep (tryingAt f t s)) = true := by rw [hstep]; rfl
    have hnext := ih (t := t.onward) hb fun j hj => by
      obtain ⟨a, ha, hf, hd⟩ := h (j + 1) (by omega)
      refine ⟨a, ?_, hf, hd⟩
      rw [← ha, Nat.add_comm j 1, ← Nat.add_assoc]
      rfl
    rw [← Nat.add_assoc, moveSteps_trying htrial, hstep, hnext, Nat.add_comm k 1, ← Nat.add_assoc]
    rfl

end Sys2Proof.Machine
end

section
/-!
SUPPORT. What settling the order of a booking placed in an alternate makes of each block (R117).
-/

namespace Sys2Proof.Machine

/-! ## The kitchen that takes an order (R109, R117) -/

/-- A kitchen takes a moved order: it serves the alternate, it is OPEN, it prepares every item, and the order's load
fits its maximum and what the profile leaves of the slot (R109). -/
def Takes (serving : Option KitchenNo) (o : Order) (k : KitchenNo) (s : State) : Prop :=
  serving = some k ∧ (s.kitchens.get k).state = .opened ∧ (∀ l, l ∈ o.lines → prepares s k l.1 = true) ∧
    o.load ≤ 4095 ∧
    s.catering.loadAt k (o.qd / 288) (slotIndex o.qd) + o.load ≤ (s.profile.get k).get (slotIndex o.qd)

/-- A change of one kitchen's load leaves the loads of the others. -/
theorem loadAt_changeLoad_ne (c : Catering) {k j : KitchenNo} (h : j ≠ k) (qd : Nat) (f : Nat → Nat) (day : Nat)
    (slot : Fin 96) : (c.changeLoad k qd f).loadAt j day slot = c.loadAt j day slot := by
  simp [Catering.loadAt, changeLoad_load, h]

/-- The judgement of the steps 4 to 7 of R109, made once the order's load is off its own kitchen. -/
theorem kitchenTakes_subtractLoad {k : KitchenNo} {o : Order} (h : k ≠ o.kitchen) (s : State) :
    kitchenTakes (subtractLoad o.kitchen o.qd o.load s) k o.lines o.load o.qd none = true ↔
      Takes (some k) o k s := by
  have hload : loadWithout (subtractLoad o.kitchen o.qd o.load s) k o.qd none =
      s.catering.loadAt k (o.qd / 288) (slotIndex o.qd) := loadAt_changeLoad_ne s.catering h ..
  simp only [kitchenTakes, Takes, hload, Bool.and_eq_true, beq_iff_eq, List.all_eq_true, decide_eq_true_eq, and_assoc,
    true_and]
  rfl

/-! ## A settled order (R117) -/

/-- The order, the loads, the tickets, the panels, the faces and the exceptions stand. -/
def OrderStands (old new : Option Order) (s t : State) : Prop :=
  new = old ∧ t.catering = s.catering ∧ t.panels = s.panels ∧ t.exceptions = s.exceptions ∧
    t.composer.faces = s.composer.faces

/-- A PLACED order whose booking has moved to a room that another kitchen serves, or none: it goes to that kitchen
where it is taken there, and is CANCELLED where not. -/
def OrderMoved (serving : Option KitchenNo) (a : RoomNo) (id : BookingId) (o : Order) (new : Option Order)
    (s t : State) : Prop :=
  let without := s.catering.changeLoad o.kitchen o.qd (· - o.load)
  t.panels = s.panels ∧ t.composer.faces = s.composer.faces ∧
    (∀ k, Takes serving o k s → new = some { o with kitchen := k, dispatchPending := false, lateMark := false } ∧
      t.catering = without.changeLoad k o.qd (· + o.load) ∧ t.exceptions = s.exceptions) ∧
    ((∀ k, ¬ Takes serving o k s) → new = some { o with state := .cancelled } ∧ t.catering = without ∧
      t.exceptions = (raise .cateringDropped (.booking id) (some a) 0#32 s).exceptions)

/-- A DISPATCHED or ACCEPTED order keeps its kitchen; its ticket is renamed and handed over again. -/
def TicketRenamed (serving : Option KitchenNo) (name : Bytes) (a : RoomNo) (id : BookingId) (o : Order)
    (new : Option Order) (s t : State) : Prop :=
  new = some o ∧ t.catering.pages = s.catering.pages ∧
    (∀ k, t.catering.tickets.get k = if k ≠ o.kitchen then s.catering.tickets.get k else
      (s.catering.tickets.get k).map fun u => if u.booking = id then { u with roomName := name } else u) ∧
    (∀ c, t.composer.faces.get c =
      (let face := s.composer.faces.get c
       if (s.panels.get c).kitchen? = some o.kitchen then face.withOwn (pantryRows t o.kitchen) else face)) ∧
    (∀ u, (t.catering.tickets.get o.kitchen).find? (fun u => u.booking == id) = some u →
      TicketHanded o.kitchen u s t.panels) ∧
    ((∀ u, u ∈ s.catering.tickets.get o.kitchen → u.booking ≠ id) → t.panels = s.panels) ∧
    t.exceptions = (if serving = some o.kitchen then s.exceptions else
      (raise .cateringRedirect (.booking id) (some a) (BitVec.ofNat 32 a.val) s).exceptions)

/-- The order of a booking placed in an alternate is settled, by its state. -/
def OrderSettled (serving : Option KitchenNo) (name : Bytes) (a : RoomNo) (id : BookingId) (old new : Option Order)
    (s t : State) : Prop :=
  (old = none → OrderStands old new s t) ∧ ∀ o, old = some o →
    (o.state = .delivered ∨ o.state = .wasted ∨ o.state = .cancelled ∨
      (o.state = .placed ∧ serving = some o.kitchen) → OrderStands old new s t) ∧
    (o.state = .placed → serving ≠ some o.kitchen → OrderMoved serving a id o new s t) ∧
    (o.state = .dispatched ∨ o.state = .accepted → TicketRenamed serving name a id o new s t)

/-- A settlement changes the records, the catering, the panels, the faces and the exceptions alone, and of the records
the order of its own. -/
structure MoveSettled (r : Record) (new : Option Order) (s u : State) : Prop where
  frame : u = { s with store := u.store, catering := u.catering, panels := u.panels,
                       composer := { s.composer with faces := u.composer.faces }, exceptions := u.exceptions }
  store : ∃ records, u.store = { s.store with records := records }
  own : u.record? r.id = some { r with order := new }
  others : ∀ x, x ≠ r.id → u.record? x = s.record? x
  order : OrderSettled (s.rooms.get r.room).kitchen (s.rooms.get r.room).name r.room r.id r.order new s u

/-! ## Tickets renamed and handed over again (R117, R149) -/

theorem handTicket_eq (k : KitchenNo) (u : Ticket) (s : State) :
    handTicket k u s = { s with panels := (handTicket k u s).panels } := by
  unfold handTicket
  split
  · rfl
  · split <;> rfl

theorem ticketInFlight_eq (s : State) (a : Addr) (id : BookingId) : ticketInFlight s a id =
    s.loop.awaited.any fun w => !w.stale && w.carried == .ticket a id := by
  unfold ticketInFlight
  cases s.loop.awaited with
  | none => rfl
  | some w => exact congrArg (!w.stale && ·) (beq_eq_decide ..).symm

/-- What is handed over reads the tickets by their bookings alone. -/
theorem TicketHanded.congr {k : KitchenNo} {u : Ticket} {s v : State} {panels : Tab Panel 112}
    (h : TicketHanded k u v panels) (hk : v.kitchens = s.kitchens) (hp : v.panels = s.panels) (hl : v.loop = s.loop)
    (ht : hasTicket v = hasTicket s) : TicketHanded k u s panels := by
  unfold TicketHanded at *
  have ht' : ∀ (j : KitchenNo) (id : BookingId), ((v.catering.tickets.get j).any fun w => w.booking == id) =
      (s.catering.tickets.get j).any fun w => w.booking == id := fun j id => congrFun (congrFun ht j) id
  simpa only [hk, hp, hl, ht'] using h

theorem handTicket_handed (k : KitchenNo) (u : Ticket) (s : State) : TicketHanded k u s (handTicket k u s).panels := by
  unfold handTicket
  cases hp : (s.kitchens.get k).pantry with
  | none => exact ⟨fun _ => rfl, fun a ha => by simp [hp] at ha⟩
  | some a =>
    dsimp only
    by_cases hk : (s.panels.get a).kind = .pantry
    · rw [if_pos hk]
      refine ⟨fun h => absurd ⟨a, hp, hk⟩ h, fun c hc _ => ?_⟩
      obtain rfl : a = c := Option.some.inj (hp.symm.trans hc)
      simp only [Tab.upd_eq_set, joinTickets, ticketInFlight_eq]
      rfl
    · rw [if_neg hk]
      refine ⟨fun _ => rfl, fun c hc hk' => absurd hk' ?_⟩
      obtain rfl : a = c := Option.some.inj (hp.symm.trans hc)
      exact hk

/-- A ticket under a new room name. -/
def Ticket.renamed (id : BookingId) (name : Bytes) (u : Ticket) : Ticket :=
  if u.booking = id then { u with roomName := name } else u

theorem Ticket.renamed_booking (id : BookingId) (name : Bytes) (u : Ticket) :
    (u.renamed id name).booking = u.booking := by
  unfold Ticket.renamed
  split <;> rfl

/-- The ticket lists with the ticket renamed, and its kitchen's faces composed anew. -/
def withRenamed (k : KitchenNo) (id : BookingId) (name : Bytes) (s : State) : State :=
  changeTickets k (fun l => l.map (Ticket.renamed id name)) s

theorem renameTicket_eq (k : KitchenNo) (id : BookingId) (name : Bytes) (s : State) : renameTicket k id name s =
    match ((withRenamed k id name s).catering.tickets.get k).find? fun u => u.booking == id with
    | some u => handTicket k u (withRenamed k id name s)
    | none => withRenamed k id name s := by
  have hf : (fun l : List Ticket => l.map fun u => if u.booking == id then { u with roomName := name } else u) =
      fun l => l.map (Ticket.renamed id name) := by
    refine funext fun l => List.map_congr_left fun u _ => ?_
    simp [Ticket.renamed]
  unfold renameTicket
  rw [hf]
  rfl

theorem withRenamed_tickets (k : KitchenNo) (id : BookingId) (name : Bytes) (s : State) (j : KitchenNo) :
    (withRenamed k id name s).catering.tickets.get j = if j ≠ k then s.catering.tickets.get j else
      (s.catering.tickets.get j).map (Ticket.renamed id name) := by
  refine (Tab.get_upd ..).trans ?_
  by_cases hj : j = k <;> simp [hj]

theorem withRenamed_hasTicket (k : KitchenNo) (id : BookingId) (name : Bytes) (s : State) :
    hasTicket (withRenamed k id name s) = hasTicket s := by
  funext j x
  rw [hasTicket, withRenamed_tickets]
  split
  · rfl
  · rw [List.any_map]
    exact congrArg (List.any _) (funext fun u => by simp [Ticket.renamed_booking])

/-- A ticket renamed changes the panels besides its list and the faces. -/
theorem renameTicket_frame (k : KitchenNo) (id : BookingId) (name : Bytes) (s : State) :
    renameTicket k id name s = { withRenamed k id name s with panels := (renameTicket k id name s).panels } := by
  rw [renameTicket_eq]
  split
  · exact handTicket_eq ..
  · rfl

/-- The ticket renamed is handed over, where there is one. -/
theorem renameTicket_handed {k : KitchenNo} {id : BookingId} {name : Bytes} {s : State} {u : Ticket}
    (h : ((withRenamed k id name s).catering.tickets.get k).find? (fun u => u.booking == id) = some u) :
    TicketHanded k u s (renameTicket k id name s).panels := by
  rw [renameTicket_eq, h]
  exact (handTicket_handed ..).congr rfl rfl rfl (withRenamed_hasTicket ..)

/-- Where the booking has no ticket there, nothing is handed over. -/
theorem renameTicket_panels {k : KitchenNo} {id : BookingId} {name : Bytes} {s : State}
    (h : ∀ u, u ∈ s.catering.tickets.get k → u.booking ≠ id) :
    (renameTicket k id name s).panels = s.panels := by
  have hnone : ((withRenamed k id name s).catering.tickets.get k).find? (fun u => u.booking == id) = none := by
    rw [withRenamed_tickets, if_neg (by simp), List.find?_eq_none]
    intro u hu
    obtain ⟨v, hv, rfl⟩ := List.mem_map.1 hu
    simpa [Ticket.renamed_booking] using h v hv
  rw [renameTicket_eq, hnone]
  rfl

/-! ## The settlement, by the order's state (R117) -/

theorem settleMove_none {r : Record} {s : State} (h : s.record? r.id = some r) (ho : r.order = none) (a : RoomNo) :
    settleMove r.id a s = s := by
  simp [settleMove, h, ho]

theorem settleMove_stands {r : Record} {o : Order} {s : State} (h : s.record? r.id = some r) (ho : r.order = some o)
    {a : RoomNo} (hs : o.state = .delivered ∨ o.state = .wasted ∨ o.state = .cancelled ∨
      (o.state = .placed ∧ (s.rooms.get a).kitchen = some o.kitchen)) : settleMove r.id a s = s := by
  obtain hs | hs | hs | ⟨hs, hk⟩ := hs
  · simp [settleMove, h, ho, hs]
  · simp [settleMove, h, ho, hs]
  · simp [settleMove, h, ho, hs]
  · simp [settleMove, h, ho, hs, hk]

theorem settleMove_served {r : Record} {o : Order} {s : State} (h : s.record? r.id = some r) (ho : r.order = some o)
    (a : RoomNo) (hs : o.state = .dispatched ∨ o.state = .accepted) : settleMove r.id a s =
      (let v := renameTicket o.kitchen r.id (s.rooms.get a).name s
       if (s.rooms.get a).kitchen = some o.kitchen then v else raiseFor .cateringRedirect r a.val v) := by
  obtain hs | hs := hs <;> simp [settleMove, h, ho, hs]

/-- The order goes to a kitchen that takes it. -/
theorem settleMove_taken {r : Record} {o : Order} {s : State} {k : KitchenNo} (h : s.record? r.id = some r)
    (ho : r.order = some o) {a : RoomNo} (hs : o.state = .placed) (hk : (s.rooms.get a).kitchen = some k)
    (hne : k ≠ o.kitchen) (ht : Takes (some k) o k s) : settleMove r.id a s =
      addLoad k o.qd o.load (updOrder r.id
        (fun o => { o with kitchen := k, dispatchPending := false, lateMark := false })
        (subtractLoad o.kitchen o.qd o.load s)) := by
  simp [settleMove, h, ho, hs, hk, hne, (kitchenTakes_subtractLoad hne s).2 ht]

/-- It is CANCELLED where none takes it. -/
theorem settleMove_dropped {r : Record} {o : Order} {s : State} (h : s.record? r.id = some r) (ho : r.order = some o)
    {a : RoomNo} (hs : o.state = .placed) (hne : (s.rooms.get a).kitchen ≠ some o.kitchen)
    (ht : ∀ k, ¬ Takes (s.rooms.get a).kitchen o k s) : settleMove r.id a s =
      raiseFor .cateringDropped r 0 (updOrder r.id (fun o => { o with state := .cancelled })
        (subtractLoad o.kitchen o.qd o.load s)) := by
  cases hk : (s.rooms.get a).kitchen with
  | none => simp [settleMove, h, ho, hs, hk]
  | some k =>
    rw [hk] at hne ht
    have hne' : k ≠ o.kitchen := fun h => hne (by rw [h])
    have ht' := mt (kitchenTakes_subtractLoad hne' s).1 (ht k)
    simp [settleMove, h, ho, hs, hk, hne', ht']

/-! ## The cases of a settled order -/

theorem OrderSettled.of_stands {serving : Option KitchenNo} {name : Bytes} {a : RoomNo} {id : BookingId}
    {old : Option Order} {s : State} (h : ∀ o, old = some o → o.state = .delivered ∨ o.state = .wasted ∨
      o.state = .cancelled ∨ (o.state = .placed ∧ serving = some o.kitchen)) :
    OrderSettled serving name a id old old s s := by
  have hstands : OrderStands old old s s := ⟨rfl, rfl, rfl, rfl, rfl⟩
  refine ⟨fun _ => hstands, fun o ho => ⟨fun _ => hstands, fun hp hk => ?_, fun hs => ?_⟩⟩
  · have := h o ho
    simp_all
  · have := h o ho
    rcases hs with hs | hs <;> simp [hs] at this

theorem OrderSettled.of_moved {serving : Option KitchenNo} {name : Bytes} {a : RoomNo} {id : BookingId}
    {o : Order} {new : Option Order} {s t : State} (hs : o.state = .placed) (hk : serving ≠ some o.kitchen)
    (h : OrderMoved serving a id o new s t) : OrderSettled serving name a id (some o) new s t := by
  refine ⟨nofun, fun o' ho => ?_⟩
  obtain rfl : o = o' := Option.some.inj ho
  exact ⟨fun h => by simp [hs, hk] at h, fun _ _ => h, fun h => by simp [hs] at h⟩

theorem OrderSettled.of_renamed {serving : Option KitchenNo} {name : Bytes} {a : RoomNo} {id : BookingId}
    {o : Order} {new : Option Order} {s t : State} (hs : o.state = .dispatched ∨ o.state = .accepted)
    (h : TicketRenamed serving name a id o new s t) : OrderSettled serving name a id (some o) new s t := by
  refine ⟨nofun, fun o' ho => ?_⟩
  obtain rfl : o = o' := Option.some.inj ho
  refine ⟨fun h => ?_, fun h => ?_, fun _ => h⟩ <;> rcases hs with hs | hs <;> simp [hs] at h

/-- A settlement that changes nothing. -/
theorem MoveSettled.stands {r : Record} {s : State} (h : s.record? r.id = some r)
    (hs : ∀ o, r.order = some o → o.state = .delivered ∨ o.state = .wasted ∨ o.state = .cancelled ∨
      (o.state = .placed ∧ (s.rooms.get r.room).kitchen = some o.kitchen)) : MoveSettled r r.order s s :=
  ⟨rfl, ⟨_, rfl⟩, h, fun _ _ => rfl, .of_stands hs⟩

/-- A DISPATCHED or ACCEPTED order keeps its kitchen. -/
theorem settleMove_settled_served {r : Record} {o : Order} {s : State} (h : s.record? r.id = some r)
    (ho : r.order = some o) (hs : o.state = .dispatched ∨ o.state = .accepted) :
    MoveSettled r r.order s (settleMove r.id r.room s) := by
  have hcut := renameTicket_frame o.kitchen r.id (s.rooms.get r.room).name s
  have hhanded := fun u => renameTicket_handed (k := o.kitchen) (id := r.id) (name := (s.rooms.get r.room).name)
    (s := s) (u := u)
  have hpanels := renameTicket_panels (k := o.kitchen) (id := r.id) (name := (s.rooms.get r.room).name) (s := s)
  rw [settleMove_served h ho _ hs]
  dsimp only
  generalize renameTicket o.kitchen r.id (s.rooms.get r.room).name s = v at hcut hhanded hpanels
  have hfaces : ∀ c, v.composer.faces.get c = if (s.panels.get c).kitchen? = some o.kitchen then
      (s.composer.faces.get c).withOwn (pantryRows v o.kitchen) else s.composer.faces.get c := by
    intro c
    rw [hcut]
    exact kitchenChanged_face ..
  have hmoved : ∀ e, e = (if (s.rooms.get r.room).kitchen = some o.kitchen then s.exceptions else
      (raise .cateringRedirect (.booking r.id) (some r.room) (BitVec.ofNat 32 r.room.val) s).exceptions) →
      MoveSettled r r.order s { v with exceptions := e } := by
    intro e he
    have hstore : v.store = s.store := by rw [hcut]; rfl
    have hrecord : ∀ x, v.record? x = s.record? x := fun x => congrArg (fun st => st.find x) hstore
    have htickets : v.catering.tickets = (withRenamed o.kitchen r.id (s.rooms.get r.room).name s).catering.tickets := by
      rw [hcut]
    refine ⟨?_, ⟨s.store.records, hstore⟩, (hrecord r.id).trans h, fun x _ => hrecord x, ?_⟩
    · rw [hcut]
      rfl
    · refine ho.symm ▸ .of_renamed hs ⟨rfl, ?_, fun k => ?_, hfaces, fun u hu => hhanded u ?_, hpanels, he⟩
      · rw [hcut]
        rfl
      · exact (congrArg (fun l => l.get k) htickets).trans (withRenamed_tickets ..)
      · rw [← htickets]
        exact hu
  split
  next hk =>
    have hexceptions : v.exceptions = s.exceptions := by rw [hcut]; rfl
    exact hmoved v.exceptions (by rw [if_pos hk, hexceptions])
  next hk =>
    refine hmoved (raiseFor .cateringRedirect r r.room.val v).exceptions ?_
    rw [if_neg hk]
    exact raise_exceptions_congr _ _ _ _ (by rw [hcut]; rfl) (by rw [hcut]; rfl) (by rw [hcut]; rfl) rfl

/-- A PLACED order goes to the alternate's kitchen, or is CANCELLED. -/
theorem settleMove_settled_moved {r : Record} {o : Order} {s : State} (h : s.record? r.id = some r)
    (ho : r.order = some o) (hs : o.state = .placed) (hk : (s.rooms.get r.room).kitchen ≠ some o.kitchen) :
    ∃ new, MoveSettled r new s (settleMove r.id r.room s) := by
  by_cases ht : ∃ k, Takes (s.rooms.get r.room).kitchen o k s
  · obtain ⟨k, ht⟩ := ht
    have hserving := ht.1
    have hne : k ≠ o.kitchen := fun hc => hk (by rw [hserving, hc])
    refine ⟨some { o with kitchen := k, dispatchPending := false, lateMark := false }, ?_⟩
    rw [settleMove_taken h ho hs hserving hne (hserving ▸ ht)]
    refine ⟨rfl, ⟨_, rfl⟩, ?_, fun x hx => updOrder_of_ne hx _ s, ?_⟩
    · refine (updOrder_self h _).trans ?_
      rw [ho]
      rfl
    · rw [ho]
      refine .of_moved hs hk ⟨rfl, rfl, fun j hj => ?_, fun hn => absurd ht (hn k)⟩
      obtain rfl : k = j := Option.some.inj (hserving.symm.trans hj.1)
      exact ⟨rfl, rfl, rfl⟩
  · have ht' : ∀ k, ¬ Takes (s.rooms.get r.room).kitchen o k s := fun k hc => ht ⟨k, hc⟩
    refine ⟨some { o with state := .cancelled }, ?_⟩
    rw [settleMove_dropped h ho hs hk ht']
    refine ⟨rfl, ⟨_, rfl⟩, ?_, fun x hx => updOrder_of_ne hx _ s, ?_⟩
    · refine (updOrder_self h _).trans ?_
      rw [ho]
      rfl
    · rw [ho]
      exact .of_moved hs hk ⟨rfl, rfl, fun k hc => absurd hc (ht' k), fun _ => ⟨rfl, rfl, rfl⟩⟩

/-- The order of a booking placed in an alternate is settled (R117). -/
theorem settleMove_settled {r : Record} {s : State} (h : s.record? r.id = some r) :
    ∃ new, MoveSettled r new s (settleMove r.id r.room s) := by
  cases ho : r.order with
  | none =>
    rw [settleMove_none h ho]
    exact ⟨_, .stands h (by simp [ho])⟩
  | some o =>
    have hstands (hs : o.state = .delivered ∨ o.state = .wasted ∨ o.state = .cancelled ∨
        (o.state = .placed ∧ (s.rooms.get r.room).kitchen = some o.kitchen)) :
        ∃ new, MoveSettled r new s (settleMove r.id r.room s) := by
      rw [settleMove_stands h ho hs]
      exact ⟨_, .stands h fun o' ho' => by rwa [← Option.some.inj (ho.symm.trans ho')]⟩
    cases hs : o.state with
    | placed =>
      by_cases hk : (s.rooms.get r.room).kitchen = some o.kitchen
      · exact hstands (by simp [hs, hk])
      · exact settleMove_settled_moved h ho hs hk
    | dispatched => exact ⟨_, settleMove_settled_served h ho (.inl hs)⟩
    | accepted => exact ⟨_, settleMove_settled_served h ho (.inr hs)⟩
    | delivered | wasted | cancelled => exact hstands (by simp [hs])

end Sys2Proof.Machine
end

section
/-!
SUPPORT. A popped booking placed in the first alternate that takes it, or released where none does (R76 to R81).
-/

namespace Sys2Proof.Machine

/-! ## The pop (R18, R76) -/

/-- The origin room's alternates have been read, so no write of them is outstanding (R18). -/
def popped (m : MoveFrame) (s : State) : State :=
  { s with rooms := s.rooms.set m.origin { s.rooms.get m.origin with altsWritten := false } }

/-- A pass over the alternates of a frame's origin room, from the rotation pointer on (R77, R78). -/
def passBegun (p : Pass) (m : MoveFrame) (s : State) : Trial :=
  { frame := m, alternates := (s.rooms.get m.origin).alternates, pointer := (s.rooms.get m.origin).pointer,
    pass := p, tried := 0 }

theorem moveStep_pop {m : MoveFrame} {rest : List MoveFrame} {f : Flight} {s : State} (hf : s.engine.inFlight = some f)
    (hp : f.phase = .serve) (hs : f.stack = m :: rest) :
    moveStep s = tryingAt { f with stack := rest } (passBegun .freeSpan m s) (popped m s) := by
  simp only [moveStep, hf, hp, hs]
  rfl

theorem popped_get_ne {m : MoveFrame} {a : RoomNo} (h : a ≠ m.origin) (s : State) :
    (popped m s).rooms.get a = s.rooms.get a := Tab.get_set_ne _ _ h

theorem popped_policy (m : MoveFrame) (s : State) (a : RoomNo) :
    ((popped m s).rooms.get a).policy = (s.rooms.get a).policy := by
  by_cases h : a = m.origin
  · subst h
    simp [popped]
  · rw [popped_get_ne h]

/-- What takes the booking is not the origin, so the pop leaves it as it was. -/
theorem fits_popped (m : MoveFrame) (s : State) (b : Record) (a : RoomNo) :
    Fits (popped m s) m.origin b a ↔ Fits s m.origin b a := by
  by_cases h : a = m.origin
  · simp [Fits, h]
  · simp only [Fits, spanFor, popped_get_ne h]
    rfl

/-- The alternate that is a number of positions past the rotation pointer (R18). -/
def alternateFrom (m : MoveFrame) (s : State) (j : Nat) : Option RoomNo :=
  (s.rooms.get m.origin).alternates[
    ((s.rooms.get m.origin).pointer + j) % (s.rooms.get m.origin).alternates.length]?

/-- There is one at every position of a pass. -/
theorem alternateFrom_eq_some {m : MoveFrame} {s : State} {j : Nat} (h : j < (s.rooms.get m.origin).alternates.length) :
    ∃ a, alternateFrom m s j = some a ∧ a ∈ (s.rooms.get m.origin).alternates :=
  have hlt := Nat.mod_lt ((s.rooms.get m.origin).pointer + j) (Nat.zero_lt_of_lt h)
  ⟨_, List.getElem?_eq_getElem hlt, List.getElem_mem hlt⟩

theorem passBegun_alternate? {p : Pass} {m : MoveFrame} {s : State} {j : Nat}
    (h : j < (s.rooms.get m.origin).alternates.length) :
    ((passBegun p m s).at j).alternate? = alternateFrom m s j := if_pos h

/-- The pass ends with the position past the last. -/
theorem passBegun_ended (p : Pass) (m : MoveFrame) (s : State) :
    ((passBegun p m s).at (s.rooms.get m.origin).alternates.length).alternate? = none := if_neg (lt_irrefl _)

/-! ## The placement (R79) -/

/-- A moving booking stands in an alternate, its order settled: what the placement leaves of each block but the rooms
and the engine. -/
structure MovePlaced (a : RoomNo) (sp : Span) (b : Record) (new : Option Order) (s u : State) : Prop where
  frame : u = { s with store := u.store, catering := u.catering, composer := u.composer, panels := u.panels,
                       exceptions := u.exceptions }
  own : u.record? b.id = some { b.placedIn a sp (placedState s a b.qs) with order := new }.regrained
  others : ∀ x, x ≠ b.id → u.record? x = s.record? x
  inserted : InsertedInto a { b with ss := sp.first } s u
  free : u.store.free = s.store.free
  retireList : u.store.retireList = s.store.retireList
  marks : u.composer.roomMarks = s.composer.roomMarks.set a true
  order : OrderSettled (s.rooms.get a).kitchen (s.rooms.get a).name a b.id b.order new s u

/-- A replacement is a change of the record of its id. -/
theorem putRecord_eq_updRecord (r : Record) (s : State) :
    putRecord r s = updRecord r.id (fun q => { r with id := q.id }) s := by
  unfold putRecord updRecord
  have hf : (fun q : Record => if q.id == r.id then r else q) =
      fun q => if q.id == r.id then { r with id := q.id } else q := by
    funext q
    split
    next h => rw [eq_of_beq h]
    next => rfl
  rw [hf]

theorem putRecord_self {r b : Record} {s : State} (h : s.record? r.id = some b) :
    (putRecord r s).record? r.id = some r := by
  rw [putRecord_eq_updRecord]
  refine (updRecord_self r.id (fun q => { r with id := q.id }) (fun _ => rfl) s).trans ?_
  rw [h, Option.map_some, record?_id h]

theorem putRecord_of_ne {r : Record} {x : BookingId} (h : x ≠ r.id) (s : State) :
    (putRecord r s).record? x = s.record? x := by
  rw [putRecord_eq_updRecord]
  exact updRecord_of_ne r.id x h (fun q => { r with id := q.id }) (fun _ => rfl) s

/-- An insertion is judged by the span starts of the records it finds. -/
theorem InsertedInto.congr {q : RoomNo} {b c : Record} {s t s' t' : State} (h : InsertedInto q b s t)
    (hid : c.id = b.id) (hss : c.ss = b.ss) (hs : s'.store.lists = s.store.lists) (ht : t'.store.lists = t.store.lists)
    (hr : ∀ x, (t'.record? x).map (·.ss) = (t.record? x).map (·.ss)) : InsertedInto q c s' t' := by
  obtain ⟨before, after, hl, hi, hb, ha⟩ := h
  have hfind : ∀ x d, t'.record? x = some d → ∃ d', t.record? x = some d' ∧ d'.ss = d.ss := by
    intro x d hd
    have := hr x
    rw [hd] at this
    simpa using this.symm
  refine ⟨before, after, hs ▸ hl, ?_, fun x hx d hd => ?_, fun x hx => ?_⟩
  · rw [ht, hi, hs, hid]
  · obtain ⟨d', hd', hss'⟩ := hfind x d hd
    rw [hss, ← hss']
    exact hb x hx d' hd'
  · obtain ⟨d, hd, hlt⟩ := ha x hx
    have := hr x
    rw [hd] at this
    obtain ⟨d', hd', hss'⟩ := Option.map_eq_some_iff.1 this
    exact ⟨d', hd', by rw [hss, hss']; exact hlt⟩

theorem placeMove_placed {t : Trial} {sp : Span} {a : RoomNo} {b : Record} {s : State} (f : Flight)
    (ha : t.alternate? = some a) (hb : s.record? t.frame.booking = some b)
    (hopen : (s.rooms.get a).state ≠ .outOfService) : ∃ new u, MovePlaced a sp b new s u ∧ placeMove t sp f s =
      setFlight { f with phase := .serve, figures := { f.figures with elsewhere := f.figures.elsewhere + 1 } }
        (advancePointer t u) := by
  have hid : t.frame.booking = b.id := (record?_id hb).symm
  obtain ⟨r, hr⟩ : ∃ r, r = b.placedIn a sp (placedState s a b.qs) := ⟨_, rfl⟩
  have hrid : r.id = b.id := by rw [hr]; rfl
  have hroom : r.room = a := by rw [hr]; rfl
  obtain ⟨v, hv⟩ : ∃ v, v = insertInto a r (putRecord r s) := ⟨_, rfl⟩
  have hown : v.record? r.id = some r := by
    rw [hv]
    exact putRecord_self (b := b) (by rw [hrid, ← hid, hb])
  have hothers : ∀ x, x ≠ b.id → v.record? x = s.record? x := fun x hx => by
    rw [hv]
    exact putRecord_of_ne (hrid ▸ hx) s
  obtain ⟨new, hsettled⟩ := settleMove_settled hown
  have hplaced : placeMove t sp f s = setFlight { f with
      phase := .serve, figures := { f.figures with elsewhere := f.figures.elsewhere + 1 } }
        (advancePointer t (recomputeRetire b.id (settleMove r.id r.room v))) := by
    have hinsert : insertRecord r (putRecord r s) = insertInto a r (putRecord r s) := by
      rw [insertRecord, hroom]
      exact placeInto_of_open r hopen
    rw [placeMove, ha, hb]
    dsimp only
    rw [← hr, hinsert, ← hv, hrid, hroom]
  generalize settleMove r.id r.room v = u at hsettled hplaced
  obtain ⟨records, hstore⟩ := hsettled.store
  have hrec : ∀ x, x ≠ b.id → (recomputeRetire b.id u).record? x = v.record? x := fun x hx =>
    (updRecord_of_ne b.id x hx Record.regrained (fun _ => rfl) u).trans (hsettled.others x (hrid ▸ hx))
  have hrecown : (recomputeRetire b.id u).record? b.id = some { r with order := new }.regrained := by
    refine (updRecord_self b.id Record.regrained (fun _ => rfl) u).trans ?_
    rw [← hrid, hsettled.own]
    rfl
  refine ⟨new, recomputeRetire b.id u, ?_, hplaced⟩
  constructor
  case frame =>
    have hv' : v = { s with store := v.store, composer := v.composer } := by rw [hv]; rfl
    have hu : u = { v with store := u.store, catering := u.catering, composer := u.composer, panels := u.panels,
                           exceptions := u.exceptions } := hsettled.frame.trans (by rw [hsettled.frame])
    exact congrArg (recomputeRetire b.id) (hu.trans (congrArg (fun w : State => { w with
      store := u.store, catering := u.catering, composer := u.composer, panels := u.panels,
      exceptions := u.exceptions }) hv'))
  case own => rw [← hr]; exact hrecown
  case others => exact fun x hx => (hrec x hx).trans (hothers x hx)
  case inserted =>
    have hins : InsertedInto a r (putRecord r s) v := hv ▸ insertInto_inserted ..
    have hlists : u.store.lists = v.store.lists := by rw [hstore]
    refine hins.congr hrid.symm (by rw [hr]; rfl) rfl hlists fun x => ?_
    by_cases hx : x = b.id
    · subst hx
      rw [hrecown, ← hrid, hown]
      rfl
    · rw [hrec x hx]
  case free =>
    exact (congrArg (fun st : Store => st.free) hstore).trans (by rw [hv]; rfl)
  case retireList =>
    exact (congrArg (fun st : Store => st.retireList) hstore).trans (by rw [hv]; rfl)
  case marks =>
    have hcomposer : u.composer = { v.composer with faces := u.composer.faces } :=
      congrArg State.composer hsettled.frame
    refine (congrArg Composer.roomMarks hcomposer).trans ?_
    rw [hv]
    rfl
  case order =>
    have horder := hsettled.order
    rw [hroom, hrid] at horder
    subst hv
    have hold : r.order = b.order := by rw [hr]; rfl
    rw [hold] at horder
    exact horder

end Sys2Proof.Machine
end

section
/-!
SUPPORT. The readings of a MOVE_FRAME_POP followed to their end (R76 to R80), and the statement they settle.
-/

namespace Sys2Proof.Machine

/-! ## MOVE_FRAME_POP (R76 to R80) -/

theorem setFlight_engine {s u : State} {x : Option Flight} (f : Flight)
    (h : u.engine = { s.engine with inFlight := x }) :
    (setFlight f u).engine = { s.engine with inFlight := some f } := by
  simp [setFlight, h]

/-- The occurrence for an order that goes to waste changes the Exception Unit alone. -/
theorem wasteRaised_eq (b : Record) (s : State) :
    wasteRaised b s = { s with exceptions := (wasteRaised b s).exceptions } := by
  unfold wasteRaised
  split
  · split <;> rfl
  · rfl

theorem exec_moveFramePop {f : Flight} {s : State} (h : AtWork s f) (work : Nat) :
    exec (.moveFramePop work) s = .next (moveSteps work s) :=
  congrArg Host.Outcome.next (engineStep_atWork h (moveSteps work))

/-- A pop begins a trial at the first position. -/
theorem moveSteps_pop {m : MoveFrame} {rest : List MoveFrame} {f : Flight} {s : State}
    (hf : s.engine.inFlight = some f) (hp : f.phase = .serve) (hs : f.stack = m :: rest) (work : Nat) :
    moveSteps (work + 1) s =
      moveSteps work (tryingAt { f with stack := rest } ((passBegun .freeSpan m s).at 0) (popped m s)) := by
  have hpop := moveStep_pop hf hp hs
  rw [moveSteps_trying (by rw [hpop]; rfl), hpop]
  rfl

/-- The positions before the first that takes the booking, and that position itself. -/
theorem moveSteps_places {m : MoveFrame} {rest : List MoveFrame} {b : Record} {f : Flight} {s : State}
    (hf : s.engine.inFlight = some f) (hp : f.phase = .serve) (hs : f.stack = m :: rest)
    (hb : s.record? m.booking = some b) {i work : Nat} {a : RoomNo}
    (hi : i < (s.rooms.get m.origin).alternates.length)
    (ha : alternateFrom m s i = some a) (hfit : Fits s m.origin b a)
    (hnot : ∀ j a', j < i → alternateFrom m s j = some a' → ¬ Fits s m.origin b a') (hwork : i + 3 ≤ work) :
    ∃ g new u, MovePlaced a (spanFor s a b) b new (setFlight g (popped m s)) u ∧ moveSteps work s =
      setFlight { f with
        phase := .serve, figures := { f.figures with elsewhere := f.figures.elsewhere + 1 }, stack := rest }
        (advancePointer ((passBegun .freeSpan m s).at i) u) := by
  obtain ⟨hservice, -, horigin, -⟩ := id hfit
  obtain ⟨w, rfl⟩ : ∃ w, work = w + 1 + 1 + i + 1 := ⟨work - (i + 3), by omega⟩
  have hP : ((passBegun .freeSpan m s).at i).alternate? = some a := (passBegun_alternate? hi).trans ha
  have honward := moveSteps_onward (f := { f with stack := rest }) (t := (passBegun .freeSpan m s).at 0)
    (s := popped m s) hb i (w + 1 + 1) fun j hj => by
      obtain ⟨c, hc, -⟩ := alternateFrom_eq_some (m := m) (s := s) (hj.trans hi)
      refine ⟨c, ?_, fun h => hnot j c hj hc ((fits_popped ..).1 h), nofun⟩
      rw [← hc, ← passBegun_alternate? (p := .freeSpan) (hj.trans hi)]
      exact congrArg (fun k => ((passBegun .freeSpan m s).at k).alternate?) (Nat.zero_add j)
  have hat : ((passBegun .freeSpan m s).at 0).at (((passBegun .freeSpan m s).at 0).tried + i) =
      (passBegun .freeSpan m s).at i := congrArg (passBegun .freeSpan m s).at (Nat.zero_add i)
  rw [hat] at honward
  have hstep := moveStep_fits (f := { f with stack := rest }) hP (s := popped m s) hb ((fits_popped ..).2 hfit)
  have hspan : spanFor (popped m s) a b = spanFor s a b := by
    rw [spanFor, spanFor, popped_get_ne horigin]
  rw [hspan] at hstep
  obtain ⟨p, hphase⟩ : ∃ p, p = Phase.placeMoving ((passBegun .freeSpan m s).at i) (spanFor s a b) := ⟨_, rfl⟩
  rw [← hphase] at hstep
  have hopen : ((setFlight { f with stack := rest, phase := p } (popped m s)).rooms.get a).state ≠ .outOfService := by
    change ((popped m s).rooms.get a).state ≠ .outOfService
    rw [popped_get_ne horigin, hservice]
    decide
  have hdone : moveStep (setFlight { f with stack := rest, phase := p } (popped m s)) = placeMove
      ((passBegun .freeSpan m s).at i) (spanFor s a b) { f with stack := rest, phase := p }
      (setFlight { f with stack := rest, phase := p } (popped m s)) := by
    rw [hphase]
    rfl
  obtain ⟨new, u, hplaced, hu⟩ := placeMove_placed
    (s := setFlight { f with stack := rest, phase := p } (popped m s)) (sp := spanFor s a b)
    { f with stack := rest, phase := p } hP hb hopen
  refine ⟨_, new, u, hplaced, ?_⟩
  rw [moveSteps_pop hf hp hs, honward, moveSteps_trying (by rw [hstep, hphase]; rfl), hstep,
    moveSteps_done (by rw [hdone, hu]; rfl), hdone, hu]

/-- The pointer of the origin room advances past the position taken (R18, R79). -/
theorem advancePointer_rooms {m : MoveFrame} {i : Nat} {s u : State} (h : u.rooms = (popped m s).rooms) :
    (advancePointer ((passBegun .freeSpan m s).at i) u).rooms = s.rooms.set m.origin { s.rooms.get m.origin with
      altsWritten := false
      pointer := (((s.rooms.get m.origin).pointer + i) % (s.rooms.get m.origin).alternates.length + 1) %
        (s.rooms.get m.origin).alternates.length } := by
  have hframe : ((passBegun .freeSpan m s).at i).frame = m := rfl
  simp only [advancePointer, h, hframe, popped, Tab.upd_set]
  rfl

/-! ## The release where nothing takes the booking (R78, R80) -/

/-- The positions of one pass, none of which takes the booking. -/
theorem moveSteps_pass {m : MoveFrame} {b : Record} {f : Flight} {s : State} (hb : s.record? m.booking = some b)
    (p : Pass) (h : ∀ a, a ∈ (s.rooms.get m.origin).alternates →
      ¬ Fits s m.origin b a ∧ (s.rooms.get a).policy = .noDisplace) (work : Nat) :
    moveSteps (work + (s.rooms.get m.origin).alternates.length)
        (tryingAt f (passBegun p m s) (popped m s)) =
      moveSteps work (tryingAt f ((passBegun p m s).at (s.rooms.get m.origin).alternates.length) (popped m s)) := by
  have honward := moveSteps_onward (f := f) (t := passBegun p m s) (s := popped m s) hb
    (s.rooms.get m.origin).alternates.length work fun j hj => by
      obtain ⟨c, hc, hmem⟩ := alternateFrom_eq_some hj
      obtain ⟨hfit, hpolicy⟩ := h c hmem
      refine ⟨c, ?_, fun hc => hfit ((fits_popped ..).1 hc), fun _ => (popped_policy ..).trans hpolicy⟩
      rw [← hc, ← passBegun_alternate? (p := p) hj]
      exact congrArg (fun k => ((passBegun p m s).at k).alternate?) (Nat.zero_add j)
  rw [honward]
  exact congrArg (fun k => moveSteps work (tryingAt f ((passBegun p m s).at k) (popped m s))) (Nat.zero_add _)

theorem moveSteps_unplaces {m : MoveFrame} {rest : List MoveFrame} {b : Record} {f : Flight} {s : State}
    (hf : s.engine.inFlight = some f) (hp : f.phase = .serve) (hs : f.stack = m :: rest)
    (hb : s.record? m.booking = some b) {work : Nat}
    (h : ∀ a, a ∈ (s.rooms.get m.origin).alternates →
      ¬ Fits s m.origin b a ∧ (s.rooms.get a).policy = .noDisplace)
    (hwork : 2 * (s.rooms.get m.origin).alternates.length + 3 ≤ work) : ∃ g, moveSteps work s =
      setFlight { f with phase := .serve, figures := f.figures.lose, stack := rest }
        (releaseFrame .unplaced m (setFlight g (popped m s))) := by
  obtain ⟨w, hw⟩ : ∃ w, work = w + 1 + (s.rooms.get m.origin).alternates.length + 1 +
    (s.rooms.get m.origin).alternates.length + 1 :=
    ⟨work - (2 * (s.rooms.get m.origin).alternates.length + 3), by omega⟩
  have hfirst : moveSteps work s = moveSteps (w + 1 + (s.rooms.get m.origin).alternates.length + 1)
      (tryingAt { f with stack := rest } ((passBegun .freeSpan m s).at (s.rooms.get m.origin).alternates.length)
        (popped m s)) := by
    rw [hw, moveSteps_pop hf hp hs]
    exact moveSteps_pass hb .freeSpan h _
  have hlast : ∀ t n, t.frame = m → t.alternate? = none → (t.pass = .displacing ∨ t.alternates = []) →
      ∃ g, moveSteps (n + 1) (tryingAt { f with stack := rest } t (popped m s)) =
        setFlight { f with phase := .serve, figures := f.figures.lose, stack := rest }
          (releaseFrame .unplaced m (setFlight g (popped m s))) := by
    intro t n hframe ht hpass
    have hstep := moveStep_unplaced (f := { f with stack := rest }) (s := popped m s) ht hpass
    rw [moveSteps_done (by rw [hstep]; rfl), hstep, hframe]
    exact ⟨_, rfl⟩
  rw [hfirst]
  by_cases hn : (s.rooms.get m.origin).alternates = []
  · exact hlast _ _ rfl (passBegun_ended .freeSpan m s) (.inr hn)
  · have hpassed := moveStep_passed (f := { f with stack := rest }) (s := popped m s)
      (passBegun_ended .freeSpan m s) rfl hn
    have hsecond : moveSteps (w + 1 + (s.rooms.get m.origin).alternates.length + 1)
        (tryingAt { f with stack := rest } ((passBegun .freeSpan m s).at (s.rooms.get m.origin).alternates.length)
          (popped m s)) =
        moveSteps (w + 1) (tryingAt { f with stack := rest }
          ((passBegun .displacing m s).at (s.rooms.get m.origin).alternates.length) (popped m s)) := by
      refine Eq.trans ?_ (moveSteps_pass hb .displacing h _)
      refine (moveSteps_trying (congrArg inTrial hpassed)).trans ?_
      exact congrArg _ hpassed
    rw [hsecond]
    exact hlast _ _ rfl (passBegun_ended .displacing m s) (.inl rfl)

/-- A release reads the rooms for the lists of a joined booking alone. -/
theorem released_popped {why : ReleaseReason} {b : Record} {g : Flight} {m : MoveFrame} {s u : State}
    (hj : b.joined = false) (h : Released why b (setFlight g (popped m s)) u) : Released why b s u := by
  have hlists : listRooms (setFlight g (popped m s)) b = listRooms s b := by simp [listRooms, hj]
  unfold Released at *
  rw [hlists] at h
  exact h

/-- Settles O44. The readings of one command are followed to the position that takes the booking, or past both passes;
what its placement or its release leaves is then that of `MovePlaced` or of `Released`. -/
theorem movingBookingTakesTheFirstFreeAlternate : Obligations.MovingBookingTakesTheFirstFreeAlternate := by
  intro m rest b work f s hw hp hs hb hj
  refine ⟨fun i a hi ha hfit hnot hwork => ?placed, fun hnone hwork => ?released⟩
  case placed =>
    obtain ⟨-, hflight, -⟩ := id hw
    obtain ⟨-, -, horigin, -⟩ := id hfit
    obtain ⟨g, new, u, hplaced, hu⟩ := moveSteps_places hflight hp hs hb hi ha hfit hnot hwork
    have hget : (popped m s).rooms.get a = s.rooms.get a := popped_get_ne horigin s
    have hrooms : u.rooms = (popped m s).rooms := by rw [hplaced.frame]; rfl
    have hengine : u.engine = { s.engine with inFlight := some g } := by rw [hplaced.frame]; rfl
    have horder : OrderSettled (s.rooms.get a).kitchen (s.rooms.get a).name a b.id b.order new s u := by
      have h := hplaced.order
      have hk : ((setFlight g (popped m s)).rooms.get a) = s.rooms.get a := hget
      rw [hk] at h
      exact h
    refine ⟨_, new, (exec_moveFramePop hw work).trans (congrArg _ hu), ?_, advancePointer_rooms hrooms, ?_,
      hplaced.others, hplaced.inserted, hplaced.free, hplaced.retireList, hplaced.marks, ?_, horder⟩
    · rw [hplaced.frame]
      rfl
    · have hstate : placedState (setFlight g (popped m s)) a b.qs = placedState s a b.qs := by
        change (if b.qs ≤ s.grain + ((popped m s).rooms.get a).earlyWindow then BookingState.armed else .booked) = _
        rw [hget]
        rfl
      refine hplaced.own.trans ?_
      rw [hstate]
      rfl
    · exact setFlight_engine (u := advancePointer _ u) _ hengine
  case released =>
    obtain ⟨-, hflight, -⟩ := id hw
    obtain ⟨g, hu⟩ := moveSteps_unplaces hflight hp hs hb hnone hwork
    obtain ⟨q, hq⟩ : ∃ q, q = setFlight g (popped m s) := ⟨_, rfl⟩
    have hfind : q.record? m.booking = some b := by rw [hq]; exact hb
    have hself : q.record? b.id = some b := by rw [record?_id hfind]; exact hfind
    have hframe : releaseFrame .unplaced m q = raiseFor .unplaced b m.detail (release b.id .unplaced q) := by
      rw [releaseFrame, hfind]
    have hreleased := release_released hself .unplaced
    have hcut := release_frame hself .unplaced
    have hexceptions := release_exceptions hself .unplaced
    rw [← hq, hframe] at hu
    generalize release b.id .unplaced q = u at hu hreleased hcut hexceptions
    have hengine : u.engine = { s.engine with inFlight := some g } := by rw [hcut, hq]; rfl
    refine ⟨_, (exec_moveFramePop hw work).trans (congrArg _ hu), ?_, ?_, ?_, ?_, ?_⟩
    · rw [hcut, hq]
      rfl
    · exact (congrArg State.rooms hcut).trans (by rw [hq]; rfl)
    · rw [hq] at hreleased
      exact released_popped hj hreleased
    · rw [wasteRaised_exceptions_congr b (u := s) (by rw [hq]; rfl) (by rw [hq]; rfl) (by rw [hq]; rfl)] at hexceptions
      refine raise_exceptions_congr _ _ _ _ ?_ hexceptions ?_ rfl
      · rw [hcut, wasteRaised_eq, hq]
        rfl
      · rw [hcut, wasteRaised_eq, hq]
        rfl
    · exact setFlight_engine (u := raiseFor .unplaced b m.detail u) _ hengine

end Sys2Proof.Machine
end

section
/-!
SUPPORT. What almost every operation leaves alone of the rooms: the capacities and partners, with their locks. One
equation per operation that branches, for the simplifier, and one lemma per block for the updates that do not, in the
order of the model's files. Only a write of T1 and the power-on reset are not among them; a write of T1 keeps what is
locked (R15).
-/

namespace Sys2Proof.Machine

/-- The capacity and the partner of a room, each with its lock (R15). -/
def Room.lock (e : Room) : (Bool × Nat) × (Bool × Option RoomNo) :=
  ((e.capacityLocked, e.capacity), (e.partnerLocked, e.partner))

/-- Those of every room. -/
def State.locks (s : State) : Tab ((Bool × Nat) × (Bool × Option RoomNo)) 96 := s.rooms.map Room.lock

@[simp] theorem locks_eta (s : State) : s.rooms.map Room.lock = s.locks := rfl

@[simp] theorem locks_mk (clock rooms panels menu kitchens profile overlays dispositions settings store engine
    catering composer loop exceptions ports deliveries pending) :
    (State.mk clock rooms panels menu kitchens profile overlays dispositions settings store engine catering composer
      loop exceptions ports deliveries pending).locks = rooms.map Room.lock := rfl

@[simp] theorem locks_ite (p : Prop) [Decidable p] (s t : State) :
    (if p then s else t).locks = if p then s.locks else t.locks := apply_ite ..

@[simp] theorem foldl_locks {α : Type} {f : State → α → State} (h : ∀ s a, (f s a).locks = s.locks) (l : List α)
    (s : State) : (l.foldl f s).locks = s.locks := by
  induction l generalizing s with
  | nil => rfl
  | cons a l ih => rw [List.foldl_cons, ih, h]

/-- An entry replaced by one with the same locks and locked values. -/
theorem lock_map_set {t : Tab Room 96} {r : RoomNo} {e : Room} (h : e.lock = (t.get r).lock) :
    (t.set r e).map Room.lock = t.map Room.lock := by
  refine Tab.ext_get fun q => ?_
  by_cases hq : q = r
  · simp [hq, h]
  · simp [hq]

theorem lock_map_upd (t : Tab Room 96) (r : RoomNo) {f : Room → Room} (h : ∀ e, (f e).lock = e.lock) :
    (t.upd r f).map Room.lock = t.map Room.lock := lock_map_set (h _)

/-! ## The shared operations -/

@[simp] theorem sharedOps_updates_locks :
    (∀ c subject room detail s, (raise c subject room detail s).locks = s.locks) ∧
    (∀ p a s, (answerCall p a s).locks = s.locks) ∧ (∀ r s, (putRecord r s).locks = s.locks) ∧
    (∀ id f s, (updRecord id f s).locks = s.locks) ∧ (∀ c r detail s, (raiseFor c r detail s).locks = s.locks) ∧
    (∀ r s, (markRoom r s).locks = s.locks) :=
  ⟨fun _ _ _ _ _ => rfl, fun _ _ _ => rfl, fun _ _ => rfl, fun _ _ _ => rfl, fun _ _ _ _ => rfl, fun _ _ => rfl⟩

@[simp] theorem respondCode_locks (via kind a s) : (respondCode via kind a s).locks = s.locks := by simp [respondCode]

@[simp] theorem respond_locks (via kind a s) : (respond via kind a s).locks = s.locks := by simp [respond]

@[simp] theorem markRooms_locks (rs s) : (markRooms rs s).locks = s.locks := by simp [markRooms]

@[simp] theorem markRecord_locks (r s) : (markRecord r s).locks = s.locks := by simp [markRecord]

@[simp] theorem whenTaking_locks {s : State} {f : State → State} (h : (f s).locks = s.locks) :
    (whenTaking s f).locks = s.locks := by simp [whenTaking, h]

@[simp] theorem whenPowered_locks {s : State} {f : State → State} (h : (f s).locks = s.locks) :
    (whenPowered s f).locks = s.locks := by simp [whenPowered, h]

@[simp] theorem whenLive_locks {s : State} {f : State → State} (h : (f s).locks = s.locks) :
    (whenLive s f).locks = s.locks := by simp [whenLive, h]

/-! ## The Face Composer -/

@[simp] theorem composer_updates_locks :
    (∀ a f s, (updFace a f s).locks = s.locks) ∧ (∀ f s, (updFaces f s).locks = s.locks) ∧
    (∀ r s, (evaluateOverlays r s).locks = s.locks) ∧ (∀ r s, (roomStateChanged r s).locks = s.locks) ∧
    (∀ k s, (kitchenChanged k s).locks = s.locks) ∧ (∀ r g s, (recomposeRoom r g s).locks = s.locks) ∧
    (∀ a s, (refreshFace a s).locks = s.locks) ∧ (∀ s, (resetComposer s).locks = s.locks) :=
  ⟨fun _ _ _ => rfl, fun _ _ => rfl, fun _ _ => rfl, fun _ _ => rfl, fun _ _ => rfl, fun _ _ _ => rfl,
    fun _ _ => rfl, fun _ => rfl⟩

/-! ## The Catering Scheduler -/

@[simp] theorem catering_updates_locks :
    (∀ k qd load s, (addLoad k qd load s).locks = s.locks) ∧
    (∀ k qd load s, (subtractLoad k qd load s).locks = s.locks) ∧ (∀ k f s, (changeTickets k f s).locks = s.locks) ∧
    (∀ id f s, (updOrder id f s).locks = s.locks) :=
  ⟨fun _ _ _ _ => rfl, fun _ _ _ _ => rfl, fun _ _ _ => rfl, fun _ _ _ => rfl⟩

@[simp] theorem handTicket_locks (k t s) : (handTicket k t s).locks = s.locks := by
  unfold handTicket
  split <;> simp

@[simp] theorem removeTicket_locks (k id s) : (removeTicket k id s).locks = s.locks := by simp [removeTicket]

@[simp] theorem dispatchOrder_locks (k g r o s) : (dispatchOrder k g r o s).locks = s.locks := by simp [dispatchOrder]

@[simp] theorem considerOrder_locks (k g s id) : (considerOrder k g s id).locks = s.locks := by
  unfold considerOrder
  split
  · simp
  · split <;> simp

@[simp] theorem judgeTicket_locks (k g s t) : (judgeTicket k g s t).locks = s.locks := by
  unfold judgeTicket
  dsimp only
  (repeat' split) <;> simp

@[simp] theorem passKitchen_locks (k g s) : (passKitchen k g s).locks = s.locks := by simp [passKitchen]

@[simp] theorem releaseOrder_locks (id s) : (releaseOrder id s).locks = s.locks := by
  unfold releaseOrder
  (repeat' split) <;> simp

@[simp] theorem renameTicket_locks (k id name s) : (renameTicket k id name s).locks = s.locks := by
  unfold renameTicket
  dsimp only
  (repeat' split) <;> simp

@[simp] theorem settleMove_locks (id alternate s) : (settleMove id alternate s).locks = s.locks := by
  unfold settleMove
  dsimp only
  (repeat' split) <;> simp

@[simp] theorem retireOrder_locks (id o s) : (retireOrder id o s).locks = s.locks := by simp [retireOrder]

@[simp] theorem placeOrder_locks (id j s) : (placeOrder id j s).locks = s.locks := by
  unfold placeOrder
  dsimp only
  (repeat' split) <;> simp

@[simp] theorem acceptTicket_locks (c s) : (acceptTicket c s).locks = s.locks := by
  unfold acceptTicket
  split <;> simp

@[simp] theorem deliverTicket_locks (c s) : (deliverTicket c s).locks = s.locks := by
  unfold deliverTicket
  split <;> simp

/-! ## The admission queue -/

@[simp] theorem queue_updates_locks :
    (∀ r s, (joinQueue r s).locks = s.locks) ∧ (∀ s, (endFlight s).locks = s.locks) ∧
    (∀ f s, (setFlight f s).locks = s.locks) :=
  ⟨fun _ _ => rfl, fun _ => rfl, fun _ _ => rfl⟩

@[simp] theorem setPending_locks (r b s) : (setPending r b s).locks = s.locks := lock_map_upd _ _ fun _ => rfl

@[simp] theorem triggerVacate_locks (r s) : (triggerVacate r s).locks = s.locks := by simp [triggerVacate]

@[simp] theorem queuePendingVacate_locks (s) : (queuePendingVacate s).locks = s.locks := by
  unfold queuePendingVacate
  split
  · simp
  · split <;> simp

/-! ## The Booking Store -/

@[simp] theorem store_updates_locks :
    (∀ cells s, (freeCells cells s).locks = s.locks) ∧ (∀ room r s, (insertInto room r s).locks = s.locks) ∧
    (∀ id s, (recomputeRetire id s).locks = s.locks) :=
  ⟨fun _ _ => rfl, fun _ _ _ => rfl, fun _ _ => rfl⟩

@[simp] theorem allocate_locks (n s) : (allocate n s).locks = s.locks := by simp [allocate]

@[simp] theorem removeFrom_locks (room id s) : (removeFrom room id s).locks = s.locks := by simp [removeFrom]

@[simp] theorem triggerOnInsert_locks (state room s) :
    (triggerOnInsert state room s).locks = s.locks := by simp [triggerOnInsert]

@[simp] theorem placeInto_locks (room r s) : (placeInto room r s).locks = s.locks := by simp [placeInto]

@[simp] theorem insertRecord_locks (r s) : (insertRecord r s).locks = s.locks := by simp [insertRecord]

@[simp] theorem insertBeside_locks (id s) : (insertBeside id s).locks = s.locks := by
  unfold insertBeside
  split
  · simp
  · split <;> simp

@[simp] theorem removeRecord_locks (r s) :
    (removeRecord r s).locks = s.locks := foldl_locks (fun s q => removeFrom_locks q r.id s) _ s

@[simp] theorem retire_locks (id s) : (retire id s).locks = s.locks := by
  unfold retire
  split
  · simp
  · split <;> simp

@[simp] theorem joinRetireList_locks (id s) : (joinRetireList id s).locks = s.locks := by
  unfold joinRetireList
  split <;> simp

@[simp] theorem releaseRecord_locks (id reason s) : (releaseRecord id reason s).locks = s.locks := by
  unfold releaseRecord
  split <;> simp

@[simp] theorem release_locks (id reason s) : (release id reason s).locks = s.locks := by simp [release]

@[simp] theorem editRecord_locks (r f s) : (editRecord r f s).locks = s.locks := by simp [editRecord]

/-! ## Attendance -/

@[simp] theorem setScan_locks (w s) : (setScan w s).locks = s.locks := rfl

@[simp] theorem armDue_locks (g id s) : (armDue g id s).locks = s.locks := by
  unfold armDue
  split <;> simp

@[simp] theorem absenceDue_locks (g id s) : (absenceDue g id s).locks = s.locks := by
  unfold absenceDue
  split <;> simp

@[simp] theorem endDue_locks (g id s) : (endDue g id s).locks = s.locks := by
  unfold endDue
  split <;> simp

@[simp] theorem retireDue_locks (g id s) : (retireDue g id s).locks = s.locks := by
  unfold retireDue
  split <;> simp

@[simp] theorem scanRecord_locks (g s id) : (scanRecord g s id).locks = s.locks := by simp [scanRecord]

@[simp] theorem scanList_locks (r g s) : (scanList r g s).locks = s.locks := by simp [scanList]

@[simp] theorem scanRetireList_locks (g s) : (scanRetireList g s).locks = s.locks := by simp [scanRetireList]

@[simp] theorem beginScan_locks (s) : (beginScan s).locks = s.locks := by
  unfold beginScan
  split <;> simp

@[simp] theorem scanPiece_locks (s) : (scanPiece s).locks = s.locks := by
  unfold scanPiece
  dsimp only
  (repeat' split) <;> simp

@[simp] theorem scanPieces_locks (n : Nat) (s : State) : (scanPieces n s).locks = s.locks := by
  induction n generalizing s with
  | zero => rfl
  | succ n ih => simp [scanPieces, ih]

@[simp] theorem checkIn_locks (target badge s) : (checkIn target badge s).locks = s.locks := by simp [checkIn]

@[simp] theorem judgeTap_locks (t s) : (judgeTap t s).locks = s.locks := by
  unfold judgeTap
  (repeat' split) <;> simp

@[simp] theorem takeTap_locks (s) : (takeTap s).locks = s.locks := by
  unfold takeTap
  split <;> simp

/-! ## The Admission Engine -/

@[simp] theorem engine_updates_locks :
    (∀ f step s, (advance f step s).locks = s.locks) ∧ (∀ r s, (addRecord r s).locks = s.locks) ∧
    (∀ f s, (placedThen f s).locks = s.locks) :=
  ⟨fun _ _ _ => rfl, fun _ _ => rfl, fun _ _ => rfl⟩

@[simp] theorem offerUplink_locks (via k r s) : (offerUplink via k r s).locks = s.locks := by simp [offerUplink]

@[simp] theorem takeBook_locks (via ask s) : (takeBook via ask s).locks = s.locks := by simp [takeBook]

@[simp] theorem takeModify_locks (via ask s) : (takeModify via ask s).locks = s.locks := by simp [takeModify]

@[simp] theorem takeCancel_locks (via id s) : (takeCancel via id s).locks = s.locks := by simp [takeCancel]

@[simp] theorem complete_locks (f up panel s) : (complete f up panel s).locks = s.locks := by
  unfold complete
  split <;> simp

@[simp] theorem refuse_locks (f r named s) : (refuse f r named s).locks = s.locks := by simp [refuse]

@[simp] theorem refuseMalformed_locks (f s) : (refuseMalformed f s).locks = s.locks := by simp [refuseMalformed]

@[simp] theorem checkOr_locks (ok f r next s) : (checkOr ok f r next s).locks = s.locks := by simp [checkOr]

@[simp] theorem actOnJudgement_locks (j required f s) : (actOnJudgement j required f s).locks = s.locks := by
  unfold actOnJudgement
  split <;> simp

@[simp] theorem bookConflict_locks (ask f s) : (bookConflict ask f s).locks = s.locks := by
  unfold bookConflict
  dsimp only
  (repeat' split) <;> simp

@[simp] theorem bookCheck_locks (ask f step s) : (bookCheck ask f step s).locks = s.locks := by
  unfold bookCheck
  (repeat' split) <;> simp

@[simp] theorem placeSettled_locks (id t s) : (placeSettled id t s).locks = s.locks := by
  unfold placeSettled
  split <;> simp

@[simp] theorem insertThen_locks (r : Record) (refused : Option BookingId) (f : Flight) {onward : State → State}
    (h : ∀ s, (onward s).locks = s.locks) (s : State) : (insertThen r refused f onward s).locks = s.locks := by
  unfold insertThen
  dsimp only
  split <;> simp [h]

@[simp] theorem completeIfServed_locks (s) : (completeIfServed s).locks = s.locks := by
  unfold completeIfServed
  split <;> simp

@[simp] theorem finishBook_locks (id f s) : (finishBook id f s).locks = s.locks := by simp [finishBook]

@[simp] theorem placeBook_locks (ask f s) : (placeBook ask f s).locks = s.locks := by simp [placeBook]

@[simp] theorem modifyOrder_locks (ask f r s) : (modifyOrder ask f r s).locks = s.locks := by
  unfold modifyOrder
  (repeat' split) <;> simp

@[simp] theorem restoreTaken_locks (t first f s) : (restoreTaken t first f s).locks = s.locks := by
  unfold restoreTaken
  dsimp only
  (repeat' split) <;> simp

@[simp] theorem refuseConflict_locks (first f s) : (refuseConflict first f s).locks = s.locks := by
  unfold refuseConflict
  split <;> simp

@[simp] theorem modifyConflict_locks (ask f r s) : (modifyConflict ask f r s).locks = s.locks := by
  unfold modifyConflict
  dsimp only
  (repeat' split) <;> simp

@[simp] theorem modifyTimes_locks (ask f r s) : (modifyTimes ask f r s).locks = s.locks := by
  unfold modifyTimes
  split <;> simp

@[simp] theorem modifyCheckRecord_locks (ask f r step s) :
    (modifyCheckRecord ask f r step s).locks = s.locks := by
  unfold modifyCheckRecord
  (repeat' split) <;> simp

@[simp] theorem modifyCheck_locks (ask f step s) : (modifyCheck ask f step s).locks = s.locks := by
  unfold modifyCheck
  (repeat' split) <;> simp

@[simp] theorem resizeRecord_locks (r n s) : (resizeRecord r n s).locks = s.locks := by simp [resizeRecord]

@[simp] theorem subtractOwn_locks (r s) : (subtractOwn r s).locks = s.locks := by
  unfold subtractOwn
  split <;> simp

@[simp] theorem settleOrder_locks (r t s) : (settleOrder r t s).locks = s.locks := by
  unfold settleOrder
  split <;> simp

@[simp] theorem applyFields_locks (ask f r s) : (applyFields ask f r s).locks = s.locks := by simp [applyFields]

@[simp] theorem takeModified_locks (ask bookings f s) : (takeModified ask bookings f s).locks = s.locks := by
  unfold takeModified
  split <;> simp

@[simp] theorem finishModify_locks (id f s) : (finishModify id f s).locks = s.locks := by simp [finishModify]

@[simp] theorem placeModified_locks (ask f s) : (placeModified ask f s).locks = s.locks := by
  unfold placeModified
  dsimp only
  (repeat' split) <;> simp

@[simp] theorem partnerStep_locks (refused f s) : (partnerStep refused f s).locks = s.locks := by
  unfold partnerStep
  (repeat' split) <;> simp

@[simp] theorem cancelStep_locks (id f s) : (cancelStep id f s).locks = s.locks := by
  unfold cancelStep
  split
  · simp
  · split <;> simp

@[simp] theorem placeWalkIn_locks (room n sp f s) : (placeWalkIn room n sp f s).locks = s.locks := by simp [placeWalkIn]

@[simp] theorem bookNowAtStore_locks (room f s) : (bookNowAtStore room f s).locks = s.locks := by
  unfold bookNowAtStore
  dsimp only
  (repeat' split) <;> simp

@[simp] theorem bookNowCheck_locks (room choice f step s) :
    (bookNowCheck room choice f step s).locks = s.locks := by
  unfold bookNowCheck
  split <;> simp

@[simp] theorem extendAtStore_locks (room f s) : (extendAtStore room f s).locks = s.locks := by
  unfold extendAtStore
  dsimp only
  (repeat' split) <;> simp

@[simp] theorem extendCheck_locks (room f step s) : (extendCheck room f step s).locks = s.locks := by
  unfold extendCheck
  split <;> simp

@[simp] theorem endNowAtStore_locks (room f s) : (endNowAtStore room f s).locks = s.locks := by
  unfold endNowAtStore
  split <;> simp

@[simp] theorem endNowCheck_locks (room f step s) : (endNowCheck room f step s).locks = s.locks := by
  unfold endNowCheck
  split <;> simp

@[simp] theorem checkStep_locks (f step s) : (checkStep f step s).locks = s.locks := by
  unfold checkStep
  split <;> simp

@[simp] theorem placeStep_locks (f s) : (placeStep f s).locks = s.locks := by
  unfold placeStep
  split <;> simp

@[simp] theorem admissionStep_locks (s) : (admissionStep s).locks = s.locks := by
  unfold admissionStep
  split
  · rfl
  · rename_i f _
    cases f.phase with
    | take bookings => cases f.request <;> simp
    | serve => cases f.request <;> simp
    | _ => simp

@[simp] theorem engineStep_locks {f : State → State} (h : ∀ s, (f s).locks = s.locks) (s : State) :
    (engineStep f s).locks = s.locks := by
  unfold engineStep whenPowered
  split <;> simp [h]

@[simp] theorem judgeWhole_locks (p : Request → Bool) (n : Nat) (s : State) :
    (judgeWhole p n s).locks = s.locks := by
  induction n generalizing s with
  | zero => rfl
  | succ n ih =>
    unfold judgeWhole
    (repeat' split) <;> simp [ih]

/-! ## Boundary work -/

@[simp] theorem boundary_updates_locks :
    (∀ w s, (setPass w s).locks = s.locks) ∧ (∀ w s, (setRecompose w s).locks = s.locks) :=
  ⟨fun _ _ => rfl, fun _ _ => rfl⟩

@[simp] theorem beginPass_locks (s) : (beginPass s).locks = s.locks := by
  unfold beginPass
  split <;> simp

@[simp] theorem passPiece_locks (s) : (passPiece s).locks = s.locks := by
  unfold passPiece
  dsimp only
  (repeat' split) <;> simp

@[simp] theorem passPieces_locks (n : Nat) (s : State) : (passPieces n s).locks = s.locks := by
  induction n generalizing s with
  | zero => rfl
  | succ n ih => simp [passPieces, ih]

@[simp] theorem beginRecompose_locks (s) : (beginRecompose s).locks = s.locks := by
  unfold beginRecompose
  split <;> simp

@[simp] theorem recomposePiece_locks (s) : (recomposePiece s).locks = s.locks := by
  unfold recomposePiece
  dsimp only
  (repeat' split) <;> simp

@[simp] theorem recomposePieces_locks (n : Nat) (s : State) : (recomposePieces n s).locks = s.locks := by
  induction n generalizing s with
  | zero => rfl
  | succ n ih => simp [recomposePieces, ih]

@[simp] theorem takeRecompose_locks (pieces s) : (takeRecompose pieces s).locks = s.locks := by simp [takeRecompose]

@[simp] theorem takePantryCall_locks (delivered : Bool) {judge : PantryCall → State → State}
    (h : ∀ c s, (judge c s).locks = s.locks) (s : State) : (takePantryCall delivered judge s).locks = s.locks := by
  unfold takePantryCall
  split <;> simp [h]

/-! ## The load pages, and the answer to a set -/

@[simp] theorem pages_updates_locks :
    (∀ g s, (raiseBoundary g s).locks = s.locks) ∧ (∀ old new s, (raiseRollover old new s).locks = s.locks) ∧
    (∀ f s, (updPages f s).locks = s.locks) ∧ (∀ r s, (applyRollover r s).locks = s.locks) ∧
    (∀ n s, (tagPages n s).locks = s.locks) :=
  ⟨fun _ _ => rfl, fun _ _ _ => rfl, fun _ _ => rfl, fun _ _ => rfl, fun _ _ => rfl⟩

@[simp] theorem takeRollover_locks (s) : (takeRollover s).locks = s.locks := by
  unfold takeRollover
  split <;> simp

@[simp] theorem drainRollovers_locks (s) : (drainRollovers s).locks = s.locks := by simp [drainRollovers]

@[simp] theorem cutOrder_locks (s id) : (cutOrder s id).locks = s.locks := by
  unfold cutOrder
  split
  · simp
  · split <;> simp

@[simp] theorem addLoads_locks (s os) : (addLoads s os).locks = s.locks := by simp [addLoads]

@[simp] theorem realignPage_locks (n s i) : (realignPage n s i).locks = s.locks := by simp [realignPage]

@[simp] theorem realign_locks (n s) : (realign n s).locks = s.locks := by simp [realign]

@[simp] theorem dayChanged_locks (old new s) : (dayChanged old new s).locks = s.locks := by simp [dayChanged]

@[simp] theorem answerSet_locks (via jump delta s) : (answerSet via jump delta s).locks = s.locks := by simp [answerSet]

@[simp] theorem raiseJump_locks (jump delta s) : (raiseJump jump delta s).locks = s.locks := by simp [raiseJump]

@[simp] theorem takeClockRead_locks (via s) : (takeClockRead via s).locks = s.locks := by simp [takeClockRead]

/-! ## Table access -/

@[simp] theorem tables_updates_locks :
    (∀ a s, (markStale a s).locks = s.locks) ∧ (∀ a s, (panelRenewed a s).locks = s.locks) ∧
    (∀ k old new s, (markOverlay k old new s).locks = s.locks) ∧ (∀ s, (clearLossLatch s).locks = s.locks) :=
  ⟨fun _ _ => rfl, fun _ _ => rfl, fun _ _ _ _ => rfl, fun _ => rfl⟩

@[simp] theorem answerWrite_locks (via : Via) (table index n : Nat) (w : Written) :
    (answerWrite via table index n w).locks = w.state.locks := respond_locks ..

@[simp] theorem writeSettings_locks (index w m s) : (writeSettings index w m s).state.locks = s.locks := by
  unfold writeSettings
  split <;> simp

@[simp] theorem roomStateTold_locks (r old s) : (roomStateTold r old s).locks = s.locks := by simp [roomStateTold]

@[simp] theorem roomNameTold_locks (r old s) : (roomNameTold r old s).locks = s.locks := by simp [roomNameTold]

@[simp] theorem writePanel_locks (index w m s) : (writePanel index w m s).state.locks = s.locks := by
  unfold writePanel
  split <;> simp

@[simp] theorem writeItem_locks (index w s) : (writeItem index w s).state.locks = s.locks := by
  unfold writeItem
  split <;> simp

@[simp] theorem writeKitchen_locks (index w s) : (writeKitchen index w s).state.locks = s.locks := by
  unfold writeKitchen
  split <;> simp

@[simp] theorem judgeProfile_locks (k w s) : (judgeProfile k w s).locks = s.locks := by
  unfold judgeProfile
  split <;> simp

@[simp] theorem writeProfile_locks (index w s) : (writeProfile index w s).state.locks = s.locks := by
  unfold writeProfile
  split <;> simp

@[simp] theorem writeOverlay_locks (index w s) : (writeOverlay index w s).state.locks = s.locks := by
  unfold writeOverlay
  split <;> simp

@[simp] theorem writeDisposition_locks (index action level s) :
    (writeDisposition index action level s).state.locks = s.locks := by
  unfold writeDisposition
  split <;> simp

@[simp] theorem writeLoop_locks (index latch m s) : (writeLoop index latch m s).state.locks = s.locks := by
  unfold writeLoop
  split <;> simp

@[simp] theorem takeTableRead_locks (via table index s) :
    (takeTableRead via table index s).locks = s.locks := by simp [takeTableRead]

/-! ## Panel text and overlays -/

@[simp] theorem chooseOverlay_locks (as c s) : (chooseOverlay as c s).locks = s.locks := rfl

@[simp] theorem applyText_locks (via a us s) : (applyText via a us s).locks = s.locks := by simp [applyText]

@[simp] theorem takeText_locks (via address units s) : (takeText via address units s).locks = s.locks := by
  unfold takeText
  split <;> simp

@[simp] theorem takeOverlay_locks (via target choice s) :
    (takeOverlay via target choice s).locks = s.locks := by
  unfold takeOverlay
  split <;> simp

/-! ## The Loop Controller -/

@[simp] theorem loop_updates_locks :
    (∀ f s, (updLoop f s).locks = s.locks) ∧ (∀ a f s, (updPanel a f s).locks = s.locks) ∧
    (∀ c address detail s, (raisePanel c address detail s).locks = s.locks) ∧
    (∀ b s, (loopSend b s).locks = s.locks) ∧
    (∀ c destination kind payload now s, (sendOwn c destination kind payload now s).locks = s.locks) ∧
    (∀ s, (endAwait s).locks = s.locks) ∧ (∀ a row taken s, (rowBack a row taken s).locks = s.locks) ∧
    (∀ a serial taken s, (replyBack a serial taken s).locks = s.locks) ∧
    (∀ a id taken s, (ticketBack a id taken s).locks = s.locks) ∧ (∀ e s, (setEcho e s).locks = s.locks) ∧
    (∀ a s, (markFace a s).locks = s.locks) ∧ (∀ a s, (panelReturned a s).locks = s.locks) ∧
    (∀ destination s, (breakLoop destination s).locks = s.locks) ∧ (∀ s, (countMiss s).locks = s.locks) ∧
    (∀ s, (startCycle s).locks = s.locks) ∧ (∀ now s, (freshWindow now s).locks = s.locks) ∧
    (∀ s, (dueBeacon s).locks = s.locks) ∧ (∀ a row now s, (sendRow a row now s).locks = s.locks) ∧
    (∀ s, (checkFailed s).locks = s.locks) ∧ (∀ s, (strip s).locks = s.locks) ∧
    (∀ subject detail s, (stripRogue subject detail s).locks = s.locks) ∧
    (∀ a sequence payload s, (makeReply a sequence payload s).locks = s.locks) ∧
    (∀ b now s, (loopForward b now s).locks = s.locks) :=
  ⟨fun _ _ => rfl, fun _ _ _ => rfl, fun _ _ _ _ => rfl, fun _ _ => rfl, fun _ _ _ _ _ _ => rfl, fun _ => rfl,
    fun _ _ _ _ => rfl, fun _ _ _ _ => rfl, fun _ _ _ _ => rfl, fun _ _ => rfl, fun _ _ => rfl, fun _ _ => rfl,
    fun _ _ => rfl, fun _ => rfl, fun _ => rfl, fun _ _ => rfl, fun _ => rfl, fun _ _ _ _ => rfl, fun _ => rfl,
    fun _ => rfl, fun _ _ _ => rfl, fun _ _ _ _ => rfl, fun _ _ _ => rfl⟩

@[simp] theorem contentBack_locks (w taken s) : (contentBack w taken s).locks = s.locks := by
  unfold contentBack
  split <;> simp

@[simp] theorem echoLost_locks (c s) : (echoLost c s).locks = s.locks := by
  unfold echoLost
  split <;> simp

@[simp] theorem echoRefused_locks (s) : (echoRefused s).locks = s.locks := by
  unfold echoRefused
  split <;> simp

@[simp] theorem takeEcho_locks (via s) : (takeEcho via s).locks = s.locks := by
  unfold takeEcho
  (repeat' split) <;> simp

@[simp] theorem panelSeen_locks (a s) : (panelSeen a s).locks = s.locks := by
  unfold panelSeen
  split <;> simp

@[simp] theorem panelSuccess_locks (a s) : (panelSuccess a s).locks = s.locks := by
  unfold panelSuccess
  split <;> simp

@[simp] theorem panelMiss_locks (a detail s) : (panelMiss a detail s).locks = s.locks := by
  unfold panelMiss
  dsimp only
  (repeat' split) <;> simp

@[simp] theorem applyToPanel_locks (w : Awaited) {f : Addr → State → State}
    (h : ∀ a s, (f a s).locks = s.locks) (s : State) : (applyToPanel w f s).locks = s.locks := by
  unfold applyToPanel
  split <;> simp [h]

@[simp] theorem timedOut_locks (w s) : (timedOut w s).locks = s.locks := by simp [timedOut]

@[simp] theorem returnTimeout_locks (s) : (returnTimeout s).locks = s.locks := by
  unfold returnTimeout
  split <;> simp

@[simp] theorem abandonAwaited_locks (s) : (abandonAwaited s).locks = s.locks := by
  unfold abandonAwaited
  split <;> simp

@[simp] theorem beginSync_locks (s : State) : (beginSync s).locks = s.locks := by simp [beginSync]

@[simp] theorem signalPresent_locks (s) : (signalPresent s).locks = s.locks := by
  unfold signalPresent
  exact whenLive_locks (beginSync_locks _)

@[simp] theorem goDown_locks (s) : (goDown s).locks = s.locks := by simp [goDown]

@[simp] theorem signalAbsent_locks (s) : (signalAbsent s).locks = s.locks := by simp [signalAbsent]

@[simp] theorem nextWindow_locks (s) : (nextWindow s).locks = s.locks := by simp [nextWindow]

@[simp] theorem lapseAwaited_locks (now s) : (lapseAwaited now s).locks = s.locks := by
  unfold lapseAwaited
  split <;> simp

@[simp] theorem sendDue_locks (now s) : (sendDue now s).locks = s.locks := by
  unfold sendDue
  split <;> simp

@[simp] theorem openWindow_locks (now s) : (openWindow now s).locks = s.locks := by simp [openWindow]

@[simp] theorem dropLapsed_locks (a s) : (dropLapsed a s).locks = s.locks := by simp [dropLapsed]

@[simp] theorem sendReply_locks (a now s) : (sendReply a now s).locks = s.locks := by
  unfold sendReply
  split <;> simp

@[simp] theorem sendTicket_locks (a now s) : (sendTicket a now s).locks = s.locks := by
  unfold sendTicket
  split <;> simp

@[simp] theorem sendChosen_locks (c now s) : (sendChosen c now s).locks = s.locks := by
  unfold sendChosen
  split <;> simp

@[simp] theorem visit_locks (now : Nat) (l : List Addr) (s : State) : (visit now l s).locks = s.locks := by
  induction l generalizing s with
  | nil => rfl
  | cons a l ih =>
    unfold visit
    dsimp only
    (repeat' split) <;> simp [ih]

@[simp] theorem serveNext_locks (now s) : (serveNext now s).locks = s.locks := by
  unfold serveNext
  split <;> simp

@[simp] theorem serveAt_locks (now s) : (serveAt now s).locks = s.locks := by simp [serveAt]

@[simp] theorem beaconHome_locks (s) : (beaconHome s).locks = s.locks := by
  unfold beaconHome
  split <;> simp

@[simp] theorem echoHome_locks (via time s) : (echoHome via time s).locks = s.locks := by simp [echoHome]

@[simp] theorem matched_locks (w taken now s) : (matched w taken now s).locks = s.locks := by
  unfold matched
  (repeat' split) <;> simp

@[simp] theorem ownReturn_locks (f now s) : (ownReturn f now s).locks = s.locks := by
  unfold ownReturn
  split <;> simp

@[simp] theorem windowViolation_locks (a s) : (windowViolation a s).locks = s.locks := by simp [windowViolation]

@[simp] theorem offerPanel_locks (place r s) : (offerPanel place r s).locks = s.locks := by simp [offerPanel]

@[simp] theorem handDoorCall_locks (place room payload s) :
    (handDoorCall place room payload s).locks = s.locks := by
  unfold handDoorCall
  split <;> simp

@[simp] theorem handPantryCall_locks (place kitchen payload s) :
    (handPantryCall place kitchen payload s).locks = s.locks := by
  unfold handPantryCall
  split <;> simp

@[simp] theorem handCall_locks (place payload s) : (handCall place payload s).locks = s.locks := by
  unfold handCall
  dsimp only
  (repeat' split) <;> simp

@[simp] theorem takeCall_locks (a sequence payload s) :
    (takeCall a sequence payload s).locks = s.locks := by simp [takeCall]

@[simp] theorem judgeCall_locks (a sequence payload s) :
    (judgeCall a sequence payload s).locks = s.locks := by simp [judgeCall]

@[simp] theorem judgeBound_locks (a f now s) : (judgeBound a f now s).locks = s.locks := by simp [judgeBound]

@[simp] theorem judgePanelFrame_locks (f now s) : (judgePanelFrame f now s).locks = s.locks := by
  unfold judgePanelFrame
  split <;> simp

@[simp] theorem judgeFrame_locks (f now s) : (judgeFrame f now s).locks = s.locks := by simp [judgeFrame]

@[simp] theorem loopIn_locks (b now s) : (loopIn b now s).locks = s.locks := by
  unfold loopIn
  split <;> simp

@[simp] theorem callIn_locks (origin sequence payload s) :
    (callIn origin sequence payload s).locks = s.locks := by simp [callIn]

/-! ## Moves -/

@[simp] theorem releaseFrame_locks (c m s) : (releaseFrame c m s).locks = s.locks := by
  unfold releaseFrame
  split <;> simp

@[simp] theorem pushFrame_locks (p m) : (pushFrame p m).2.locks = p.2.locks := by
  unfold pushFrame
  dsimp only
  (repeat' split) <;> simp

/-- The pushes of a displacement, in turn. -/
@[simp] theorem pushFrames_locks (l : List MoveFrame) (p : Flight × State) :
    (l.foldl pushFrame p).2.locks = p.2.locks := by
  induction l generalizing p with
  | nil => rfl
  | cons m l ih => rw [List.foldl_cons, ih, pushFrame_locks]

@[simp] theorem makeMoving_locks (s r) : (makeMoving s r).locks = s.locks := by simp [makeMoving]

@[simp] theorem displace_locks (ids depth next f s) : (displace ids depth next f s).locks = s.locks := by
  simp [displace]

@[simp] theorem judgeDisplacement_locks (ids depth granted refused f s) :
    (judgeDisplacement ids depth granted refused f s).locks = s.locks := by simp [judgeDisplacement]

@[simp] theorem displacementStep_locks (s) : (displacementStep s).locks = s.locks := by
  unfold displacementStep
  split
  · simp
  · split <;> simp

@[simp] theorem popFrame_locks (m rest f s) : (popFrame m rest f s).locks = s.locks := lock_map_set rfl

@[simp] theorem unplace_locks (t f s) : (unplace t f s).locks = s.locks := by simp [unplace]

@[simp] theorem endPass_locks (t f s) : (endPass t f s).locks = s.locks := by simp [endPass]

@[simp] theorem tryAlternate_locks (t f s) : (tryAlternate t f s).locks = s.locks := by
  unfold tryAlternate
  split
  · simp
  · split <;> simp

@[simp] theorem recheckAlternate_locks (t f s) : (recheckAlternate t f s).locks = s.locks := by
  unfold recheckAlternate
  split <;> simp

@[simp] theorem advancePointer_locks (t s) : (advancePointer t s).locks = s.locks :=
  lock_map_upd _ _ fun e => by split <;> rfl

@[simp] theorem placeMove_locks (t sp f s) : (placeMove t sp f s).locks = s.locks := by
  unfold placeMove
  split <;> simp

@[simp] theorem vacateLeft_locks (v s) : (vacateLeft v s).locks = s.locks := by
  unfold vacateLeft
  split <;> simp

@[simp] theorem readVacated_locks (v f s) : (readVacated v f s).locks = s.locks := by
  unfold readVacated
  (repeat' split) <;> simp

@[simp] theorem popEmpty_locks (f s) : (popEmpty f s).locks = s.locks := by
  unfold popEmpty
  split <;> simp

@[simp] theorem vacateStep_locks (s) : (vacateStep s).locks = s.locks := by
  unfold vacateStep
  split
  · simp
  · split <;> simp

@[simp] theorem moveStep_locks (s) : (moveStep s).locks = s.locks := by
  unfold moveStep
  (repeat' split) <;> simp

@[simp] theorem moveSteps_locks (n : Nat) (s : State) : (moveSteps n s).locks = s.locks := by
  induction n generalizing s with
  | zero => rfl
  | succ n ih => simp [moveSteps, ih]

/-! ## Notices -/

@[simp] theorem notices_updates_locks :
    (∀ q l s, (setNotices q l s).locks = s.locks) ∧ (∀ q s, (flushQueue q s).locks = s.locks) :=
  ⟨fun _ _ _ => rfl, fun _ _ => rfl⟩

@[simp] theorem takePeek_locks (via queue s) : (takePeek via queue s).locks = s.locks := by
  unfold takePeek
  split <;> simp

@[simp] theorem takeNotices_locks (via q count s) : (takeNotices via q count s).locks = s.locks := by simp [takeNotices]

@[simp] theorem takeTake_locks (via queue count s) : (takeTake via queue count s).locks = s.locks := by
  unfold takeTake
  split <;> simp

@[simp] theorem takeFlush_locks (via queue s) : (takeFlush via queue s).locks = s.locks := by
  unfold takeFlush
  split <;> simp

@[simp] theorem takeAlertClear_locks (via mask s) :
    (takeAlertClear via mask s).locks = s.locks := by simp [takeAlertClear]

@[simp] theorem takeCounters_locks (via clear s) : (takeCounters via clear s).locks = s.locks := by simp [takeCounters]

@[simp] theorem applyHold_locks (h s) : (applyHold h s).locks = s.locks := by
  unfold applyHold
  split
  · split
    · exact lock_map_upd _ _ fun _ => rfl
    · rfl
  · simp

@[simp] theorem takeHold_locks (s) : (takeHold s).locks = s.locks := by
  unfold takeHold
  split <;> simp

@[simp] theorem takeQuery_locks (via id s) : (takeQuery via id s).locks = s.locks := by
  unfold takeQuery
  split <;> simp

@[simp] theorem takeList_locks (via room day start s) : (takeList via room day start s).locks = s.locks := by
  unfold takeList
  split <;> simp

/-! ## The ports -/

@[simp] theorem ports_updates_locks :
    (∀ s, (dropUplink s).locks = s.locks) ∧ (∀ s, (dropCascade s).locks = s.locks) ∧
    (∀ f s, (forwardDown f s).locks = s.locks) :=
  ⟨fun _ => rfl, fun _ => rfl, fun _ _ => rfl⟩

@[simp] theorem takePartReset_locks (via s) : (takePartReset via s).locks = s.locks := by simp [takePartReset]

@[simp] theorem forwardUp_locks (f s) : (forwardUp f s).locks = s.locks := by simp [forwardUp]

@[simp] theorem cascadeFrame_locks (f s) : (cascadeFrame f s).locks = s.locks := by
  unfold cascadeFrame
  split
  · simp
  · split <;> simp

@[simp] theorem setLink_locks (uplink up s) : (setLink uplink up s).locks = s.locks := by simp [setLink]

/-! ## Resets -/

@[simp] theorem resets_updates_locks :
    (∀ straps s, (readStraps straps s).locks = s.locks) ∧ (∀ s, (discardUnsent s).locks = s.locks) ∧
    (∀ b s, (setResetLine b s).locks = s.locks) ∧ (∀ s, (powerOff s).locks = s.locks) :=
  ⟨fun _ _ => rfl, fun _ => rfl, fun _ _ => rfl, fun _ => rfl⟩

@[simp] theorem settleHolds_locks (s) : (settleHolds s).locks = s.locks := by
  rw [settleHolds, foldl_locks fun s h => applyHold_locks h s]
  rfl

@[simp] theorem resetBlocks_locks (s) : (resetBlocks s).locks = s.locks := Tab.map_map ..

@[simp] theorem lineReset_locks (straps s) : (lineReset straps s).locks = s.locks := by simp [lineReset]

@[simp] theorem assertReset_locks (straps s) : (assertReset straps s).locks = s.locks := by
  unfold assertReset
  exact whenPowered_locks (lineReset_locks _ _)

@[simp] theorem releaseReset_locks (straps s) : (releaseReset straps s).locks = s.locks := by
  unfold releaseReset
  exact whenPowered_locks (by simp)

/-! ## The clock -/

@[simp] theorem clock_updates_locks :
    (∀ detail s, (haltClock detail s).locks = s.locks) ∧
    (∀ day minute second s, (loadClock day minute second s).locks = s.locks) :=
  ⟨fun _ _ => rfl, fun _ _ _ _ => rfl⟩

@[simp] theorem countSecond_locks (s) : (countSecond s).locks = s.locks := by simp [countSecond]

@[simp] theorem referenceEdge_locks (s) : (referenceEdge s).locks = s.locks := by simp [referenceEdge, countEdge]

@[simp] theorem referenceLost_locks (s) : (referenceLost s).locks = s.locks := by simp [referenceLost]

@[simp] theorem takeClockSet_locks (via day minute second force s) :
    (takeClockSet via day minute second force s).locks = s.locks := by
  unfold takeClockSet
  (repeat' split) <;> simp [setUnset, setHalted, setRunning]

/-! ## Every command but the writes of T1 and the power-on reset -/

/-- The commands that may write T1, and the power-on reset. -/
def writesRooms : Instr → Bool
  | .tableWrite .. | .roomStateWrite .. | .alternatesWrite .. | .capacityPartnerWrite .. | .roomNameWrite ..
  | .uplinkFrame _ | .powerOnReset _ => true
  | _ => false

theorem exec_locks {c : Instr} (h : writesRooms c = false) (s : State) :
    ∃ t, exec c s = .next t ∧ t.locks = s.locks := by
  cases c
  case tableWrite | roomStateWrite | alternatesWrite | capacityPartnerWrite | roomNameWrite | uplinkFrame |
    powerOnReset => cases h
  all_goals exact ⟨_, rfl, by simp⟩

/-- A request from the uplink but a TABLE_WRITE. -/
theorem takeRequest_locks {i : Instr} (h : ∀ via table index mask image, i ≠ .tableWrite via table index mask image)
    (s : State) : (takeRequest i s).locks = s.locks := by
  cases i
  case tableWrite => exact absurd rfl (h _ _ _ _ _)
  all_goals simp [takeRequest]

/-! ## The writes of T1 (R15) -/

/-- No locked capacity and no locked partner changes, and no lock opens. -/
def LocksStand (s t : State) : Prop := ∀ r,
  ((s.rooms.get r).capacityLocked = true →
    (t.rooms.get r).capacityLocked = true ∧ (t.rooms.get r).capacity = (s.rooms.get r).capacity) ∧
  ((s.rooms.get r).partnerLocked = true →
    (t.rooms.get r).partnerLocked = true ∧ (t.rooms.get r).partner = (s.rooms.get r).partner)

/-- What stands is read off the locks and the locked values alone. -/
theorem LocksStand.congr {s t u : State} (h : LocksStand s u) (ht : t.locks = u.locks) : LocksStand s t := by
  intro r
  have hr : (t.rooms.get r).lock = (u.rooms.get r).lock := by
    rw [← Tab.get_map Room.lock, ← Tab.get_map Room.lock]
    exact congrArg (fun l => l.get r) ht
  simp only [Room.lock, Prod.mk.injEq] at hr
  obtain ⟨⟨hcl, hc⟩, hpl, hp⟩ := hr
  rw [hcl, hc, hpl, hp]
  exact h r

theorem LocksStand.refl (s : State) : LocksStand s s := fun _ => ⟨fun h => ⟨h, rfl⟩, fun h => ⟨h, rfl⟩⟩

theorem LocksStand.of_locks {s t : State} (h : t.locks = s.locks) : LocksStand s t := (LocksStand.refl s).congr h

theorem LocksStand.whenTaking {s : State} {f : State → State} (h : LocksStand s (f s)) :
    LocksStand s (whenTaking s f) := by
  obtain ht | ht := whenTaking_cases s f <;> rw [ht]
  · exact h
  · exact .refl s

/-- A write leaves a locked value as it stands, and opens no lock (R15). -/
theorem written_locksStand (r : RoomNo) (w : RoomWrite) (state : Option RoomState) (s : State) :
    LocksStand s { s with rooms := s.rooms.set r ((s.rooms.get r).written r w state) } := by
  intro q
  by_cases hq : q = r
  · subst hq
    simp +contextual [Room.written]
  · simp +contextual [hq]

theorem writeRoom_locksStand (index : Nat) (w : RoomWrite) (s : State) : LocksStand s (writeRoom index w s).state := by
  unfold writeRoom
  split
  · exact .refl s
  next r _ => exact (written_locksStand r w (takenState s r w) s).congr (by simp)

/-- The answer to a write changes no room. -/
theorem roomWrite_locksStand (via : Via) (index n : Nat) (w : RoomWrite) (s : State) :
    LocksStand s (answerWrite via 1 index n (writeRoom index w s)) :=
  (writeRoom_locksStand index w s).congr (answerWrite_locks ..)

/-- A TABLE_WRITE of any table but T1 changes no room. -/
theorem writeTable_locksStand (table index m : Nat) (b : Bytes) (s : State) :
    LocksStand s (writeTable table index m b s).state := by
  unfold writeTable
  split
  case h_2 => exact writeRoom_locksStand _ _ _
  all_goals exact .of_locks (by simp)

theorem takeTableWrite_locksStand (via : Via) (table index : Nat) (mask image : Bytes) (s : State) :
    LocksStand s (takeTableWrite via table index mask image s) :=
  (writeTable_locksStand table index (maskNumber mask) image s).congr (answerWrite_locks ..)

/-! ## A request frame at the uplink port (R162, R164) -/

theorem takeRequest_locksStand (i : Instr) (s : State) : LocksStand s (takeRequest i s) := by
  by_cases h : ∃ via table index mask image, i = .tableWrite via table index mask image
  · obtain ⟨via, table, index, mask, image, rfl⟩ := h
    exact takeTableWrite_locksStand via table index mask image s
  · exact .of_locks (takeRequest_locks (by simpa using h) s)

theorem claim_locksStand (via : Via) (e : Envelope) (s : State) : LocksStand s (claim via e s) := by
  unfold claim
  split
  · exact .of_locks (by simp)
  · split
    · exact takeRequest_locksStand _ _
    · exact .of_locks (by simp)

theorem route_locksStand (f : EthFrame) (e : Envelope) (s : State) : LocksStand s (route f e s) := by
  unfold route
  split
  · exact claim_locksStand _ _ _
  · exact .of_locks (by simp)

theorem uplinkFrame_locksStand (f : EthFrame) (s : State) : LocksStand s (uplinkFrame f s) := by
  unfold uplinkFrame
  split
  · exact .refl s
  · split
    · exact .of_locks (by simp)
    · split
      · exact route_locksStand _ _ _
      · exact .of_locks (by simp)

/-- Settles O8: by `exec_locks` for the commands that write no room entry, and by `written_locksStand` for those that
do. -/
theorem lockedCapacityAndPartnerStand : Obligations.LockedCapacityAndPartnerStand := by
  intro c s t hc ht
  change LocksStand s t
  by_cases hw : writesRooms c = false
  · obtain ⟨u, hu, hk⟩ := exec_locks hw s
    cases hu.symm.trans ht
    exact .of_locks hk
  · cases c
    case powerOnReset straps => exact absurd rfl (hc straps)
    case tableWrite => cases ht; exact .whenTaking (takeTableWrite_locksStand _ _ _ _ _ _)
    case uplinkFrame => cases ht; exact .whenTaking (uplinkFrame_locksStand _ _)
    case roomStateWrite | alternatesWrite | capacityPartnerWrite | roomNameWrite =>
      cases ht
      exact .whenTaking (roomWrite_locksStand _ _ _ _ _)
    all_goals exact absurd rfl hw

end Sys2Proof.Machine
end

section
/-!
SUPPORT. The work of the grain scan (R42), block by block, and how the work of one part follows on that of another.
-/

namespace Sys2Proof.Machine

/-! ## The work of a scan -/

/-- The bookings that a part of the scan deals with, in the order in which it does: those `edited` change their state
in their lists, those that have `left` their lists stand there no more, those `missed` raise NO_SHOW_RELEASE, those
`gone` have retired, those `unserved` have lost their tickets, and the loads of the orders `unloaded` are taken off. -/
structure ScanWork where
  edited : List Record := []
  left : List Record := []
  missed : List Record := []
  gone : List Record := []
  unserved : List Record := []
  unloaded : List Order := []

/-- Work, and then more. -/
def ScanWork.andThen (w w' : ScanWork) : ScanWork :=
  { edited := w.edited ++ w'.edited
    left := w.left ++ w'.left
    missed := w.missed ++ w'.missed
    gone := w.gone ++ w'.gone
    unserved := w.unserved ++ w'.unserved
    unloaded := w.unloaded ++ w'.unloaded }

/-- NO_SHOW_RELEASE for a booking, after CATERING_WASTE where its order goes to waste (R89, R116). -/
def noShowRaised (s : State) (b : Record) : State :=
  raise .noShowRelease (.booking b.id) (some b.room) (BitVec.ofNat 32 b.room.val) (wasteRaised b s)

/-- The work has been done: what it leaves of each block, the records and the retire list apart. -/
structure ScanWork.Done (w : ScanWork) (s t : State) : Prop where
  frame : CutFrame s t
  lists : ∀ q, t.store.lists.get q = (s.store.lists.get q).filter fun id =>
    !(w.left.any fun b => b.id == id && (listRooms s b).contains q)
  marks : ∀ q, t.composer.roomMarks.get q = (s.composer.roomMarks.get q ||
    ((w.edited.any fun b => (listRooms s b).contains q) ||
      w.left.any fun b => (listRooms s b).contains q && (s.store.lists.get q).contains b.id))
  exceptions : t.exceptions = (w.missed.foldl noShowRaised s).exceptions
  cells : CellsReturned w.gone s t
  walkIn : t.store.walkIn = s.store.walkIn
  tickets : TicketsGone w.unserved s t
  loads : LoadsGone w.unloaded s t

/-! ## Work after work -/

theorem CutFrame.panels {s u : State} (h : CutFrame s u) : u.panels = s.panels := by rw [h]

/-- The lists that a record belongs in read the rooms alone (R37). -/
theorem CutFrame.listRooms {s u : State} (h : CutFrame s u) (b : Record) : listRooms u b = listRooms s b := by
  rw [Machine.listRooms, Machine.listRooms, h.rooms]

theorem wasteRaised_frame (b : Record) (s : State) : CutFrame s (wasteRaised b s) := by
  unfold CutFrame
  rw [wasteRaised_eq]

theorem noShowRaised_frame (s : State) (b : Record) : CutFrame s (noShowRaised s b) :=
  (wasteRaised_frame b s).trans (.update ..)

/-- The occurrences of a no-show read the dispositions, the Exception Unit and the clock alone. -/
theorem noShowRaised_exceptions_congr {s u : State} (b : Record) (hd : u.dispositions = s.dispositions)
    (hc : u.clock = s.clock) (he : u.exceptions = s.exceptions) :
    (noShowRaised u b).exceptions = (noShowRaised s b).exceptions := by
  have hu := wasteRaised_frame b u
  have hs := wasteRaised_frame b s
  refine raise_exceptions_congr _ _ _ _ ?_ (wasteRaised_exceptions_congr b hd he hc) ?_ rfl
  · rw [hu.dispositions, hs.dispositions, hd]
  · rw [State.grain, State.grain, hu.clock, hs.clock, hc]

theorem foldl_noShowRaised_congr (bs : List Record) {s u : State} (hd : u.dispositions = s.dispositions)
    (hc : u.clock = s.clock) (he : u.exceptions = s.exceptions) :
    (bs.foldl noShowRaised u).exceptions = (bs.foldl noShowRaised s).exceptions := by
  induction bs generalizing s u with
  | nil => exact he
  | cons b bs ih =>
    have hu := noShowRaised_frame u b
    have hs := noShowRaised_frame s b
    exact ih (by rw [hu.dispositions, hs.dispositions, hd]) (by rw [hu.clock, hs.clock, hc])
      (noShowRaised_exceptions_congr b hd hc he)

theorem CellsReturned.nothing {s t : State} (hf : t.store.free = s.store.free)
    (ha : t.store.storeLowArmed = s.store.storeLowArmed) : CellsReturned [] s t :=
  ⟨⟨[], .nil, by simp [hf]⟩, by simp [ha]⟩

theorem CellsReturned.trans {bs cs : List Record} {s u t : State} (h : CellsReturned bs s u)
    (h' : CellsReturned cs u t) : CellsReturned (bs ++ cs) s t := by
  obtain ⟨⟨l, hl, hfree⟩, harm⟩ := h
  obtain ⟨⟨l', hl', hfree'⟩, harm'⟩ := h'
  refine ⟨⟨l ++ l', List.rel_append hl hl', by simp [hfree', hfree]⟩, ?_⟩
  rw [harm', harm, hfree', hfree]
  cases cs with
  | nil =>
    cases hl'
    cases bs <;> simp
  | cons c cs =>
    have hmono : 64 ≤ (s.store.free ++ l.flatten).length →
        64 ≤ (s.store.free ++ l.flatten ++ l'.flatten).length := fun h => h.trans (by simp)
    have hsome : (bs ++ c :: cs).isEmpty = false := by simp
    rw [hsome]
    grind

theorem LoadsGone.trans {os os' : List Order} {s u t : State} (h : LoadsGone os s u) (h' : LoadsGone os' u t) :
    LoadsGone (os ++ os') s t := by
  intro i
  obtain ⟨htag, hload⟩ := h i
  obtain ⟨htag', hload'⟩ := h' i
  refine ⟨htag'.trans htag, fun k slot => ?_⟩
  rw [hload', hload, htag, List.filter_append, List.map_append, List.sum_append, Nat.sub_sub]

/-- The rows of a pantry face read its own kitchen's tickets alone (R127). -/
theorem pantryRows_congr_at {s u : State} {k : KitchenNo} (hk : u.kitchens = s.kitchens)
    (ht : u.catering.tickets.get k = s.catering.tickets.get k) : pantryRows u k = pantryRows s k := by
  unfold pantryRows pantryRow0
  rw [hk, ht]

/-- A face is composed anew with some rows, or stands. -/
def Face.Recomposed (anew : Bool) (rows : Rows) (f f' : Face) : Prop :=
  if anew = true then
    f' = { f with own := rows, dirty := f'.dirty } ∧ ∀ i, f.dirty.get i = true → f'.dirty.get i = true
  else f' = f

theorem Face.Recomposed.trans {p q : Bool} {rows rows' : Rows} {f f' f'' : Face} (h : f.Recomposed p rows f')
    (h' : f'.Recomposed q rows' f'') (hrows : q = false → rows' = rows) : f.Recomposed (p || q) rows' f'' := by
  cases q with
  | false =>
    obtain rfl := hrows rfl
    obtain rfl : f'' = f' := h'
    rwa [Bool.or_false]
  | true =>
    obtain ⟨hf'', hdirty'⟩ : _ ∧ _ := h'
    rw [Bool.or_true]
    cases p with
    | false =>
      obtain rfl : f' = f := h
      exact ⟨hf'', hdirty'⟩
    | true =>
      obtain ⟨hf', hdirty⟩ : _ ∧ _ := h
      exact ⟨hf''.trans (by rw [hf']), fun i hi => hdirty' i (hdirty i hi)⟩

/-- A ticket of a kitchen is one of the bookings named, whose tickets go. -/
def ticketLost (gone : List Record) (k : KitchenNo) (u : Ticket) : Bool :=
  gone.any fun b => b.id == u.booking && b.order.any fun o => o.kitchen == k

/-- What it is for tickets to be gone, face by face. -/
theorem ticketsGone_iff {gone : List Record} {s t : State} : TicketsGone gone s t ↔
    (∀ k, t.catering.tickets.get k = (s.catering.tickets.get k).filter fun u => !ticketLost gone k u) ∧
      (∀ a k, (s.panels.get a).kitchen? = some k →
        (s.composer.faces.get a).Recomposed ((s.catering.tickets.get k).any (ticketLost gone k)) (pantryRows t k)
          (t.composer.faces.get a)) ∧
      ∀ a, (s.panels.get a).kitchen? = none → t.composer.faces.get a = s.composer.faces.get a := by
  unfold TicketsGone
  refine and_congr_right fun _ => ⟨fun h => ⟨fun a k hk => ?_, fun a hk => ?_⟩, fun ⟨h, h'⟩ a => ?_⟩
  · have ha := h a
    rw [hk] at ha
    exact ha
  · have ha := h a
    rw [hk] at ha
    exact ha
  · cases hk : (s.panels.get a).kitchen? with
    | none => exact h' a hk
    | some k => exact h a k hk

/-- Which tickets are gone reads of the bookings which they are, and not their order. -/
theorem TicketsGone.of_mem {bs cs : List Record} {s t : State} (h : TicketsGone bs s t) (hm : ∀ b, b ∈ bs ↔ b ∈ cs) :
    TicketsGone cs s t := by
  have hlost : ticketLost bs = ticketLost cs := by
    funext k u
    rw [ticketLost, ticketLost, Bool.eq_iff_iff, List.any_eq_true, List.any_eq_true]
    simp only [hm]
  rw [ticketsGone_iff, hlost] at h
  exact ticketsGone_iff.2 h

theorem TicketsGone.trans {bs cs : List Record} {s u t : State} (h : TicketsGone bs s u) (h' : TicketsGone cs u t)
    (hp : u.panels = s.panels) (hk : t.kitchens = u.kitchens) : TicketsGone (bs ++ cs) s t := by
  obtain ⟨hu, hface, hstands⟩ := ticketsGone_iff.1 h
  obtain ⟨ht, hface', hstands'⟩ := ticketsGone_iff.1 h'
  have hlost : ∀ k x, ticketLost (bs ++ cs) k x = (ticketLost bs k x || ticketLost cs k x) :=
    fun k x => List.any_append
  rw [hp] at hface' hstands'
  refine ticketsGone_iff.2 ⟨fun k => ?_, fun a k ha => ?_, fun a ha => (hstands' a ha).trans (hstands a ha)⟩
  · rw [ht, hu, List.filter_filter]
    simp only [hlost, Bool.not_or, Bool.and_comm]
  · have hany : (s.catering.tickets.get k).any (ticketLost (bs ++ cs) k) =
        ((s.catering.tickets.get k).any (ticketLost bs k) || (u.catering.tickets.get k).any (ticketLost cs k)) := by
      rw [hu, List.any_filter, Bool.eq_iff_iff]
      simp only [Bool.or_eq_true, List.any_eq_true, hlost, Bool.and_eq_true, Bool.not_eq_true']
      constructor
      · rintro ⟨x, hx, hb | hc⟩
        · exact .inl ⟨x, hx, hb⟩
        · cases hb : ticketLost bs k x
          · exact .inr ⟨x, hx, hb, hc⟩
          · exact .inl ⟨x, hx, hb⟩
      · rintro (⟨x, hx, hb⟩ | ⟨x, hx, -, hc⟩)
        · exact ⟨x, hx, .inl hb⟩
        · exact ⟨x, hx, .inr hc⟩
    rw [hany]
    refine (hface a k ha).trans (hface' a k ha) fun hno => pantryRows_congr_at hk ?_
    rw [ht, List.filter_eq_self]
    intro x hx
    simpa using List.any_eq_false.1 hno x hx

/-- One part of a scan's work after another. -/
theorem ScanWork.Done.andThen {w w' : ScanWork} {s u t : State} (h : w.Done s u) (h' : w'.Done u t) :
    (w.andThen w').Done s t := by
  have hrooms := h.frame.listRooms
  constructor
  case frame => exact h.frame.trans h'.frame
  case lists =>
    intro q
    rw [h'.lists, h.lists, List.filter_filter]
    simp only [ScanWork.andThen, List.any_append, Bool.not_or, Bool.and_comm, hrooms]
  case marks =>
    intro q
    have hleft : ((w.left.any fun b => (listRooms s b).contains q && (s.store.lists.get q).contains b.id) ||
        w'.left.any fun b => (listRooms s b).contains q && (u.store.lists.get q).contains b.id) =
        ((w.left.any fun b => (listRooms s b).contains q && (s.store.lists.get q).contains b.id) ||
        w'.left.any fun b => (listRooms s b).contains q && (s.store.lists.get q).contains b.id) := by
      cases hno : w.left.any fun b => (listRooms s b).contains q && (s.store.lists.get q).contains b.id with
      | true => rfl
      | false =>
        refine congrArg (fun p => w'.left.any p) (funext fun b => congrArg _ ?_)
        rw [Bool.eq_iff_iff, List.contains_iff_mem, List.contains_iff_mem, h.lists, List.mem_filter]
        refine ⟨And.left, fun hb => ⟨hb, ?_⟩⟩
        rw [Bool.not_eq_true', List.any_eq_false]
        intro c hc
        rw [Bool.and_eq_true, beq_iff_eq]
        rintro ⟨hid, hq⟩
        refine List.any_eq_false.1 hno c hc ?_
        rw [hq, hid, Bool.true_and, List.contains_iff_mem]
        exact hb
    rw [h'.marks, h.marks]
    simp only [hrooms, ScanWork.andThen, List.any_append]
    generalize (w.left.any fun b => (listRooms s b).contains q && (s.store.lists.get q).contains b.id) = l at hleft ⊢
    grind
  case exceptions =>
    rw [h'.exceptions, ScanWork.andThen, List.foldl_append]
    have hfold := CutFrame.foldl noShowRaised_frame w.missed s
    refine foldl_noShowRaised_congr _ ?_ ?_ h.exceptions
    · rw [h.frame.dispositions, hfold.dispositions]
    · rw [h.frame.clock, hfold.clock]
  case cells => exact h.cells.trans h'.cells
  case walkIn => exact h'.walkIn.trans h.walkIn
  case tickets => exact h.tickets.trans h'.tickets h.frame.panels h'.frame.kitchens
  case loads => exact h.loads.trans h'.loads

end Sys2Proof.Machine
end

section
/-!
SUPPORT. The pieces of the scan's work on one booking: an edit in its lists, a retirement, a no-show release (R39, R43,
R89), and the transitions that the scan makes of a record before its retirement (R88 to R91).
-/

namespace Sys2Proof.Machine

/-! ## One edit, one no-show, one retirement -/

/-- A record has been changed where it stands, and the rooms of its lists are marked where `marked` says so. -/
structure Edited (b b' : Record) (marked : Bool) (s u : State) : Prop where
  stands : u = { s with
    store := { s.store with records := u.store.records }
    composer := { s.composer with roomMarks := u.composer.roomMarks } }
  own : u.record? b.id = some b'
  others : ∀ x, x ≠ b.id → u.record? x = s.record? x
  marks : ∀ q, u.composer.roomMarks.get q = (s.composer.roomMarks.get q || (marked && (listRooms s b).contains q))

theorem Edited.frame {b b' : Record} {marked : Bool} {s u : State} (h : Edited b b' marked s u) : CutFrame s u :=
  h.stands.trans (by rw [h.stands])

theorem Edited.refl {b : Record} {s : State} (h : s.record? b.id = some b) : Edited b b false s s :=
  ⟨rfl, h, fun _ _ => rfl, fun q => by simp⟩

/-- One edit after another, of a record that belongs in the same lists. -/
theorem Edited.trans {b c d : Record} {p q : Bool} {s u v : State} (h : Edited b c p s u) (h' : Edited c d q u v)
    (hid : c.id = b.id) (hrooms : listRooms s c = listRooms s b) : Edited b d (p || q) s v := by
  refine ⟨h'.stands.trans (by rw [h.stands]), hid ▸ h'.own, fun x hx => ?_, fun r => ?_⟩
  · exact (h'.others x (hid ▸ hx)).trans (h.others x hx)
  · rw [h'.marks, h.marks, h.frame.listRooms, hrooms, Bool.or_assoc, ← Bool.and_or_distrib_right]

theorem markRecord_eq (b : Record) (s : State) : markRecord b s =
    { s with composer := { s.composer with roomMarks := (markRecord b s).composer.roomMarks } } := markRooms_eq _ _

/-- An edit of a stored record with the marks of its rooms (R38). -/
theorem markRecord_edited {b : Record} {s : State} (h : s.record? b.id = some b) (f : Record → Record)
    (hf : ∀ r, (f r).id = r.id) : Edited b (f b) true s (markRecord b (updRecord b.id f s)) := by
  have hfind : ∀ x, (markRecord b (updRecord b.id f s)).record? x = (updRecord b.id f s).record? x := by
    intro x
    rw [markRecord_eq]
    rfl
  refine ⟨?_, ?_, fun x hx => ?_, fun q => markRecord_get b _ q⟩
  · rw [markRecord_eq]
    rfl
  · rw [hfind, updRecord_self _ _ hf, h]
    rfl
  · rw [hfind, updRecord_of_ne _ _ hx _ hf]

/-- An edit is work of the scan. -/
theorem Edited.done {b b' : Record} {marked : Bool} {s u : State} (h : Edited b b' marked s u) :
    ScanWork.Done { edited := if marked then [b] else [] } s u := by
  have hstands := h.stands
  constructor
  case frame => exact h.frame
  case marks => intro q; rw [h.marks]; cases marked <;> simp
  case lists => intro q; rw [hstands]; simp
  case exceptions => rw [hstands]; rfl
  case cells => rw [hstands]; exact .nothing rfl rfl
  case walkIn => rw [hstands]
  case tickets => rw [hstands]; exact .refl_of (by simp) rfl rfl
  case loads => rw [hstands]; exact .none rfl

/-- A record stands for a booking in its lists, its cells and its order's ticket and load, whatever its state. -/
structure Record.Like (c b : Record) : Prop where
  id : c.id = b.id
  room : c.room = b.room
  joined : c.joined = b.joined
  cells : c.cells = b.cells
  order : c.order.map (fun o => (o.kitchen, o.qd, o.load)) = b.order.map fun o => (o.kitchen, o.qd, o.load)

theorem Record.Like.listRooms {b c : Record} (h : c.Like b) (s : State) : listRooms s c = listRooms s b := by
  simp only [Machine.listRooms, h.room, h.joined]

theorem Record.Like.kitchen {b c : Record} (h : c.Like b) : c.order.map (·.kitchen) = b.order.map (·.kitchen) := by
  simpa [Function.comp_def] using congrArg (Option.map Prod.fst) h.order

theorem Record.Like.afterRelease (b : Record) (why : ReleaseReason) : (b.afterRelease why).Like b := by
  refine ⟨rfl, rfl, rfl, rfl, ?_⟩
  cases ho : b.order with
  | none => simp [Record.afterRelease, ho]
  | some o => cases hs : o.state <;> simp [Record.afterRelease, ho, Order.afterRelease, hs]

/-- The order of a record is counted (R105). -/
def Record.counted (b : Record) : Bool := (b.order.map Order.counted).getD false

/-- The loads after a change read the loads before it alone. -/
theorem changeLoad_pages_congr {c d : Catering} (k : KitchenNo) (qd : Nat) (f : Nat → Nat) (h : d.pages = c.pages) :
    (d.changeLoad k qd f).pages = (c.changeLoad k qd f).pages := by
  unfold Catering.changeLoad Catering.carries
  rw [h]
  split
  · rfl
  · exact h

/-- The state of a record does not bear on its lists. -/
theorem listRooms_state (s : State) (b : Record) (st : BookingState) :
    listRooms s { b with state := st } = listRooms s b := rfl

/-- A retirement is work of the scan: the record leaves its lists and the store, with its ticket and its load (R43,
R105, R118). -/
theorem retire_done {b c : Record} {s : State} (h : s.record? b.id = some c) (hc : c.Like b) : ScanWork.Done
    { left := [b], gone := [b], unserved := [b], unloaded := if c.counted then b.order.toList else [] } s
    (retire b.id s) := by
  have hself : s.record? c.id = some c := hc.id.symm ▸ h
  have hstore := retire_store h
  have hrooms := hc.listRooms s
  constructor
  case frame => exact retire_frame _ _
  case lists =>
    intro q
    rw [hstore]
    dsimp only
    rw [removeRecord_get, hrooms]
    by_cases hq : q ∈ Machine.listRooms s b
    · simp [hq, hc.id, bne, Bool.beq_comm]
    · simp [hq]
  case marks =>
    intro q
    rw [retire_marks h, removeRecord_marks, hrooms, hc.id]
    simp
  case exceptions => exact retire_exceptions ..
  case cells =>
    unfold CellsReturned
    rw [hstore]
    exact ⟨⟨[_], .cons ⟨hc.cells ▸ sortBy_perm .., sortBy_pairwise (fun n : Nat => n) c.cells⟩ .nil, by simp⟩, by simp⟩
  case walkIn => rw [hstore]
  case tickets =>
    have hgone := TicketsGone.of_kitchen (b := c) (c := b) (p := true) (retire_tickets hself) hc.id.symm hc.kitchen.symm
    rw [hc.id] at hgone
    exact hgone
  case loads =>
    dsimp only
    split
    next hcount =>
      cases ho : c.order with
      | none => simp [Record.counted, ho] at hcount
      | some o =>
        obtain ⟨p, hp, hlike⟩ : ∃ p, b.order = some p ∧ (o.kitchen, o.qd, o.load) = (p.kitchen, p.qd, p.load) := by
          have horder := hc.order
          rw [ho] at horder
          obtain ⟨p, hp, hlike⟩ := Option.map_eq_some_iff.1 horder.symm
          exact ⟨p, hp, hlike.symm⟩
        obtain ⟨hkitchen, hqd, hload⟩ : o.kitchen = p.kitchen ∧ o.qd = p.qd ∧ o.load = p.load := by simpa using hlike
        rw [hp]
        refine .subtracted ?_
        rw [retire_catering h ho, if_pos (by simpa [Record.counted, ho] using hcount), removeTicket_catering, hkitchen,
          hqd, hload]
        exact changeLoad_pages_congr _ _ _ rfl
    next hcount => exact .none (retire_pages h (by simpa [Record.counted] using hcount))

/-- Which cells have been returned reads of the records their cells alone. -/
theorem CellsReturned.of_cells {bs cs : List Record} {s t : State} (h : CellsReturned bs s t)
    (hc : cs.map (·.cells) = bs.map (·.cells)) : CellsReturned cs s t := by
  obtain ⟨⟨l, hl, hfree⟩, harm⟩ := h
  have hempty : cs.isEmpty = bs.isEmpty := by simpa using congrArg List.isEmpty hc
  have hmap : ∀ ds : List Record,
      List.Forall₂ (fun (b : Record) (c : List Nat) => c.Perm b.cells ∧ c.Pairwise (· ≤ ·)) ds l ↔
      List.Forall₂ (fun (p c : List Nat) => c.Perm p ∧ c.Pairwise (· ≤ ·)) (ds.map (·.cells)) l :=
    fun ds => (List.forall₂_map_left_iff (f := Record.cells)
      (R := fun (p c : List Nat) => c.Perm p ∧ c.Pairwise (· ≤ ·))).symm
  exact ⟨⟨l, (hmap cs).2 (hc ▸ (hmap bs).1 hl), hfree⟩, hempty ▸ harm⟩

/-- The no-show release of a booking is work of the scan, whatever state its record has come to (R89, R116). -/
theorem noShow_done {b : Record} {st : BookingState} {s : State} (h : s.record? b.id = some { b with state := st }) :
    ScanWork.Done
      { left := [b], missed := [b], gone := if b.stays then [] else [b],
        unserved := if b.served || !b.stays then [b] else [],
        unloaded := (b.order.filter fun o => o.state == .placed).toList } s
      (raiseFor .noShowRelease b b.room.val (release b.id .noShow s)) := by
  have hframe := release_frame (b := { b with state := st }) h .noShow
  have hexceptions := release_exceptions (b := { b with state := st }) h .noShow
  obtain ⟨-, -, hlists, hmarks, -, -, hcells, hwalkIn, htickets, hloads⟩ :=
    release_released (b := { b with state := st }) h .noShow
  constructor
  case frame => exact hframe.trans (.update ..)
  case lists =>
    intro q
    refine (hlists q).trans ?_
    by_cases hq : q ∈ listRooms s b
    · simp [hq, listRooms_state, bne, Bool.beq_comm]
    · simp [hq, listRooms_state]
  case marks => exact fun q => (hmarks q).trans (by simp [listRooms_state])
  case exceptions =>
    have hwaste := wasteRaised_frame b s
    refine raise_exceptions_congr _ _ _ _ ?_ hexceptions ?_ rfl
    · rw [hframe.dispositions, hwaste.dispositions]
    · rw [State.grain, State.grain, hframe.clock, hwaste.clock]
  case cells =>
    have hreturned : CellsReturned (if b.stays then [] else [{ b with state := st }]) s _ := hcells
    refine hreturned.of_cells ?_
    cases hstays : b.stays <;> rfl
  case walkIn => exact hwalkIn
  case tickets =>
    have hgone : TicketsGone (if b.served || !b.stays then [b] else []) s (release b.id .noShow s) :=
      TicketsGone.of_kitchen (b := { b with state := st }) (p := b.served || !b.stays) htickets rfl rfl
    exact hgone.congr rfl rfl rfl rfl rfl rfl
  case loads => exact hloads

/-! ## What is due reads the rooms alone -/

variable {g : Nat} {s u : State} {b : Record}

theorem CutFrame.arms (h : CutFrame s u) (g : Nat) (b : Record) : b.arms g u = b.arms g s := by
  rw [Record.arms, Record.arms, h.rooms]

theorem CutFrame.missed (h : CutFrame s u) (g : Nat) (b : Record) : b.missed g u = b.missed g s := by
  rw [Record.missed, Record.missed, h.rooms, h.arms]

theorem CutFrame.unattended (h : CutFrame s u) (g : Nat) (b : Record) : b.unattended g u = b.unattended g s := by
  rw [Record.unattended, Record.unattended, h.rooms, h.arms]

theorem CutFrame.scanned (h : CutFrame s u) (g : Nat) (b : Record) : b.scanned g u = b.scanned g s := by
  rw [Record.scanned, Record.scanned, h.missed, h.unattended, h.arms]

theorem CutFrame.retired (h : CutFrame s u) (g : Nat) (b : Record) : b.retired g u = b.retired g s := by
  rw [Record.retired, Record.retired, h.missed, h.scanned]

/-! ## The transitions of one record, one by one (R88 to R90) -/

theorem Record.booked_of_arms (h : b.arms g s = true) : b.state = .booked := by
  simp only [Record.arms, Bool.and_eq_true, beq_iff_eq] at h
  exact h.1

/-- A record that is ARMED, or is to be, is not CHECKED_IN. -/
theorem Record.attended_of_armed (h : (b.state == .armed || b.arms g s) = true) : b.attended g = false := by
  obtain h | h := (Bool.or_eq_true ..).mp h
  · simp [Record.attended, eq_of_beq h]
  · simp [Record.attended, Record.booked_of_arms h]

/-- The record after its arming, where that is due (R88). -/
def Record.armedBy (g : Nat) (s : State) (b : Record) : Record := if b.arms g s then { b with state := .armed } else b

theorem Record.armedBy_like (g : Nat) (s : State) (b : Record) : (b.armedBy g s).Like b := by
  unfold Record.armedBy
  split <;> exact ⟨rfl, rfl, rfl, rfl, rfl⟩

/-- Once armed, a record is not to be armed again, and what else is due of it is what was. -/
theorem Record.armedBy_due (g : Nat) (s : State) (b : Record) : (b.armedBy g s).arms g s = false ∧
    (b.armedBy g s).missed g s = b.missed g s ∧ (b.armedBy g s).unattended g s = b.unattended g s ∧
    (b.armedBy g s).attended g = b.attended g := by
  unfold Record.armedBy
  cases h : b.arms g s
  · exact ⟨h, rfl, rfl, rfl⟩
  · have harmed : Record.arms g s { b with state := .armed } = false := rfl
    refine ⟨harmed, ?_, ?_, ?_⟩
    · simp [Record.missed, h]
    · simp [Record.unattended, h]
    · rw [Record.attended, Record.attended, Record.booked_of_arms h]
      rfl

/-- An end overwrites the state that an arming has written. -/
theorem Record.armedBy_endedWith (g : Nat) (s : State) (b : Record) (why : EndReason) :
    (b.armedBy g s).endedWith why = b.endedWith why := by
  unfold Record.armedBy
  split <;> rfl

theorem armDue_edited (h : s.record? b.id = some b) :
    Edited b (b.armedBy g s) (b.arms g s) s (armDue g b.id s) := by
  have he : armDue g b.id s =
      if b.arms g s then markRecord b (updRecord b.id (fun r => { r with state := .armed }) s) else s := by
    simp [armDue, h, Record.arms]
  rw [he, Record.armedBy]
  cases b.arms g s
  · exact .refl h
  · exact markRecord_edited h (fun r => { r with state := .armed }) fun _ => rfl

theorem endDue_edited (h : s.record? b.id = some b) :
    Edited b (if b.attended g then b.endedWith .normal else b) (b.attended g) s (endDue g b.id s) := by
  have he : endDue g b.id s =
      if b.attended g then markRecord b (updRecord b.id (Record.endedWith .normal) s) else s := by
    simp [endDue, h, Record.attended]
  rw [he]
  cases b.attended g
  · exact .refl h
  · exact markRecord_edited h (Record.endedWith .normal) fun _ => rfl

/-- The absence of a record that is not to be armed (R89, R90). -/
theorem absenceDue_eq (h : s.record? b.id = some b) (ha : b.arms g s = false) : absenceDue g b.id s =
    if b.missed g s then raiseFor .noShowRelease b b.room.val (release b.id .noShow s)
    else if b.unattended g s then markRecord b (updRecord b.id (Record.endedWith .unattended) s) else s := by
  by_cases harmed : b.state = .armed
  · by_cases hgrace : (s.rooms.get b.room).grace = 0 <;>
      simp [absenceDue, h, harmed, hgrace, Record.missed, Record.unattended]
  · simp [absenceDue, h, harmed, ha, Record.missed, Record.unattended]

theorem absenceDue_edited (h : s.record? b.id = some b) (ha : b.arms g s = false) (hm : b.missed g s = false) :
    Edited b (if b.unattended g s then b.endedWith .unattended else b) (b.unattended g s) s
      (absenceDue g b.id s) := by
  rw [absenceDue_eq h ha, hm]
  cases b.unattended g s
  · exact .refl h
  · exact markRecord_edited h (Record.endedWith .unattended) fun _ => rfl

theorem retireDue_eq {c : Record} {id : BookingId} (h : s.record? id = some c) : retireDue g id s =
    if ((c.state == .ended || c.state == .released) && decide (c.retireGrain ≤ g)) = true then retire id s else s := by
  simp [retireDue, h]

/-! ## The transitions of one record together (R91) -/

/-- The transitions due of a record, before its retirement. -/
def transitions (g : Nat) (id : BookingId) (s : State) : State := endDue g id (absenceDue g id (armDue g id s))

theorem scanRecord_eq (g : Nat) (s : State) (id : BookingId) :
    scanRecord g s id = retireDue g id (transitions g id s) := rfl

/-- A no-show is due alone, as is an unattended end (R89, R90). -/
theorem Record.due_of_missed (hm : b.missed g s = true) : b.unattended g s = false ∧ b.attended g = false := by
  rw [Record.missed, Bool.and_eq_true, decide_eq_true_eq] at hm
  obtain ⟨harmed, hgrace, -⟩ := hm
  exact ⟨by simp [Record.unattended, hgrace], Record.attended_of_armed harmed⟩

theorem Record.attended_of_unattended (hu : b.unattended g s = true) : b.attended g = false := by
  rw [Record.unattended, Bool.and_eq_true] at hu
  exact Record.attended_of_armed hu.1

/-- A record that is not released changes its state in its lists. -/
theorem transitions_edited (h : s.record? b.id = some b) (hm : b.missed g s = false) :
    Edited b (b.scanned g s) (b.arms g s || b.unattended g s || b.attended g) s (transitions g b.id s) := by
  obtain ⟨harms, hmissed, hunattended, hattended⟩ := b.armedBy_due g s
  have hlike := b.armedBy_like g s
  have harm := armDue_edited (g := g) h
  unfold transitions
  generalize armDue g b.id s = u at harm
  have hfu := harm.frame
  have habs := absenceDue_edited (s := u) (b := b.armedBy g s) (g := g) (hlike.id.symm ▸ harm.own)
    ((hfu.arms ..).trans harms) ((hfu.missed ..).trans (hmissed.trans hm))
  rw [hfu.unattended, hunattended, hlike.id] at habs
  generalize absenceDue g b.id u = v at habs
  have huv := harm.trans habs hlike.id (hlike.listRooms s)
  have hc : (if b.unattended g s then (b.armedBy g s).endedWith .unattended else b.armedBy g s).Like b := by
    split
    · exact ⟨hlike.id, hlike.room, hlike.joined, hlike.cells, hlike.order⟩
    · exact hlike
  have hend := endDue_edited (s := v) (g := g) (hc.id.symm ▸ huv.own)
  have hdue : Record.attended g (if b.unattended g s then (b.armedBy g s).endedWith .unattended else b.armedBy g s) =
      b.attended g := by
    split
    next hu => rw [Record.attended_of_unattended hu]; rfl
    next => exact hattended
  have hscanned : (if b.attended g then Record.endedWith .normal
        (if b.unattended g s then (b.armedBy g s).endedWith .unattended else b.armedBy g s)
      else if b.unattended g s then (b.armedBy g s).endedWith .unattended else b.armedBy g s) = b.scanned g s := by
    rw [Record.scanned, hm, b.armedBy_endedWith]
    cases hu : b.unattended g s
    · simp only [Bool.false_eq_true, if_false, b.armedBy_endedWith]
      rfl
    · rw [Record.attended_of_unattended hu]
      rfl
  rw [hdue, hscanned, hc.id] at hend
  exact huv.trans hend hc.id (hc.listRooms s)

end Sys2Proof.Machine
end

section
/-!
SUPPORT. The grain scan's work on one record (R91, R42), and that it leaves nothing due.
-/

namespace Sys2Proof.Machine

variable {g : Nat} {s u : State} {b : Record}

/-- What the scan leaves of a record (R42). -/
def Record.met (g : Nat) (s : State) (b : Record) : Option Record :=
  if b.retired g s then none else some (b.scanned g s)

/-- The counted orders of some records, whose loads go with them (R105). -/
def countedOrders (bs : List Record) : List Order :=
  (bs.filterMap fun b => b.order).filter fun o => o.state != .cancelled

@[simp] theorem countedOrders_nil : countedOrders [] = [] := rfl

theorem countedOrders_append (bs cs : List Record) :
    countedOrders (bs ++ cs) = countedOrders bs ++ countedOrders cs := by
  simp only [countedOrders, List.filterMap_append, List.filter_append]

theorem countedOrders_one (b : Record) : countedOrders [b] = if b.counted then b.order.toList else [] := by
  unfold countedOrders
  cases h : b.order with
  | none => simp [h]
  | some o =>
    have hcounted : b.counted = (o.state != .cancelled) := by rw [Record.counted, h]; rfl
    rw [hcounted]
    cases hc : o.state != .cancelled <;> simp [h, hc]

/-- The scan's work on some records, in their order. -/
def scanWork (g : Nat) (s : State) (bs : List Record) : ScanWork :=
  let gone := bs.filter fun b => b.retired g s
  { edited := bs.filter fun b => b.arms g s || b.unattended g s || b.attended g
    left := bs.filter fun b => b.missed g s || b.retired g s
    missed := bs.filter fun b => b.missed g s
    gone := gone
    unserved := bs.filter fun b => b.retired g s || (b.missed g s && b.served)
    unloaded := countedOrders gone }

theorem scanWork_cons (g : Nat) (s : State) (b : Record) (bs : List Record) :
    scanWork g s (b :: bs) = (scanWork g s [b]).andThen (scanWork g s bs) := by
  have hcons : ∀ p : Record → Bool, (b :: bs).filter p = [b].filter p ++ bs.filter p := fun p =>
    List.filter_append (p := p) [b] bs
  simp only [scanWork, ScanWork.andThen, hcons, countedOrders_append]

/-- Work is what it is of the bookings that are in it, where their order does not count. -/
theorem ScanWork.Done.of_mem {w w' : ScanWork} (h : w.Done s u) (hedited : w'.edited = w.edited)
    (hleft : ∀ b, b ∈ w.left ↔ b ∈ w'.left) (hmissed : w'.missed = w.missed) (hgone : w'.gone = w.gone)
    (hunserved : ∀ b, b ∈ w.unserved ↔ b ∈ w'.unserved) (hunloaded : w'.unloaded = w.unloaded) : w'.Done s u := by
  have hany : ∀ p : Record → Bool, w'.left.any p = w.left.any p := by
    intro p
    rw [Bool.eq_iff_iff, List.any_eq_true, List.any_eq_true]
    simp only [hleft]
  constructor
  case frame => exact h.frame
  case lists => intro q; rw [h.lists]; simp only [hany]
  case marks => intro q; rw [h.marks, hany, hedited]
  case exceptions => rw [hmissed]; exact h.exceptions
  case cells => rw [hgone]; exact h.cells
  case walkIn => exact h.walkIn
  case tickets => exact h.tickets.of_mem hunserved
  case loads => rw [hunloaded]; exact h.loads

/-- What the scan of one record leaves: its work is done, the record is as it should be, no other is changed, and it
leaves the retire list, or joins it, where it should (R39, R41, R43). -/
structure RecordScanned (g : Nat) (b : Record) (s t : State) : Prop where
  done : (scanWork g s [b]).Done s t
  own : t.record? b.id = b.met g s
  others : ∀ x, x ≠ b.id → t.record? x = s.record? x
  retireList : ∀ id, id ∈ t.store.retireList ↔ (id ∈ s.store.retireList ∧ ¬ (b.retired g s = true ∧ b.id = id)) ∨
    (b.id = id ∧ b.missed g s = true ∧ b.retired g s = false)

/-- A retirement takes its record from the retire list, and no other (R43). -/
theorem retire_retireList {id : BookingId} {c : Record} (h : s.record? id = some c) (x : BookingId) :
    x ∈ (retire id s).store.retireList ↔ x ∈ s.store.retireList ∧ id ≠ x := by
  rw [retire_store h, List.mem_filter, bne_iff_ne, ne_comm]

theorem Record.scanned_of_missed (hm : b.missed g s = true) : b.scanned g s = b.afterRelease .noShow := if_pos hm

/-- A record that outlasts its release, or is not released, retires at its retire grain (R42). -/
theorem Record.retired_eq (hs : b.missed g s = true → b.stays = true) : b.retired g s =
    (((b.scanned g s).state == .ended || (b.scanned g s).state == .released) &&
      decide ((b.scanned g s).retireGrain ≤ g)) := by
  have hstays : (b.missed g s && !b.stays) = false := by
    cases hm : b.missed g s
    · rfl
    · simp [hs hm]
  rw [Record.retired, hstays, Bool.false_or]

theorem Record.scanned_order (hm : b.missed g s = false) : (b.scanned g s).order = b.order := by
  rw [Record.scanned, hm, if_neg Bool.false_ne_true]
  (repeat' split) <;> rfl

theorem Record.scanned_like (g : Nat) (s : State) (b : Record) : (b.scanned g s).Like b := by
  unfold Record.scanned
  split
  · exact .afterRelease b .noShow
  · (repeat' split) <;> exact ⟨rfl, rfl, rfl, rfl, rfl⟩

/-- The retirement of one record takes off the load of a counted order. -/
theorem scanWork_unloaded_one (hr : b.retired g s = true) :
    (scanWork g s [b]).unloaded = if b.counted then b.order.toList else [] := by
  have hgone : ([b].filter fun b => b.retired g s) = [b] := by simp [hr]
  rw [scanWork, hgone, countedOrders_one]

/-- A release that its record does not outlast takes off the load of a PLACED order, the only one that is counted. -/
theorem Record.placed_of_leaves (hs : b.stays = false) : (b.order.filter fun o => o.state == .placed).toList =
    if b.counted then b.order.toList else [] := by
  unfold Record.stays at hs
  unfold Record.counted
  cases h : b.order with
  | none => rfl
  | some o => cases ho : o.state <;> simp [h, ho, Order.counted] at hs ⊢

/-- One that it outlasts takes off none, and its order is counted as before. -/
theorem Record.placed_of_stays (hs : b.stays = true) :
    (b.order.filter fun o => o.state == .placed) = none ∧ b.counted = true := by
  unfold Record.stays at hs
  unfold Record.counted
  cases h : b.order with
  | none => simp [h] at hs
  | some o => cases ho : o.state <;> simp [h, ho, Order.counted] at hs ⊢

/-- The order of a record that the transitions keep is counted as before. -/
theorem Record.scanned_counted (hs : b.missed g s = true → b.stays = true) : (b.scanned g s).counted = b.counted := by
  cases hm : b.missed g s with
  | false => rw [Record.counted, Record.scanned_order hm, ← Record.counted]
  | true =>
    obtain ⟨-, hcounted⟩ := Record.placed_of_stays (hs hm)
    rw [Record.scanned_of_missed hm, hcounted]
    exact (Record.stays_iff .noShow b).trans (hs hm)

/-- The work of the transitions of a record that they keep in the store. -/
def transitionWork (g : Nat) (s : State) (b : Record) : ScanWork :=
  { scanWork g s [b] with
    left := if b.missed g s then [b] else []
    gone := []
    unserved := if b.missed g s && b.served then [b] else []
    unloaded := [] }

/-- What the transitions of a record leave, where they keep it in the store (R88 to R91). -/
structure Transited (g : Nat) (b : Record) (s v : State) : Prop where
  done : (transitionWork g s b).Done s v
  own : v.record? b.id = some (b.scanned g s)
  others : ∀ x, x ≠ b.id → v.record? x = s.record? x
  retireList : ∀ x, x ∈ v.store.retireList ↔ x ∈ s.store.retireList ∨ (b.id = x ∧ b.missed g s = true)

/-- Then the record retires where that is due (R42). -/
theorem Transited.scanned {v : State} (h : Transited g b s v) (hs : b.missed g s = true → b.stays = true) :
    RecordScanned g b s (retireDue g b.id v) := by
  rw [retireDue_eq h.own, ← Record.retired_eq hs]
  cases hr : b.retired g s with
  | false =>
    refine ⟨h.done.of_mem rfl ?_ rfl ?_ ?_ ?_, ?_, h.others, fun x => ?_⟩
    · cases hm : b.missed g s <;> simp [transitionWork, scanWork, hm, hr]
    · simp [transitionWork, scanWork, hr]
    · cases hm : b.missed g s && b.served <;> simp [transitionWork, scanWork, hm, hr]
    · simp [transitionWork, scanWork, hr]
    · simp [h.own, Record.met, hr]
    · simp [h.retireList, hr]
  | true =>
    have hretire := retire_done h.own (b.scanned_like g s)
    rw [if_pos rfl]
    refine ⟨(h.done.andThen hretire).of_mem ?_ ?_ ?_ ?_ ?_ ?_, ?_, fun x hx => ?_, fun x => ?_⟩
    · simp [ScanWork.andThen, transitionWork]
    · cases hm : b.missed g s <;> simp [ScanWork.andThen, transitionWork, scanWork, hm, hr]
    · simp [ScanWork.andThen, transitionWork]
    · simp [ScanWork.andThen, transitionWork, scanWork, hr]
    · cases hm : b.missed g s && b.served <;> simp [ScanWork.andThen, transitionWork, scanWork, hm, hr]
    · rw [scanWork_unloaded_one hr, ← Record.scanned_counted hs]
      rfl
    · rw [retire_record?, Record.met, hr]
      rfl
    · rw [retire_record?_of_ne h.own hx, h.others x hx]
    · rw [retire_retireList h.own, h.retireList, hr]
      grind

/-- A record that is not released is kept. -/
theorem transitions_of_not_missed (h : s.record? b.id = some b) (hm : b.missed g s = false) :
    Transited g b s (transitions g b.id s) := by
  have he := transitions_edited h hm
  have hwork : transitionWork g s b =
      { edited := if b.arms g s || b.unattended g s || b.attended g then [b] else [] } := by
    simp [transitionWork, scanWork, List.filter_cons, hm]
  exact ⟨hwork ▸ he.done, he.own, he.others, fun x => by rw [he.stands]; simp [hm]⟩

/-- What a no-show release leaves of the records and of the retire list, whatever state the record has come to (R39,
R41). -/
theorem noShow_records {st : BookingState} {v : State} (h : s.record? b.id = some { b with state := st })
    (hv : raiseFor .noShowRelease b b.room.val (release b.id .noShow s) = v) :
    v.record? b.id = (if b.stays then some (b.afterRelease .noShow) else none) ∧
    (∀ x, x ≠ b.id → v.record? x = s.record? x) ∧
    ∀ x, x ∈ v.store.retireList ↔ (b.stays = true ∧ x = b.id) ∨
      (x ∈ s.store.retireList ∧ (b.stays = true ∨ x ≠ b.id)) := by
  obtain ⟨hothers, hown, -, -, hjoins, hleaves, -⟩ := release_released (b := { b with state := st }) h .noShow
  subst hv
  refine ⟨hown, hothers, fun x => ?_⟩
  change x ∈ (release b.id .noShow s).store.retireList ↔ _
  cases hs : b.stays with
  | true =>
    obtain ⟨before, after, hsplit, hjoin, -⟩ := hjoins hs
    rw [hsplit, hjoin]
    simp only [List.mem_append, List.mem_cons]
    tauto
  | false =>
    rw [hleaves hs]
    simp

theorem endDue_of_not {id : BookingId} (h : ∀ c, s.record? id = some c → c.state ≠ .checkedIn) :
    endDue g id s = s := by
  unfold endDue
  split
  · rfl
  next c hc => exact if_neg fun hdue => h c hc hdue.1

/-- A record that is released is not met CHECKED_IN after that. -/
theorem transitions_missed (h : s.record? b.id = some b) (hm : b.missed g s = true) : ∃ st u,
    Edited b { b with state := st } (b.arms g s) s u ∧
      transitions g b.id s = raiseFor .noShowRelease b b.room.val (release b.id .noShow u) := by
  obtain ⟨harms, hmissed, -⟩ := b.armedBy_due g s
  have hlike := b.armedBy_like g s
  have harm := armDue_edited (g := g) h
  have hstate : b.armedBy g s = { b with state := (b.armedBy g s).state } := by
    unfold Record.armedBy
    split <;> rfl
  unfold transitions
  generalize armDue g b.id s = u at harm
  have hfu := harm.frame
  have habs := absenceDue_eq (s := u) (b := b.armedBy g s) (g := g) (hlike.id.symm ▸ harm.own)
    ((hfu.arms ..).trans harms)
  rw [hfu.missed, hmissed, hm, if_pos rfl, hlike.id] at habs
  rw [hstate] at harm habs
  refine ⟨_, u, harm, ?_⟩
  rw [habs]
  refine endDue_of_not fun c hc => ?_
  obtain ⟨hown, -⟩ := noShow_records harm.own rfl
  have hc := hown.symm.trans hc
  split at hc <;> cases hc
  exact nofun

theorem scanRecord_of_missed (h : s.record? b.id = some b) (hm : b.missed g s = true) :
    RecordScanned g b s (scanRecord g s b.id) := by
  obtain ⟨st, u, he, htransitions⟩ := transitions_missed h hm
  obtain ⟨hun, hat⟩ := Record.due_of_missed hm
  have hedited : (scanWork g s [b]).edited = if b.arms g s then [b] else [] := by
    simp [scanWork, List.filter_cons, hun, hat]
  have hwork := he.done.andThen (noShow_done he.own)
  obtain ⟨hown, hothers, hretireList⟩ := noShow_records he.own htransitions.symm
  have hlist : u.store.retireList = s.store.retireList := by rw [he.stands]
  rw [← htransitions] at hwork
  rw [hlist] at hretireList
  rw [scanRecord_eq]
  generalize transitions g b.id s = v at hown hothers hretireList hwork
  have hothers : ∀ x, x ≠ b.id → v.record? x = s.record? x := fun x hx => (hothers x hx).trans (he.others x hx)
  cases hs : b.stays with
  | true =>
    obtain ⟨hplaced, -⟩ := Record.placed_of_stays hs
    rw [hs, if_pos rfl, ← Record.scanned_of_missed hm] at hown
    refine Transited.scanned ⟨hwork.of_mem ?_ ?_ ?_ ?_ ?_ ?_, hown, hothers, fun x => ?_⟩ fun _ => hs
    · simp [ScanWork.andThen, transitionWork, hedited]
    · simp [ScanWork.andThen, transitionWork, hm]
    · simp [ScanWork.andThen, transitionWork, scanWork, hm]
    · simp [ScanWork.andThen, transitionWork, hs]
    · simp [ScanWork.andThen, transitionWork, hs, hm]
    · simp [ScanWork.andThen, transitionWork, hplaced]
    · simp [hretireList, hs, hm, eq_comm, or_comm]
  | false =>
    have hr : b.retired g s = true := by simp [Record.retired, hm, hs]
    have hgone : retireDue g b.id v = v := by
      unfold retireDue
      rw [hown, hs]
      rfl
    rw [hgone]
    refine ⟨hwork.of_mem ?_ ?_ ?_ ?_ ?_ ?_, ?_, hothers, fun x => ?_⟩
    · simp [ScanWork.andThen, hedited]
    · simp [ScanWork.andThen, scanWork, hr]
    · simp [ScanWork.andThen, scanWork, hm]
    · simp [ScanWork.andThen, scanWork, hr, hs]
    · simp [ScanWork.andThen, scanWork, hr, hs]
    · rw [scanWork_unloaded_one hr, ← Record.placed_of_leaves hs]
      rfl
    · rw [hown, hs, Record.met, hr]
      rfl
    · rw [hretireList]
      simp [hm, hr, hs, eq_comm]

theorem scanRecord_scanned (g : Nat) (h : s.record? b.id = some b) : RecordScanned g b s (scanRecord g s b.id) := by
  cases hm : b.missed g s with
  | false => exact (transitions_of_not_missed h hm).scanned fun hc => absurd (hm.symm.trans hc) Bool.false_ne_true
  | true => exact scanRecord_of_missed h hm

theorem scanRecord_of_none {id : BookingId} (h : s.record? id = none) : scanRecord g s id = s := by
  have harm : armDue g id s = s := by simp [armDue, h]
  have habsence : absenceDue g id s = s := by simp [absenceDue, h]
  have hend : endDue g id s = s := by simp [endDue, h]
  simp [scanRecord, harm, habsence, hend, retireDue, h]

/-- One record's scan, seen at every id. -/
theorem scanRecord_record? (g : Nat) (s : State) (id x : BookingId) : (scanRecord g s id).record? x =
    if x = id then (s.record? x).bind (Record.met g s) else s.record? x := by
  cases h : s.record? id with
  | none =>
    rw [scanRecord_of_none h]
    split
    next hx => rw [hx, h]; rfl
    next => rfl
  | some b =>
    obtain rfl := record?_id h
    have hscanned := scanRecord_scanned g h
    split
    next hx => rw [hx, hscanned.own, h]; rfl
    next hx => exact hscanned.others x hx

theorem scanRecord_frame (g : Nat) (s : State) (id : BookingId) : CutFrame s (scanRecord g s id) := by
  cases h : s.record? id with
  | none => rw [scanRecord_of_none h]; exact .refl
  | some b => obtain rfl := record?_id h; exact (scanRecord_scanned g h).done.frame

/-! ## Nothing is due of a record that the scan has met (R91) -/

theorem CutFrame.met (h : CutFrame s u) (g : Nat) (b : Record) : b.met g u = b.met g s := by
  rw [Record.met, Record.met, h.retired, h.scanned]

/-- What is due of a record, as the scan tells it. -/
theorem scanDue_iff : ScanDue g s b ↔ b.arms g s = true ∨ b.missed g s = true ∨ b.unattended g s = true ∨
    b.attended g = true ∨ ((b.state = .ended ∨ b.state = .released) ∧ b.retireGrain ≤ g) := by
  have harms : b.arms g s = true ↔ b.state = .booked ∧ b.qs ≤ g + (s.rooms.get b.room).earlyWindow := by
    simp [Record.arms]
  unfold ScanDue
  dsimp only
  rw [← harms]
  cases ha : b.arms g s <;> simp [Record.missed, Record.unattended, Record.attended, ha]

/-- The scan leaves a record of which nothing is due. -/
theorem Record.met_of_not_due (h : ¬ ScanDue g s b) : b.met g s = some b := by
  rw [scanDue_iff] at h
  simp only [not_or, Bool.not_eq_true] at h
  obtain ⟨harms, hmissed, hunattended, hattended, hretire⟩ := h
  have hscanned : b.scanned g s = b := by simp [Record.scanned, hmissed, hunattended, hattended, harms]
  have hretired : b.retired g s = false := by
    rw [Record.retired_eq (by simp [hmissed]), hscanned]
    simpa using hretire
  rw [Record.met, hretired, hscanned]
  rfl

theorem not_due_of_over (h : b.state = .ended ∨ b.state = .released) (hg : ¬ b.retireGrain ≤ g) : ¬ ScanDue g s b := by
  unfold ScanDue
  obtain h | h := h <;> simp [h, hg]

/-- Of a record that it keeps, nothing is due any more. -/
theorem Record.not_due_of_met {c : Record} (h : b.met g s = some c) : ¬ ScanDue g s c := by
  unfold Record.met at h
  split at h
  next => cases h
  next hr =>
    obtain rfl : b.scanned g s = c := Option.some.inj h
    have hwaits : (b.scanned g s).state = .ended ∨ (b.scanned g s).state = .released →
        ¬ (b.scanned g s).retireGrain ≤ g := by
      simp only [Record.retired, Bool.or_eq_true, Bool.and_eq_true, not_or, beq_iff_eq, decide_eq_true_eq,
        not_and] at hr
      exact hr.2
    by_cases hover : b.missed g s = true ∨ b.unattended g s = true ∨ b.attended g = true
    · have hstate : (b.scanned g s).state = .ended ∨ (b.scanned g s).state = .released := by
        unfold Record.scanned
        split_ifs
        · exact .inr rfl
        · exact .inl rfl
        · exact .inl rfl
        all_goals simp_all
      exact not_due_of_over hstate (hwaits hstate)
    · simp only [not_or, Bool.not_eq_true] at hover
      obtain ⟨hm, hun, hat⟩ := hover
      have hscanned : b.scanned g s = b.armedBy g s := by simp [Record.scanned, hm, hun, hat, Record.armedBy]
      obtain ⟨harms, hmissed, hunattended, hattended⟩ := b.armedBy_due g s
      rw [hscanned] at hwaits ⊢
      rw [scanDue_iff, harms, hmissed, hunattended, hattended, hm, hun, hat]
      simpa using hwaits

end Sys2Proof.Machine
end

section
/-!
SUPPORT. The grain scan's work on a room list and on the retire list (R42), the pieces of a GRAIN_SCAN, and the
statement they settle.
-/

namespace Sys2Proof.Machine

section

variable {g : Nat} {s u : State} {b : Record}

/-! ## A room list (R42) -/

/-- The scan of some ids, seen at any id; an id that stands twice is met twice, to no further effect. -/
theorem scanIds_record? (g : Nat) (ids : List BookingId) (s : State) (x : BookingId) :
    (ids.foldl (scanRecord g) s).record? x =
      if x ∈ ids then (s.record? x).bind (Record.met g s) else s.record? x := by
  induction ids generalizing s with
  | nil => simp
  | cons id ids ih =>
    have hmet : Record.met g (scanRecord g s id) = Record.met g s := funext ((scanRecord_frame g s id).met g)
    have htwice : ((s.record? x).bind (Record.met g s)).bind (Record.met g s) =
        (s.record? x).bind (Record.met g s) := by
      rw [Option.bind_assoc]
      refine Option.bind_congr fun b _ => ?_
      cases h : b.met g s with
      | none => rfl
      | some c => exact Record.met_of_not_due (Record.not_due_of_met h)
    rw [List.foldl_cons, ih, scanRecord_record?, hmet]
    by_cases hx : x = id
    · rw [if_pos hx, htwice, ite_self, if_pos (List.mem_cons.2 (.inl hx))]
    · simp [hx]

/-- What the scan of some records leaves: its work is done, and those that retire leave the retire list, which those
that are released and do not retire join (R41, R43). -/
structure RecordsScanned (g : Nat) (bs : List Record) (s t : State) : Prop where
  done : (scanWork g s bs).Done s t
  retireList : ∀ id, id ∈ t.store.retireList ↔
    (id ∈ s.store.retireList ∧ ∀ b, b ∈ bs.filter (fun b => b.retired g s) → b.id ≠ id) ∨
      ∃ b, b ∈ bs ∧ b.id = id ∧ b.missed g s = true ∧ b.retired g s = false

theorem ScanWork.Done.nothing (s : State) : ScanWork.Done {} s s := by
  refine ⟨.refl, ?_, ?_, rfl, .nothing rfl rfl, rfl, .refl_of ?_ rfl rfl, .none rfl⟩ <;> simp

theorem RecordsScanned.refl (g : Nat) (s : State) : RecordsScanned g [] s s := ⟨.nothing s, by simp⟩

theorem CutFrame.scanWork (h : CutFrame s u) (g : Nat) (bs : List Record) : scanWork g u bs = scanWork g s bs := by
  simp only [Machine.scanWork, h.arms, h.missed, h.unattended, h.retired]

theorem RecordScanned.cons {bs : List Record} {t : State} (h : RecordScanned g b s u) (h' : RecordsScanned g bs u t)
    (hb : ∀ c, c ∈ bs → c.id ≠ b.id) : RecordsScanned g (b :: bs) s t := by
  have hframe := h.done.frame
  have hdone := h'.done
  have hretireList := h'.retireList
  rw [hframe.scanWork] at hdone
  simp only [hframe.missed, hframe.retired] at hretireList
  refine ⟨scanWork_cons g s b bs ▸ h.done.andThen hdone, fun id => ?_⟩
  rw [hretireList, h.retireList]
  simp only [List.mem_filter, List.mem_cons]
  grind

theorem any_or_any {α : Type} (l : List α) (p q : α → Bool) : (l.any p || l.any q) = l.any fun a => p a || q a := by
  induction l with
  | nil => rfl
  | cons a l ih =>
    rw [List.any_cons, List.any_cons, List.any_cons, ← ih]
    ac_rfl

/-- The records that are released or retire leave their lists. -/
theorem RecordsScanned.lists {bs : List Record} {t : State} (h : RecordsScanned g bs s t) (q : RoomNo) :
    t.store.lists.get q = (s.store.lists.get q).filter fun id =>
      !(bs.any fun b => b.id == id && (b.missed g s || b.retired g s) && (listRooms s b).contains q) := by
  refine (h.done.lists q).trans (List.filter_congr fun id _ => ?_)
  rw [scanWork, List.any_filter]
  refine congrArg (fun p => !bs.any p) (funext fun b => ?_)
  exact (Bool.and_left_comm ..).trans (Bool.and_assoc ..).symm

/-- The rooms of the records that change their state are marked, and those whose lists a record leaves. -/
theorem RecordsScanned.marks {bs : List Record} {t : State} (h : RecordsScanned g bs s t) (q : RoomNo) :
    t.composer.roomMarks.get q = (s.composer.roomMarks.get q || bs.any fun b =>
      (listRooms s b).contains q && (b.arms g s || b.unattended g s || b.attended g ||
        ((b.missed g s || b.retired g s) && (s.store.lists.get q).contains b.id))) := by
  refine (h.done.marks q).trans (congrArg _ ?_)
  rw [scanWork, List.any_filter, List.any_filter, any_or_any]
  refine congrArg (fun p => bs.any p) (funext fun b => Eq.trans ?_ (Bool.and_or_distrib_left ..).symm)
  exact congrArg₂ _ (Bool.and_comm ..) (Bool.and_left_comm ..)

theorem scanIds_scanned (g : Nat) (ids : List BookingId) (hids : ids.Nodup) (s : State) :
    RecordsScanned g (ids.filterMap s.record?) s (ids.foldl (scanRecord g) s) := by
  induction ids generalizing s with
  | nil => exact .refl g s
  | cons id ids ih =>
    obtain ⟨hid, hnodup⟩ := List.nodup_cons.1 hids
    rw [List.foldl_cons]
    cases h : s.record? id with
    | none =>
      rw [scanRecord_of_none h, List.filterMap_cons_none h]
      exact ih hnodup s
    | some b =>
      obtain rfl := record?_id h
      have hscanned := scanRecord_scanned g h
      have hrest : ids.filterMap (scanRecord g s b.id).record? = ids.filterMap s.record? :=
        List.filterMap_congr fun x hx => hscanned.others x fun e => hid (e ▸ hx)
      rw [List.filterMap_cons_some h]
      refine hscanned.cons (hrest ▸ ih hnodup _) fun c hc => ?_
      obtain ⟨x, hx, hxc⟩ := List.mem_filterMap.1 hc
      rw [record?_id hxc]
      exact fun e => hid (e ▸ hx)

end

section

variable {g : Nat} {s : State}

/-! ## The retire list (R42) -/

/-- The scan retires some ids, in their order. -/
def retireIds (ids : List BookingId) (s : State) : State := ids.foldl (fun s id => retire id s) s

theorem retireIds_cons (id : BookingId) (ids : List BookingId) (s : State) :
    retireIds (id :: ids) s = retireIds ids (retire id s) := rfl

theorem retire_of_none {id : BookingId} (h : s.record? id = none) : retire id s = s := by
  unfold retire
  rw [h]

theorem retireIds_frame (ids : List BookingId) (s : State) : CutFrame s (retireIds ids s) :=
  CutFrame.foldl (fun s id => retire_frame id s) ids s

theorem retireIds_exceptions (ids : List BookingId) (s : State) : (retireIds ids s).exceptions = s.exceptions := by
  induction ids generalizing s with
  | nil => rfl
  | cons id ids ih => rw [retireIds_cons, ih, retire_exceptions]

/-- A retirement, seen at every id. -/
theorem retire_record?_eq (id x : BookingId) (s : State) :
    (retire id s).record? x = if x = id then none else s.record? x := by
  split
  next hx => rw [hx, retire_record?]
  next hx =>
    cases h : s.record? id with
    | none => rw [retire_of_none h]
    | some b => exact retire_record?_of_ne h hx

theorem retireIds_record? (ids : List BookingId) (s : State) (x : BookingId) :
    (retireIds ids s).record? x = if x ∈ ids then none else s.record? x := by
  induction ids generalizing s with
  | nil => simp [retireIds]
  | cons id ids ih =>
    rw [retireIds_cons, ih, retire_record?_eq]
    by_cases hx : x = id <;> simp [hx]

/-- The retirement of some records, as work of the scan. -/
def retireWork (bs : List Record) : ScanWork :=
  { left := bs, gone := bs, unserved := bs, unloaded := countedOrders bs }

theorem retireIds_done (ids : List BookingId) (hids : ids.Nodup) (s : State) :
    (retireWork (ids.filterMap s.record?)).Done s (retireIds ids s) := by
  induction ids generalizing s with
  | nil => exact .nothing s
  | cons id ids ih =>
    obtain ⟨hid, hnodup⟩ := List.nodup_cons.1 hids
    rw [retireIds_cons]
    cases h : s.record? id with
    | none =>
      rw [retire_of_none h, List.filterMap_cons_none h]
      exact ih hnodup s
    | some b =>
      obtain rfl := record?_id h
      have hrest : ids.filterMap (retire b.id s).record? = ids.filterMap s.record? :=
        List.filterMap_congr fun x hx => retire_record?_of_ne h fun e => hid (e ▸ hx)
      rw [List.filterMap_cons_some h]
      have hone := retire_done h ⟨rfl, rfl, rfl, rfl, rfl⟩
      have hwork : retireWork (b :: ids.filterMap s.record?) =
          ScanWork.andThen (retireWork [b]) (retireWork (ids.filterMap s.record?)) := by
        simp only [retireWork, ScanWork.andThen, ← countedOrders_append]
        rfl
      rw [← countedOrders_one] at hone
      rw [hwork]
      exact ScanWork.Done.andThen hone (hrest ▸ ih hnodup _)

theorem retireIds_retireList (ids : List BookingId) (s : State)
    (h : ∀ id, id ∈ ids → (s.record? id).isSome = true) (hids : ids.Nodup) :
    (retireIds ids s).store.retireList = s.store.retireList.filter fun x => !ids.contains x := by
  induction ids generalizing s with
  | nil => simp [retireIds]
  | cons id ids ih =>
    obtain ⟨hid, hnodup⟩ := List.nodup_cons.1 hids
    obtain ⟨b, hb⟩ := Option.isSome_iff_exists.1 (h id (by simp))
    have hrest : ∀ x, x ∈ ids → ((retire id s).record? x).isSome = true := fun x hx => by
      rw [retire_record?_of_ne hb fun e => hid (e ▸ hx)]
      exact h x (List.mem_cons_of_mem _ hx)
    rw [retireIds_cons, ih _ hrest hnodup, retire_store hb, List.filter_filter]
    refine List.filter_congr fun x _ => ?_
    rw [List.contains_cons, Bool.not_or, Bool.and_comm]
    rfl

/-- What is left of the retire list. -/
theorem retireIds_kept {gone kept : List BookingId} (hl : s.store.retireList = gone ++ kept)
    (hnodup : (gone ++ kept).Nodup) (hall : ∀ id, id ∈ gone → (s.record? id).isSome = true) :
    (retireIds gone s).store.retireList = kept := by
  obtain ⟨hgone, -, hdisjoint⟩ := List.nodup_append'.1 hnodup
  have hnone : gone.filter (fun x => !gone.contains x) = [] := List.filter_eq_nil_iff.2 (by simp)
  have hkeep : kept.filter (fun x => !gone.contains x) = kept :=
    List.filter_eq_self.2 fun x hx => by simpa using fun h => hdisjoint h hx
  rw [retireIds_retireList gone s hall hgone, hl, List.filter_append, hnone, hkeep]
  rfl

/-- The scan retires from the head of the retire list to the first record that retires later. -/
theorem scanRetireList_eq {gone kept : List BookingId} (hl : s.store.retireList = gone ++ kept)
    (hgone : ∀ id, id ∈ gone → ∀ b, s.record? id = some b → b.retireGrain ≤ g)
    (hkept : ∀ id, kept.head? = some id → ∃ b, s.record? id = some b ∧ g < b.retireGrain) :
    scanRetireList g s = retireIds gone s := by
  have htaken : (s.store.retireList.takeWhile fun id => !retiresAfter s.store g id) = gone := by
    rw [hl, List.takeWhile_append_of_pos]
    · cases kept with
      | nil => simp
      | cons id kept =>
        obtain ⟨b, hb, hlate⟩ := hkept id rfl
        rw [List.takeWhile_cons_of_neg, List.append_nil]
        simpa [retiresAfter_of_find (st := s.store) hb] using hlate
    · intro id hid
      cases hlate : retiresAfter s.store g id with
      | false => rfl
      | true =>
        obtain ⟨b, hb, hlt⟩ := retiresAfter_record hlate
        exact absurd (hgone id hid b hb) (Nat.not_le.2 hlt)
  rw [scanRetireList, htaken]
  rfl

/-! ## The pieces of a scan (R42) -/

/-- A part with no boundary in hand and none delivered. -/
theorem scanPiece_idle (h : s.deliveries.scan = none) (hb : s.deliveries.storeBoundaries = []) : scanPiece s = s := by
  have hbegin : beginScan s = s := by simp [beginScan, h, hb]
  simp [scanPiece, hbegin, h]

theorem exec_grainScan_one (hp : s.ports.powerGood = true) : exec (.grainScan 1) s = .next (scanPiece s) := by
  have hone : scanPieces 1 s = scanPiece s := by simp [scanPieces]
  exact congrArg Host.Outcome.next ((whenPowered_of_power hp _).trans hone)

/-- The boundary in hand goes on, and the oldest delivered is taken in hand (R6, R42). -/
theorem beginScan_eq {w : Walk} {rest : List Nat}
    (h : (s.deliveries.scan = some w ∧ rest = s.deliveries.storeBoundaries) ∨
      (w.next = 0 ∧ s.deliveries.scan = none ∧ s.deliveries.storeBoundaries = w.grain :: rest)) :
    beginScan s = { s with deliveries := { s.deliveries with scan := some w, storeBoundaries := rest } } := by
  obtain ⟨hw, rfl⟩ | ⟨hnext, hw, hb⟩ := h
  · simp only [beginScan, hw]
    rw [← hw]
  · obtain ⟨g, n⟩ := w
    obtain rfl : n = 0 := hnext
    simp [beginScan, hw, hb]

theorem scanPiece_room {r : RoomNo} {v : State} (hbegin : beginScan s = v)
    (hv : v.deliveries.scan = some ⟨g, r.val⟩) :
    scanPiece s = setScan (some ⟨g, r.val + 1⟩) ((v.store.lists.get r).foldl (scanRecord g) v) := by
  unfold scanPiece
  rw [hbegin]
  dsimp only
  rw [hv]
  dsimp only
  rw [roomNo?_val]
  rfl

theorem scanPiece_retireList {v : State} (hbegin : beginScan s = v) (hv : v.deliveries.scan = some ⟨g, 96⟩) :
    scanPiece s = setScan none (scanRetireList g v) := by
  unfold scanPiece
  rw [hbegin]
  dsimp only
  rw [hv]
  rfl

/-- What the scan does to a BOOKED record within its early window whose end and grace are still to come (R88). -/
theorem Record.met_of_arms {b : Record} (harms : b.arms g s = true) (hend : g < b.qe)
    (hgrace : (s.rooms.get b.room).grace = 0 ∨ g < b.qs + (s.rooms.get b.room).grace) :
    b.met g s = some { b with state := .armed } := by
  have hm : b.missed g s = false := by
    rw [Record.missed, Bool.and_eq_false_iff, decide_eq_false_iff_not]
    right
    omega
  have hun : b.unattended g s = false := by
    rw [Record.unattended, Bool.and_eq_false_iff, decide_eq_false_iff_not]
    right
    omega
  have hat : b.attended g = false := by simp [Record.attended, Record.booked_of_arms harms]
  have hscanned : b.scanned g s = { b with state := .armed } := by simp [Record.scanned, hm, hun, hat, harms]
  have hr : b.retired g s = false := by simp [Record.retired_eq, hm, hscanned]
  rw [Record.met, hr, hscanned]
  rfl

end

/-- Settles O47. A room list is the fold of `scanRecord` over its ids: `scanIds_record?` gives the records, whatever
stands in the list, and `scanIds_scanned` the blocks, where no id stands twice; the retire list is `retireIds`. -/
theorem grainScanLeavesNothingDueInItsRoom : Obligations.GrainScanLeavesNothingDueInItsRoom := by
  intro s hp
  refine ⟨fun r g rest hw => ?room, fun g hw => ?retireList, fun hscan hb pieces => ?idle⟩
  case room =>
    have hbegin := beginScan_eq (w := ⟨g, r.val⟩) hw
    obtain ⟨v, hv⟩ : ∃ v, v = { s with
      deliveries := { s.deliveries with scan := some ⟨g, r.val⟩, storeBoundaries := rest } } := ⟨_, rfl⟩
    rw [← hv] at hbegin
    have hexec := (exec_grainScan_one hp).trans (congrArg _ (scanPiece_room hbegin (by rw [hv])))
    have hrecord := scanIds_record? g (v.store.lists.get r) v
    have hframe := CutFrame.foldl (scanRecord_frame g) (v.store.lists.get r) v
    have hscanned := fun hnodup => scanIds_scanned g (v.store.lists.get r) hnodup v
    generalize (v.store.lists.get r).foldl (scanRecord g) v = u at hexec hrecord hframe hscanned
    subst hv
    refine ⟨_, hexec, ?frame, ?notDue, ?armed, ?others, fun hnodup => ?blocks⟩
    case frame => exact congrArg (setScan _) hframe
    case notDue =>
      intro id hid b hb hdue
      have hmet := (hrecord id).symm.trans hb
      rw [if_pos hid] at hmet
      obtain ⟨c, -, hc⟩ := Option.bind_eq_some_iff.1 hmet
      refine Record.not_due_of_met hc ?_
      have hrooms := hframe.rooms
      unfold ScanDue at hdue ⊢
      rw [← hrooms]
      exact hdue
    case armed =>
      intro id b hid hb hbooked hearly hroom hend hgrace
      subst hroom
      refine (hrecord id).trans ?_
      rw [if_pos hid]
      refine (congrArg (fun o => Option.bind o _) hb).trans ?_
      exact Record.met_of_arms (by simp [Record.arms, hbooked, hearly]) hend hgrace
    case others => exact fun id hid => (hrecord id).trans (if_neg hid)
    case blocks =>
      have hlist := hscanned hnodup
      have hdone := hlist.done
      refine ⟨fun b hb => ?own, hlist.lists, hlist.retireList, hlist.marks,
        hdone.exceptions.trans (foldl_noShowRaised_congr _ rfl rfl rfl), hdone.cells, hdone.walkIn,
        hdone.tickets.congr rfl rfl rfl rfl rfl rfl, hdone.loads⟩
      case own =>
        obtain ⟨id, hid, hfind⟩ := List.mem_filterMap.1 hb
        obtain rfl := record?_id (s := s) hfind
        refine (hrecord b.id).trans ?_
        rw [if_pos hid]
        exact congrArg (fun o => Option.bind o _) hfind
  case retireList =>
    have hbegin : beginScan s = s := by simp [beginScan, hw]
    refine ⟨_, (exec_grainScan_one hp).trans (congrArg _ (scanPiece_retireList hbegin hw)), ?frame,
      fun gone kept hl hgone hkept => ?_⟩
    case frame =>
      have hframe := retireIds_frame (s.store.retireList.takeWhile fun id => !retiresAfter s.store g id) s
      have hexceptions := retireIds_exceptions (s.store.retireList.takeWhile fun id => !retiresAfter s.store g id) s
      refine (congrArg (setScan none) hframe).trans ?_
      rw [hexceptions]
      rfl
    rw [scanRetireList_eq hl hgone hkept]
    refine ⟨fun id => retireIds_record? gone s id, fun hnodup hall => ?blocks⟩
    case blocks =>
      have hdone := retireIds_done gone hnodup.of_append_left s
      exact ⟨retireIds_kept hl hnodup hall, hdone.walkIn, hdone.lists, hdone.cells,
        hdone.tickets.congr rfl rfl rfl rfl rfl rfl, hdone.loads⟩
  case idle =>
    have hpieces : ∀ n, scanPieces n s = s := by
      intro n
      cases n with
      | zero => rfl
      | succ n => rw [scanPieces, scanPiece_idle hscan hb, if_pos hscan]
    exact congrArg Host.Outcome.next ((whenPowered_of_power hp _).trans (hpieces pieces))

end Sys2Proof.Machine
end

section
/-!
SUPPORT. That every command completes and leaves the commands that wait alone.
-/

namespace Sys2Proof.Machine

/-- The loss of the reference leaves the commands that wait. -/
theorem referenceLost_pending (s : State) : (referenceLost s).pending = s.pending := by
  by_cases h : s.clock.reference = true ∧ s.clock.state = .running
  · rw [referenceLost_of_running h.1 h.2]
    rfl
  · rw [referenceLost_of_not (by simpa [or_iff_not_imp_left] using h)]

theorem takeClockSet_pending (via : Via) (day minute second : Nat) (force : Bool) (s : State) :
    (takeClockSet via day minute second force s).pending = s.pending := by
  obtain h | ⟨-, -, h⟩ := takeClockSet_kept via day minute second force s <;> exact congrArg Prod.snd h

/-- A request from the uplink leaves the commands that wait. -/
theorem takeRequest_pending (i : Instr) (s : State) : (takeRequest i s).pending = s.pending := by
  by_cases h : ∃ via day minute second force, i = .clockSet via day minute second force
  · obtain ⟨via, day, minute, second, force, rfl⟩ := h
    exact takeClockSet_pending via day minute second force s
  · exact congrArg Prod.snd (takeRequest_kept (by simpa using h) s)

theorem claim_pending (via : Via) (e : Envelope) (s : State) : (claim via e s).pending = s.pending := by
  unfold claim
  split
  · exact congrArg Prod.snd (respondCode_kept ..)
  · split
    · exact takeRequest_pending _ s
    · exact congrArg Prod.snd (respondCode_kept ..)

/-- A request frame is claimed, sent on or answered NO_ROUTE. -/
theorem route_pending (f : EthFrame) (e : Envelope) (s : State) : (route f e s).pending = s.pending := by
  unfold route
  split
  · exact claim_pending ..
  · split
    · rfl
    · exact congrArg Prod.snd (respondCode_kept ..)

/-- A frame at the uplink port leaves the commands that wait. -/
theorem uplinkFrame_pending (f : EthFrame) (s : State) : (uplinkFrame f s).pending = s.pending := by
  unfold uplinkFrame
  split
  · rfl
  · split
    · rfl
    · split
      · exact route_pending ..
      · rfl

theorem whenTaking_pending {s : State} {f : State → State} (h : (f s).pending = s.pending) :
    (whenTaking s f).pending = s.pending := by
  obtain hc | hc := whenTaking_cases s f <;> rw [hc]
  exact h

/-- Settles O2: by `exec_kept` for every command that leaves the clock too, and by one lemma for each of the others. -/
theorem everyCommandCompletesAndLeavesTheQueue : Obligations.EveryCommandCompletesAndLeavesTheQueue := by
  intro c s
  by_cases hm : movesClock c = false
  · obtain ⟨t, ht, hk⟩ := exec_kept hm s
    exact ⟨t, ht, congrArg Prod.snd hk⟩
  · cases c
    case referenceEdge =>
      exact ⟨_, rfl, (congrArg Prod.snd (kept_ite ..)).trans (by rw [referenceEdge_kept]; split <;> rfl)⟩
    case referenceLost =>
      refine ⟨_, rfl, ?_⟩
      obtain h | h := whenPowered_cases s referenceLost <;> rw [h]
      exact referenceLost_pending s
    case clockSet => exact ⟨_, rfl, whenTaking_pending (takeClockSet_pending _ _ _ _ _ s)⟩
    case uplinkFrame => exact ⟨_, rfl, whenTaking_pending (uplinkFrame_pending _ s)⟩
    case powerOnReset straps => exact ⟨_, rfl, congrArg Prod.snd (powerOn_kept straps s)⟩
    all_goals exact absurd rfl hm

end Sys2Proof.Machine
end

section
/-!
SUPPORT. Why the room lists need an IDLE engine to have an empty queue: a VACATE that takes a free place wakes the
engine, which then judges the entry that waited within the same command. `PlacementClear` speaks of the flight in hand
alone, so it says nothing of that entry.
-/

namespace Sys2Proof.Machine

/-- A booking of room 0 for the first grain of all, with no setup and no turnaround. -/
def firstGrainBooking : Record :=
  { id := 1#16, room := 0, joined := false, cls := 0, attendees := 1, origin := .uplink, qs := 0, qe := 1, ss := 0,
    se := 1, state := .booked, endReason := none, releaseReason := none, badge := none, retireGrain := 1,
    title := none, order := none, organiser := none, cells := [0] }

/-- An IDLE engine with a BOOK_NOW of no grains waiting for room 0, and a room that waits for its VACATE (R24). -/
def idleWithEntry : State :=
  { State.reset with
    clock := { unsetClock with state := .running, reference := true }
    rooms := Tab.fill 96 { freshRoom with state := .inService, capacity := 1, vacatePending := true }
    store := { emptyStore with
      free := (List.range 3072).drop 1, records := [firstGrainBooking], lists := emptyStore.lists.set 0 [1#16] }
    engine := { queue := [.bookNow ⟨0, 0⟩ 0 0], inFlight := none }
    pending := [.bookNow] }

theorem idleWithEntry_list (q : RoomNo) : idleWithEntry.store.lists.get q = if q = 0 then [1#16] else [] := by
  simp only [idleWithEntry, emptyStore, Tab.get_set, Tab.get_fill]

theorem idleWithEntry_find : idleWithEntry.store.find 1#16 = some firstGrainBooking := rfl

theorem idleWithEntry_listed (q : RoomNo) : idleWithEntry.listed q = if q = 0 then [firstGrainBooking] else [] := by
  rw [State.listed, idleWithEntry_list]
  split <;> simp [idleWithEntry_find]

theorem idleWithEntry_listsLegal : ListsLegal idleWithEntry := by
  intro q
  rw [idleWithEntry_listed]
  split
  · exact ⟨List.pairwise_singleton .., List.length_filter_le ..⟩
  · simp

theorem idleWithEntry_listsAgree : ListsAgree idleWithEntry := by
  refine ⟨by simp [idleWithEntry], fun q => ?_⟩
  rw [idleWithEntry_list]
  by_cases hq : q = 0
  · subst hq
    simp [State.record?, idleWithEntry_find, listRooms, firstGrainBooking]
  · simp [hq]

/-- Nothing is in flight, so nothing is in hand to be inserted. -/
theorem idleWithEntry_placementClear : PlacementClear idleWithEntry := by
  intro f hf
  cases hf

/-- The walk-in of no grains is placed behind the booking that begins at its grain. -/
theorem idleWithEntry_step :
    ∃ t, step idleWithEntry = .next t ∧ ((t.listed 0).map fun b => (b.ss, b.se)) = [(0, 1), (0, 0)] :=
  ⟨_, rfl, by decide +kernel⟩

/-- Refutes O5, by its last clause: the premises leave out that an IDLE engine has an empty queue (R50, a part of
`Engine.Legal`). From `idleWithEntry` the command BOOK_NOW queues the pending VACATE, which wakes the engine, and places
the BOOK_NOW that waited, whose empty span stands level with that of the booking before it. -/
theorem not_stepKeepsTheQueuesAndPagesLegal : ¬ Obligations.StepKeepsTheQueuesAndPagesLegal := by
  intro h
  obtain ⟨t, ht, hspans⟩ := idleWithEntry_step
  obtain ⟨-, -, hlists⟩ := h idleWithEntry t ht
  obtain ⟨horder, -⟩ :=
    hlists idleWithEntry_listsLegal idleWithEntry_listsAgree idleWithEntry_placementClear 0
  have hspan : ((t.listed 0).map fun b => (b.ss, b.se)).Pairwise fun a b => a.1 < b.1 ∧ a.2 ≤ b.1 :=
    List.pairwise_map.2 horder
  rw [hspans] at hspan
  exact absurd hspan (by decide)

end Sys2Proof.Machine
end

section
/-!
SUPPORT. The form of BOOK and MODIFY (R48), and their joining of the admission queue (R49, R50).
-/

namespace Sys2Proof.Machine

/-! ## Form (R48) -/

theorem partForm_iff {α : Type} (p : α → Bool) (o : Option α) : partForm p o = true ↔ ∀ a, o = some a → p a = true := by
  cases o <;> simp [partForm]

theorem titleForm_iff (g : GlyphField) : titleForm g = true ↔ 1 ≤ g.length ∧ g.length ≤ 24 := by simp [titleForm]

theorem attendeesForm_iff (n : Nat) : attendeesForm n = true ↔ 1 ≤ n ∧ n ≤ 500 := by simp [attendeesForm]

theorem orderForm_iff (o : OrderAsk) : orderForm o = true ↔
    o.offset ≤ 6 ∧ 1 ≤ o.count ∧ o.count ≤ 8 ∧ ∀ l, l ∈ o.lines.take o.count → 1 ≤ l.2 ∧ l.2 ≤ 99 := by
  simp [orderForm, askLines, and_assoc]

theorem bookForm_iff (b : BookAsk) : bookForm b = true ↔
    b.room < 96 ∧ 1 ≤ b.attendees ∧ b.attendees ≤ 500 ∧ b.minute < 1440 ∧
      (∀ g, b.title = some g → 1 ≤ g.length ∧ g.length ≤ 24) ∧
      ∀ o, b.order = some o → o.offset ≤ 6 ∧ 1 ≤ o.count ∧ o.count ≤ 8 ∧
        ∀ l, l ∈ o.lines.take o.count → 1 ≤ l.2 ∧ l.2 ≤ 99 := by
  simp only [bookForm, Bool.and_eq_true, decide_eq_true_eq, partForm_iff, attendeesForm_iff, titleForm_iff,
    orderForm_iff, and_assoc]

theorem namesField_iff (m : ModifyAsk) : namesField m = true ↔
    m.times ≠ none ∨ m.room ≠ none ∨ m.attendees ≠ none ∨ m.title ≠ none ∨ m.order ≠ none ∨ m.organiser ≠ none := by
  simp only [namesField, Bool.or_eq_true, Option.isSome_iff_ne_none, or_assoc]

theorem modifyForm_iff (m : ModifyAsk) : modifyForm m = true ↔
    (m.times ≠ none ∨ m.room ≠ none ∨ m.attendees ≠ none ∨ m.title ≠ none ∨ m.order ≠ none ∨ m.organiser ≠ none) ∧
      (∀ t, m.times = some t → t.minute < 1440) ∧ (∀ r, m.room = some r → r < 96) ∧
      (∀ n, m.attendees = some n → 1 ≤ n ∧ n ≤ 500) ∧
      (∀ g, m.title = some (some g) → 1 ≤ g.length ∧ g.length ≤ 24) ∧
      ∀ o, m.order = some (some o) → o.offset ≤ 6 ∧ 1 ≤ o.count ∧ o.count ≤ 8 ∧
        ∀ l, l ∈ o.lines.take o.count → 1 ≤ l.2 ∧ l.2 ≤ 99 := by
  have hparts : ∀ {α : Type} (p : α → Bool) (o : Option (Option α)),
      partForm (partForm p) o = true ↔ ∀ a, o = some (some a) → p a = true := by
    intro α p o
    simp only [partForm_iff]
    exact ⟨fun h a ho => h _ ho a rfl, fun h i ho a hi => h a (by rw [ho, hi])⟩
  simp only [modifyForm, Bool.and_eq_true, namesField_iff, partForm_iff, hparts, decide_eq_true_eq,
    attendeesForm_iff, titleForm_iff, orderForm_iff, and_assoc]

/-! ## Joining the queue (R49, R50) -/

theorem offerUplink_full {s : State} (h : 16 ≤ s.engine.queue.length) (via : Via) (k : Kind) (r : Request) :
    offerUplink via k r s = respond via k .busy s := if_pos (decide_eq_true h)

theorem offerUplink_busy {s : State} (h : s.engine.queue.length < 16) (hf : s.engine.inFlight ≠ none) (via : Via)
    (k : Kind) (r : Request) :
    offerUplink via k r s = { s with engine := { s.engine with queue := s.engine.queue ++ [r] } } := by
  obtain ⟨f, hf⟩ := Option.ne_none_iff_exists'.1 hf
  refine (if_neg fun c => Nat.not_le.2 h (of_decide_eq_true c)).trans ?_
  simp [joinQueue, Engine.wake, hf]

theorem offerUplink_idle {s : State} (hq : s.engine.queue = []) (hf : s.engine.inFlight = none) (via : Via) (k : Kind)
    (r : Request) :
    offerUplink via k r s = { s with engine := { queue := [], inFlight := some (newFlight r) } } := by
  refine (if_neg (by simp [queueFull, Config.queuePlaces, hq])).trans ?_
  simp [joinQueue, Engine.wake, hf, hq]

/-- Settles O34: by the form of each request, and the three states of the engine that an offered entry can meet. -/
theorem admissionRequestsJoinTheQueueOrAreTurnedAway :
    Obligations.AdmissionRequestsJoinTheQueueOrAreTurnedAway := by
  intro via ask m id s ht
  have hbook : exec (.book via ask) s = .next (takeBook via ask s) :=
    congrArg Host.Outcome.next (whenTaking_of_taking ht _)
  have hmodify : exec (.modify via m) s = .next (takeModify via m s) :=
    congrArg Host.Outcome.next (whenTaking_of_taking ht _)
  have hcancel : exec (.cancel via id) s = .next (takeCancel via id s) :=
    congrArg Host.Outcome.next (whenTaking_of_taking ht _)
  have hqueued : ∀ (i : Instr) (k : Kind) (r : Request), exec i s = .next (offerUplink via k r s) →
      (16 ≤ s.engine.queue.length → exec i s = .next (respond via k ⟨.busy, none, []⟩ s)) ∧
      (s.engine.queue.length < 16 → s.engine.inFlight ≠ none →
        exec i s = .next { s with engine := { s.engine with queue := s.engine.queue ++ [r] } }) ∧
      (s.engine.queue = [] → s.engine.inFlight = none →
        exec i s = .next { s with engine := { queue := [], inFlight := some (newFlight r) } }) := by
    intro i k r hi
    rw [hi]
    exact ⟨fun h => congrArg _ (offerUplink_full h ..), fun h hf => congrArg _ (offerUplink_busy h hf ..),
      fun h hf => congrArg _ (offerUplink_idle h hf ..)⟩
  refine ⟨fun h => hqueued _ _ _ ?_, fun h => ?_, fun h => hqueued _ _ _ ?_, fun h => ?_, hqueued _ _ _ hcancel⟩
  · rw [hbook, takeBook, if_pos ((bookForm_iff ask).2 h)]
  · rw [hbook, takeBook, if_neg (mt (bookForm_iff ask).1 h)]
    rfl
  · rw [hmodify, takeModify, if_pos ((modifyForm_iff m).2 h)]
  · rw [hmodify, takeModify, if_neg (mt (modifyForm_iff m).1 h)]
    rfl

end Sys2Proof.Machine
end

section
/-!
SUPPORT. The engine's step on an admission of the uplink: a check that passes or ends it, and the answer at its end
(R51, R53).
-/

namespace Sys2Proof.Machine

/-! ## The step on the request in flight (R51) -/

/-- Who is to be answered, and the kind of the request, where it came from the uplink (R53). -/
def Request.asker? : Request → Option (Via × Kind)
  | .book via _ => some (via, .book)
  | .modify via _ => some (via, .modify)
  | .cancel via _ => some (via, .cancel)
  | .bookNow .. | .extend .. | .endNow .. | .vacate _ => none

/-- The panel call that is to be answered, where the request came from a door panel (R53). -/
def Request.place? : Request → Option ReplyPlace
  | .bookNow p .. | .extend p _ | .endNow p _ => some p
  | .book .. | .modify .. | .cancel .. | .vacate _ => none

theorem exec_admissionCheck {s : State} {f : Flight} (h : AtWork s f) :
    exec .admissionCheck s = .next (admissionStep s) := congrArg Host.Outcome.next (engineStep_atWork h _)

theorem exec_check {s : State} {f : Flight} {n : Nat} (h : AtWork s f) (hp : f.phase = .check n) :
    exec .admissionCheck s = .next (checkStep f n s) := by
  obtain ⟨-, hf, -⟩ := id h
  rw [exec_admissionCheck h]
  simp [admissionStep, hf, hp]

theorem exec_place {s : State} {f : Flight} (h : AtWork s f) (hp : f.phase = .place) :
    exec .admissionCheck s = .next (placeStep f s) := by
  obtain ⟨-, hf, -⟩ := id h
  rw [exec_admissionCheck h]
  simp [admissionStep, hf, hp]

theorem exec_partner {s : State} {f : Flight} {refused : Option BookingId} (h : AtWork s f)
    (hp : f.phase = .partner refused) : exec .admissionCheck s = .next (partnerStep refused f s) := by
  obtain ⟨-, hf, -⟩ := id h
  rw [exec_admissionCheck h]
  simp [admissionStep, hf, hp]

theorem exec_take {s : State} {f : Flight} {via : Via} {ask : ModifyAsk} {ids : List BookingId} (h : AtWork s f)
    (hr : f.request = .modify via ask) (hp : f.phase = .take ids) :
    exec .admissionCheck s = .next (takeModified ask ids f s) := by
  obtain ⟨-, hf, -⟩ := id h
  rw [exec_admissionCheck h]
  simp [admissionStep, hf, hp, hr]

/-! ## The end of an admission (R53) -/

theorem complete_uplink {f : Flight} {via : Via} {k : Kind} (h : f.request.asker? = some (via, k)) (up : Answer)
    (panel : CallAnswer) (s : State) : complete f up panel s = endFlight (respond via k up s) := by
  unfold complete
  cases hr : f.request <;> rw [hr] at h <;> cases h <;> rfl

theorem complete_panel {f : Flight} {p : ReplyPlace} (h : f.request.place? = some p) (up : Answer)
    (panel : CallAnswer) (s : State) : complete f up panel s = endFlight (answerCall p panel s) := by
  unfold complete
  cases hr : f.request <;> rw [hr] at h <;> cases h <;> rfl

/-- The answer to an admission changes the ports, and its end the engine, and nothing else. -/
theorem complete_uplink_eq {f : Flight} {via : Via} {k : Kind} (h : f.request.asker? = some (via, k)) (up : Answer)
    (panel : CallAnswer) (s : State) : complete f up panel s =
      { s with engine := s.engine.afterEnd, ports := (complete f up panel s).ports } := by
  rw [complete_uplink h, endFlight_eq, respond_eq]

theorem complete_panel_eq {f : Flight} {p : ReplyPlace} (h : f.request.place? = some p) (up : Answer)
    (panel : CallAnswer) (s : State) : complete f up panel s =
      { answerCall p panel s with engine := s.engine.afterEnd } := by
  rw [complete_panel h, endFlight_eq]
  rfl

/-- An admission is answered from a state whose ports are those that it began with. -/
theorem complete_answered {f : Flight} {via : Via} {k : Kind} (h : f.request.asker? = some (via, k)) (up : Answer)
    (panel : CallAnswer) {s u : State} (hp : u.ports = s.ports) :
    Answered via k up s (complete f up panel u) := by
  rw [complete_uplink h, endFlight_eq]
  exact respond_answered_of via k up hp

theorem complete_endsWith {f : Flight} {via : Via} {k : Kind} (h : f.request.asker? = some (via, k)) (up : Answer)
    (panel : CallAnswer) (s : State) : EndsWith via k up s (complete f up panel s) :=
  ⟨complete_uplink_eq h .., complete_answered h _ _ rfl⟩

/-! ## A check (R51, R58, R64) -/

/-- A check passes on to the next, where `ok` holds, or ends the admission with its refusal. -/
theorem checkOr_judges {s : State} {f : Flight} {via : Via} {k : Kind} (h : f.request.asker? = some (via, k))
    {b : Bool} {ok : Prop} (hb : b = true ↔ ok) (why : Reason) (n : Nat) {i : Instr}
    (hi : exec i s = .next (checkOr b f why n s)) :
    (ok → exec i s = .next (setFlight { f with phase := .check n } s)) ∧
      (¬ ok → ∃ t, exec i s = .next t ∧ EndsWith via k ⟨.refused, some why, []⟩ s t) := by
  rw [hi]
  refine ⟨fun hok => congrArg _ (if_pos (hb.2 hok)), fun hok => ⟨_, congrArg _ (if_neg (mt hb.1 hok)), ?_⟩⟩
  exact complete_endsWith h ..

/-- A refusal ends the admission. -/
theorem refuse_endsWith {f : Flight} {via : Via} {k : Kind} (h : f.request.asker? = some (via, k)) (why : Reason)
    (s : State) : EndsWith via k ⟨.refused, some why, []⟩ s (refuse f why none s) := complete_endsWith h ..

theorem refuse_named_endsWith {f : Flight} {via : Via} {k : Kind} (h : f.request.asker? = some (via, k))
    (why : Reason) (id : BookingId) (s : State) :
    EndsWith via k ⟨.refused, some why, word16 id.toNat⟩ s (refuse f why (some id) s) := complete_endsWith h ..

theorem asRoom_val (r : RoomNo) : asRoom r.val = r := by simp [asRoom, roomNo?]

theorem inService_iff (s : State) (r : RoomNo) : inService s r = true ↔ (s.rooms.get r).state = .inService := by
  simp [inService]

theorem valid_iff (c : Clock) : c.valid = true ↔ c.state = .running := by simp [Clock.valid]

/-- A joined request asks for a mutual partner that is IN_SERVICE (R16). -/
theorem pairedInService_iff (s : State) (r : RoomNo) : pairedInService s r = true ↔
    ∃ q, (s.rooms.get r).partner = some q ∧ (s.rooms.get q).partner = some r ∧ (s.rooms.get q).state = .inService := by
  unfold pairedInService partnerOf
  cases hq : (s.rooms.get r).partner with
  | none => simp
  | some q => by_cases hr : (s.rooms.get q).partner = some r <;> simp [hr, inService]

theorem record?_isNone_iff (s : State) (id : BookingId) :
    (s.record? id).isNone = true ↔ ∀ b, b ∈ s.store.records → b.id ≠ id := by
  simp [State.record?, Store.find]

theorem record?_isSome_iff (s : State) (id : BookingId) :
    (s.record? id).isSome = true ↔ ∃ b, b ∈ s.store.records ∧ b.id = id := by
  simp [State.record?, Store.find]

end Sys2Proof.Machine
end

section
/-!
SUPPORT. The checks of a BOOK (R58 to R61).
-/

namespace Sys2Proof.Machine

/-! ## The checks before the order (R58) -/

theorem exec_bookCheck {s : State} {f : Flight} {n : Nat} {via : Via} {ask : BookAsk} (h : AtWork s f)
    (hr : f.request = .book via ask) (hp : f.phase = .check n) :
    exec .admissionCheck s = .next (bookCheck ask f n s) := by
  rw [exec_check h hp, checkStep, hr]

theorem cellCount_eq (title organiser : Bool) (lines : Option Nat) : cellCount title lines organiser =
    1 + (if title then 2 else 0) + (lines.map fun n => if n ≤ 4 then 1 else 2).getD 0 + (if organiser then 1 else 0) :=
  rfl

theorem bookCells_eq (ask : BookAsk) : bookCells ask = 1 + (if ask.title.isSome then 2 else 0) +
    (match ask.order with
      | none => 0
      | some o => if o.count ≤ 4 then 1 else 2) + (if ask.organiser.isSome then 1 else 0) := by
  rw [bookCells, cellCount_eq]
  cases ask.order <;> rfl

/-- Settles O35, check by check. -/
theorem bookChecksRunInOrder : Obligations.BookChecksRunInOrder := by
  intro via ask r f n s hw hr hp hroom
  have hask : f.request.asker? = some (via, .book) := by rw [hr]; rfl
  have hgo := exec_bookCheck hw hr hp
  have hr' : asRoom ask.room = r := by rw [hroom, asRoom_val]
  refine ⟨?_, ?_, ?_, ?_, ?_, ?_, ?_, ?_, ?_, ?_⟩ <;> rintro rfl
  case refine_1 => exact checkOr_judges hask (valid_iff _) _ _ hgo
  case refine_2 => exact checkOr_judges hask (by simp [BitVec.lt_def, Config.walkInBase]) _ _ hgo
  case refine_3 => exact checkOr_judges hask (record?_isNone_iff ..) _ _ hgo
  case refine_4 => exact checkOr_judges hask (by rw [hr', inService_iff]) _ _ hgo
  case refine_5 =>
    refine checkOr_judges hask ?_ _ _ hgo
    rw [hr', Bool.or_eq_true, pairedInService_iff]
    cases ask.joined <;> simp
  case refine_6 =>
    refine ⟨fun hd => ⟨_, hgo.trans (congrArg _ (if_pos hd)), complete_endsWith hask ..⟩, fun hd => ?_⟩
    exact hgo.trans (congrArg _ (if_neg hd))
  case refine_7 => exact hgo
  case refine_8 => exact checkOr_judges hask (by rw [hr', decide_eq_true_eq]; rfl) _ _ hgo
  case refine_9 =>
    refine ⟨fun hpast => ⟨_, hgo.trans (congrArg _ (if_pos hpast)), refuse_endsWith hask ..⟩, fun hg hend => ?_,
      fun hg hend => ?_⟩
    · exact ⟨_, hgo.trans (congrArg _ ((if_neg (Nat.not_lt.2 hg)).trans
        (if_neg fun c => Nat.not_le.2 hend (of_decide_eq_true c)))), complete_endsWith hask ..⟩
    · exact hgo.trans (congrArg _ ((if_neg (Nat.not_lt.2 hg)).trans (if_pos (decide_eq_true hend))))
  case refine_10 => exact checkOr_judges hask (by rw [bookCells_eq, decide_eq_true_eq]; rfl) _ _ hgo

end Sys2Proof.Machine
end

section
/-!
SUPPORT. The judgement of an order (R60, R108, R109), and the comparison of a requester with the room lists (R57, R72,
R74), for BOOK and MODIFY alike.
-/

namespace Sys2Proof.Machine

/-! ## The order (R60, R65, R108, R109) -/

/-- A kitchen takes an order of some lines: it serves the room, it is OPEN, it prepares every item, and the load fits its
maximum and what the profile leaves of the slot, a record's own order left out (R109, steps 3 to 7). -/
def OrderTaken (s : State) (serving : Option KitchenNo) (lines : List (Nat × Nat)) (qd : Nat) (own : Option Order)
    (k : KitchenNo) : Prop :=
  serving = some k ∧ (s.kitchens.get k).state = .opened ∧ (∀ l, l ∈ lines → prepares s k l.1 = true) ∧
    orderLoad s lines ≤ 4095 ∧ loadWithout s k qd own + orderLoad s lines ≤ (s.profile.get k).get (slotIndex qd)

theorem kitchenTakes_iff (s : State) (k : KitchenNo) (lines : List (Nat × Nat)) (qd : Nat) (own : Option Order) :
    kitchenTakes s k lines (orderLoad s lines) qd own = true ↔ OrderTaken s (some k) lines qd own k := by
  simp only [kitchenTakes, OrderTaken, Bool.and_eq_true, beq_iff_eq, List.all_eq_true, decide_eq_true_eq, and_assoc,
    true_and]
  rfl

theorem loadWithout_eq (s : State) (k : KitchenNo) (qd : Nat) (own : Option Order) : loadWithout s k qd own =
    s.catering.loadAt k (qd / 288) (slotIndex qd) - (match own with
      | some o => if o.state = .placed ∧ o.kitchen = k ∧ o.qd / 3 = qd / 3 then o.load else 0
      | none => 0) := by
  unfold loadWithout
  cases own with
  | none => rfl
  | some o =>
    dsimp only
    split <;> rfl

section

variable {s : State} {serving : Option KitchenNo} {offset qd qx : Nat} {lines : List (Nat × Nat)} {late : Bool}
  {own : Option Order}

theorem judgeAt_bad (h : ∃ l, l ∈ lines ∧ weightOf s l.1 = 0) :
    judgeAt s serving offset lines qd qx late own = .badItem := if_pos (by simpa using h)

theorem judgeAt_late (h : ¬ ∃ l, l ∈ lines ∧ weightOf s l.1 = 0) (hl : late = true) :
    judgeAt s serving offset lines qd qx late own = .orderLate := (if_neg (by simpa using h)).trans (if_pos hl)

theorem judgeAt_fits (h : ¬ ∃ l, l ∈ lines ∧ weightOf s l.1 = 0) (hl : ¬ late = true) {k : KitchenNo}
    (hk : OrderTaken s serving lines qd own k) : judgeAt s serving offset lines qd qx late own =
      .fits ⟨k, offset, lines, orderLoad s lines, qd, qx⟩ := by
  obtain ⟨rfl, -⟩ := id hk
  refine (if_neg (by simpa using h)).trans ((if_neg hl).trans ?_)
  exact if_pos ((kitchenTakes_iff ..).2 hk)

theorem judgeAt_full (h : ¬ ∃ l, l ∈ lines ∧ weightOf s l.1 = 0) (hl : ¬ late = true)
    (hk : ∀ k, ¬ OrderTaken s serving lines qd own k) :
    judgeAt s serving offset lines qd qx late own = .kitchenFull := by
  refine (if_neg (by simpa using h)).trans ((if_neg hl).trans ?_)
  cases serving with
  | none => rfl
  | some k => exact if_neg (mt (kitchenTakes_iff ..).1 (hk k))

end

/-- What the answer of a judgement leads to: the judged order is to be placed, or the admission ends, or the order is
dropped (R60). -/
theorem actOnJudgement_judges {s : State} {f : Flight} {via : Via} {k : Kind}
    (hask : f.request.asker? = some (via, k)) {i : Instr} {serving : Option KitchenNo} {offset qd qx : Nat}
    {lines : List (Nat × Nat)} {isLate required : Bool} {own : Option Order} {late : Prop} (hlate : isLate = true ↔ late)
    {takes : KitchenNo → Prop} (htakes : ∀ k, takes k ↔ OrderTaken s serving lines qd own k)
    (hi : exec i s = .next
      (actOnJudgement (judgeAt s serving offset lines qd qx isLate own) required f s)) :
    ((∃ l, l ∈ lines ∧ weightOf s l.1 = 0) →
      ∃ t, exec i s = .next t ∧ EndsWith via k ⟨.refused, some .badItem, []⟩ s t) ∧
    ((¬ ∃ l, l ∈ lines ∧ weightOf s l.1 = 0) → late →
      ∃ t, exec i s = .next t ∧ EndsWith via k ⟨.refused, some .orderLate, []⟩ s t) ∧
    ((¬ ∃ l, l ∈ lines ∧ weightOf s l.1 = 0) → ¬ late → ∀ k, takes k → exec i s = .next (setFlight { f with
      settlement := .place ⟨k, offset, lines, orderLoad s lines, qd, qx⟩
      orderResult := .placed
      phase := .check 12 } s)) ∧
    ((¬ ∃ l, l ∈ lines ∧ weightOf s l.1 = 0) → ¬ late → (∀ k, ¬ takes k) →
      (required = true → ∃ t, exec i s = .next t ∧ EndsWith via k ⟨.refused, some .kitchenFull, []⟩ s t) ∧
      (required = false → exec i s = .next (setFlight { f with
        settlement := .remove, orderResult := .dropped, phase := .check 12 } s))) := by
  rw [hi]
  refine ⟨fun hb => ?_, fun hb hl => ?_, fun hb hl k hk => ?_, fun hb hl hk => ⟨fun hr => ?_, fun hr => ?_⟩⟩
  · exact ⟨_, by rw [judgeAt_bad hb]; rfl, refuse_endsWith hask ..⟩
  · exact ⟨_, by rw [judgeAt_late hb (hlate.2 hl)]; rfl, refuse_endsWith hask ..⟩
  · rw [judgeAt_fits hb (mt hlate.1 hl) ((htakes k).1 hk)]
    rfl
  · refine ⟨_, ?_, refuse_endsWith hask .kitchenFull s⟩
    rw [judgeAt_full hb (mt hlate.1 hl) fun k => mt (htakes k).2 (hk k), hr]
    rfl
  · rw [judgeAt_full hb (mt hlate.1 hl) fun k => mt (htakes k).2 (hk k), hr]
    rfl

/-! ## Records in the order of their spans (R74) -/

/-- An insertion by a key into a list in order puts the element behind those that stand level with it. -/
theorem insertWhere_filter {α : Type} (key : α → Nat) (a : α) {l : List α}
    (h : l.Pairwise fun x y => key x ≤ key y) (n : Nat) :
    (insertWhere (fun b => decide (key a < key b)) a l).filter (fun b => key b == n) =
      l.filter (fun b => key b == n) ++ [a].filter (fun b => key b == n) := by
  induction l with
  | nil => rfl
  | cons b bs ih =>
    rw [List.pairwise_cons] at h
    obtain ⟨hb, hbs⟩ := h
    unfold insertWhere
    by_cases hlt : key a < key b
    · rw [if_pos (decide_eq_true hlt)]
      by_cases hn : key a = n
      · have hnone : (b :: bs).filter (fun b => key b == n) = [] := by
          rw [List.filter_eq_nil_iff]
          intro x hx
          have hge : key b ≤ key x := by
            rcases List.mem_cons.1 hx with rfl | hx
            · exact Nat.le_refl _
            · exact hb x hx
          simp only [beq_iff_eq]
          omega
        rw [hnone, List.filter_cons_of_pos (by simpa using hn), hnone]
        simp [hn]
      · simp [List.filter_cons, hn]
    · rw [if_neg (by simpa using hlt), List.filter_cons, ih hbs, List.filter_cons (x := b)]
      split <;> rfl

/-- Ordering by a key keeps the order of elements that stand level. -/
theorem sortBy_filter {α : Type} (key : α → Nat) (l : List α) (n : Nat) :
    (sortBy (fun a b => decide (key a < key b)) l).filter (fun b => key b == n) = l.filter fun b => key b == n := by
  suffices h : ∀ acc : List α, (acc.Pairwise fun x y => key x ≤ key y) →
      (l.foldl (fun acc a => insertWhere (fun b => decide (key a < key b)) a acc) acc).filter (fun b => key b == n) =
        acc.filter (fun b => key b == n) ++ l.filter fun b => key b == n from h [] .nil
  induction l with
  | nil => simp
  | cons a l ih =>
    intro acc hacc
    rw [List.foldl_cons, ih _ (insertWhere_pairwise key a hacc), insertWhere_filter key a hacc, List.append_assoc,
      ← List.filter_append, List.singleton_append]

theorem sortBy_inSpanOrder (cs : List Record) : InSpanOrder cs (sortBy (fun a b => decide (a.ss < b.ss)) cs) :=
  ⟨sortBy_perm .., sortBy_pairwise (fun b : Record => b.ss) cs, fun n => sortBy_filter (fun b : Record => b.ss) cs n⟩

/-! ## Conflicts and displacement (R57, R72) -/

theorem conflictsIn_none (s : State) (q : RoomNo) (sp : Span) : conflictsIn s q sp none =
    (s.listed q).filter fun b => decide (sp.first < b.se ∧ b.ss < sp.last) := by
  refine List.filter_congr fun b _ => ?_
  simp [conflicts]

theorem conflictsIn_some (s : State) (q : RoomNo) (sp : Span) (id : BookingId) : conflictsIn s q sp (some id) =
    (s.listed q).filter fun b => decide (sp.first < b.se ∧ b.ss < sp.last ∧ b.id ≠ id) := by
  refine List.filter_congr fun b _ => ?_
  rw [Bool.eq_iff_iff]
  simp only [conflicts, Bool.and_eq_true, decide_eq_true_eq, bne_iff_ne, ne_eq, Option.some.injEq, and_assoc,
    eq_comm (a := id)]

/-- The bookings that conflict in one list may all be displaced (R72). -/
def Displaceable (s : State) (q : RoomNo) (cls : Nat) (cs : List Record) : Prop :=
  cs = [] ∨ ((s.rooms.get q).policy = .displaceLower ∧
    ∀ b, b ∈ cs → b.state = .booked ∧ b.cls < cls ∧ b.joined = false ∧ b.origin ≠ .panel)

theorem mayDisplace_iff (s : State) (q : RoomNo) (cls : Nat) (cs : List Record) :
    mayDisplace s q cls cs = true ↔ Displaceable s q cls cs := by
  simp [mayDisplace, Displaceable, and_assoc]

/-- In both lists: where the room has no partner, no booking conflicts in a second. -/
theorem mayDisplaceAll_iff {s : State} {r : RoomNo} {cls : Nat} {cs : List Record × List Record}
    (h : (s.rooms.get r).partner = none → cs.2 = []) : mayDisplaceAll s r cls cs = true ↔
      Displaceable s r cls cs.1 ∧ ∀ q, (s.rooms.get r).partner = some q → Displaceable s q cls cs.2 := by
  rw [mayDisplaceAll, Bool.and_eq_true, mayDisplace_iff]
  refine and_congr_right fun _ => ?_
  cases hq : (s.rooms.get r).partner with
  | none => simp [h hq]
  | some q => simp [mayDisplace_iff]

end Sys2Proof.Machine
end

section
/-!
SUPPORT. The order and the conflicts of a BOOK (R60, R61).
-/

namespace Sys2Proof.Machine

/-- Step 12 of a BOOK: it is placed where nothing conflicts, displaces all that conflict where it may, and is refused
else (R61, R72, R74). -/
theorem bookConflict_judges {ask : BookAsk} {r : RoomNo} {f : Flight} {s : State} {via : Via} {k : Kind}
    (hask : f.request.asker? = some (via, k)) (hr : asRoom ask.room = r) {c1 c2 : List Record}
    (hcs : requesterConflicts s r ask.joined (spanIn (s.rooms.get r) f.qs f.qe) none = (c1, c2))
    (hnone : (s.rooms.get r).partner = none → c2 = []) {i : Instr}
    (hi : exec i s = .next (bookConflict ask f s)) :
    (c1 ++ c2 = [] →
      exec i s = .next (setFlight { f with span := spanIn (s.rooms.get r) f.qs f.qe, phase := .place } s)) ∧
    (c1 ++ c2 ≠ [] →
      Displaceable s r f.cls c1 ∧ (∀ q, (s.rooms.get r).partner = some q → Displaceable s q f.cls c2) →
      exec i s = .next (setFlight { f with
        span := spanIn (s.rooms.get r) f.qs f.qe, phase := .displaceRequester (pushOrder (c1, c2)) } s)) ∧
    ∀ first rest, c1 ++ c2 = first :: rest →
      ¬ (Displaceable s r f.cls c1 ∧ ∀ q, (s.rooms.get r).partner = some q → Displaceable s q f.cls c2) →
      ∃ t, exec i s = .next t ∧ EndsWith via k ⟨.refused, some .conflict, word16 first.id.toNat⟩ s t := by
  subst hr
  have hmay := mayDisplaceAll_iff (cls := f.cls) (cs := (c1, c2)) hnone
  unfold bookConflict at hi
  simp only [hcs] at hi
  rw [hi]
  refine ⟨fun h => ?_, fun h hall => ?_, fun first rest h hno => ⟨_, ?_, refuse_named_endsWith hask .conflict _ s⟩⟩
  · rw [h]
  · split
    next hnil => exact absurd hnil h
    next => exact congrArg _ (if_pos (hmay.2 hall))
  · rw [h]
    exact congrArg _ (if_neg (mt hmay.1 hno))

/-- Settles O36: the order by `actOnJudgement_judges`, the conflicts by `bookConflict_judges`. -/
theorem bookOrderAndConflictsAreJudged : Obligations.BookOrderAndConflictsAreJudged := by
  intro via ask r f s hw hr hroom
  have hask : f.request.asker? = some (via, .book) := by rw [hr]; rfl
  have hr' : asRoom ask.room = r := by rw [hroom, asRoom_val]
  refine ⟨fun hp => ?_, fun hp hj => ?_, fun hp hj => ?_⟩
  · have hgo := exec_bookCheck hw hr hp
    refine ⟨fun ho => ?_, fun o ho => ?_⟩
    · simp only [bookCheck, ho] at hgo
      exact hgo
    · simp only [bookCheck, ho, hr'] at hgo
      exact actOnJudgement_judges hask decide_eq_true_iff (fun _ => Iff.rfl) hgo
  · have hcs : requesterConflicts s r ask.joined (spanIn (s.rooms.get r) f.qs f.qe) none =
        ((s.listed r).filter fun b => decide ((spanIn (s.rooms.get r) f.qs f.qe).first < b.se ∧
          b.ss < (spanIn (s.rooms.get r) f.qs f.qe).last), []) := by
      simp only [requesterConflicts, hj, conflictsIn_none, Bool.false_eq_true, if_false]
    have hjudged := bookConflict_judges hask hr' hcs (fun _ => rfl) (exec_bookCheck hw hr hp)
    simp only [pushOrder, List.append_nil] at hjudged
    obtain ⟨hfree, hdisplace, hconflict⟩ := hjudged
    refine ⟨hfree, fun hne hpol hall => ⟨_, sortBy_perm .., sortBy_pairwise (fun b : Record => b.ss) _,
      hdisplace hne ⟨.inr ⟨hpol, hall⟩, fun _ _ => .inl rfl⟩⟩, fun first rest hfirst hno => ?_⟩
    refine hconflict first rest hfirst ?_
    rintro ⟨hnil | ⟨hpol, hall⟩, -⟩
    · cases hfirst.symm.trans hnil
    · obtain hpol' | ⟨b, hb, hby⟩ := hno
      · cases hpol.symm.trans hpol'
      · exact hby (hall b hb)
  · have hcs : requesterConflicts s r ask.joined (spanIn (s.rooms.get r) f.qs f.qe) none =
        ((s.listed r).filter fun b => decide ((spanIn (s.rooms.get r) f.qs f.qe).first < b.se ∧
          b.ss < (spanIn (s.rooms.get r) f.qs f.qe).last),
        match (s.rooms.get r).partner with
        | some q => (s.listed q).filter fun b => decide ((spanIn (s.rooms.get r) f.qs f.qe).first < b.se ∧
            b.ss < (spanIn (s.rooms.get r) f.qs f.qe).last)
        | none => []) := by
      simp only [requesterConflicts, hj, conflictsIn_none, if_true]
      cases (s.rooms.get r).partner <;> rfl
    have hjudged := bookConflict_judges hask hr' hcs (fun hq => by rw [hq]) (exec_bookCheck hw hr hp)
    obtain ⟨hfree, hdisplace, hconflict⟩ := hjudged
    cases hq : (s.rooms.get r).partner with
    | none =>
      simp only [hq] at hfree hdisplace hconflict ⊢
      exact ⟨hfree, fun hne hall => ⟨_, sortBy_inSpanOrder _, hdisplace hne ⟨hall.1, by simp⟩⟩,
        fun first rest hfirst hno => hconflict first rest hfirst fun hall => hno ⟨hall.1, by simp⟩⟩
    | some q =>
      simp only [hq] at hfree hdisplace hconflict ⊢
      refine ⟨hfree, fun hne hall => ⟨_, sortBy_inSpanOrder _, hdisplace hne ⟨hall.1, ?_⟩⟩,
        fun first rest hfirst hno => hconflict first rest hfirst fun hall => hno ⟨hall.1, ?_⟩⟩
      · rintro q' ⟨⟩
        exact hall.2 q rfl
      · rintro q' ⟨⟩
        exact hall.2 q rfl

end Sys2Proof.Machine
end

section
/-!
SUPPORT. The door panel requests that are judged whole: BOOK_NOW, EXTEND and END_NOW (R68 to R70).
-/

namespace Sys2Proof.Machine

/-! ## Checks made one after another (R68 to R70) -/

theorem checkOr_of {b : Bool} (h : b = true) {f : Flight} {why : Reason} {n : Nat} {s : State} :
    checkOr b f why n s = setFlight { f with phase := .check n } s := if_pos h

/-- The flight at a check. -/
def Flight.due (f : Flight) (n : Nat) : Flight := { f with phase := .check n }

theorem setFlight_due {s : State} {f : Flight} {n : Nat} (hf : s.engine.inFlight = some f) (hp : f.phase = .check n) :
    setFlight (f.due n) s = s := by
  unfold setFlight Flight.due
  rw [← hp]
  rw [← hf]

/-- A check that passes is followed by the next. -/
theorem judgeWhole_pass {p : Request → Bool} {s : State} {f g : Flight} {n : Nat} (m : Nat) (hp : p f.request = true)
    (hc : checkStep (f.due n) n (setFlight (f.due n) s) = setFlight (g.due (n + 1)) s) :
    judgeWhole p (m + 1) (setFlight (f.due n) s) = judgeWhole p m (setFlight (g.due (n + 1)) s) := by
  refine (if_pos hp).trans ?_
  dsimp only [Flight.due]
  have hphase : (checkStep (f.due n) n (setFlight (f.due n) s)).engine.inFlight.map (·.phase) =
      some (.check (n + 1)) := by rw [hc]; rfl
  exact (if_pos hphase).trans (congrArg (judgeWhole p m) hc)

/-- The engine takes up no entry at a check past the first (R50). -/
theorem afterEnd_phase_ne (e : Engine) {n : Nat} (h : n ≠ 0) :
    e.afterEnd.inFlight.map (·.phase) ≠ some (.check (n + 1)) := by
  unfold Engine.afterEnd
  cases e.queue with
  | nil => simp
  | cons r rest =>
    have hphase : firstPhase r ≠ .check (n + 1) := by
      cases r <;> simp [firstPhase, h]
    simpa [newFlight] using hphase

/-- A check that ends the admission is the last. -/
theorem judgeWhole_end {p : Request → Bool} {s t : State} {f : Flight} {n : Nat} (m : Nat) (hp : p f.request = true)
    (h0 : n ≠ 0) (hc : checkStep (f.due n) n (setFlight (f.due n) s) = t) {e : Engine} (ht : t.engine = e.afterEnd) :
    judgeWhole p (m + 1) (setFlight (f.due n) s) = t := by
  refine (if_pos hp).trans ?_
  dsimp only [Flight.due]
  have hphase := afterEnd_phase_ne e h0
  rw [← ht, ← hc] at hphase
  exact (if_neg hphase).trans hc

theorem complete_engine (f : Flight) (up : Answer) (panel : CallAnswer) (s : State) :
    (complete f up panel s).engine = s.engine.afterEnd := by
  unfold complete
  rw [endFlight_eq]
  cases f.request with
  | book | modify | cancel => dsimp only; rw [respond_eq]
  | _ => rfl

/-! ## BOOK_NOW (R68) -/

/-- A walk-in's end is its choice of service slots after the grain it begins at. -/
theorem endGrain_walkIn (g choice : Nat) : endGrain (dayOf g) (5 * (g % 288)) (15 * choice) = g + 3 * choice := by
  simp only [endGrain, dayOf, Config.dayGrains]
  omega

/-- The walk-in of R68, placed from grain `g`. -/
def walkIn (s : State) (r : RoomNo) (choice n : Nat) : Record :=
  { id := 0xFF00#16 + BitVec.ofNat 16 n, room := r, joined := false, cls := 0, attendees := 1, origin := .panel,
    qs := s.grain, qe := s.grain + 3 * choice, ss := s.grain - (s.rooms.get r).setup,
    se := s.grain + 3 * choice + (s.rooms.get r).turnaround, state := .checkedIn, endReason := none,
    releaseReason := none, badge := none, retireGrain := s.grain + 3 * choice + (s.rooms.get r).turnaround,
    title := none, order := none, organiser := none, cells := s.store.free.take 1 }

theorem checkStep_bookNow {f : Flight} {place : ReplyPlace} {r : RoomNo} {choice : Nat}
    (h : f.request = .bookNow place r choice) {n : Nat} {s : State} :
    checkStep f n s = bookNowCheck r choice f n s := by
  rw [checkStep, h]

/-- The flight with the grains of its booking (R54). -/
def Flight.timed (f : Flight) (qs qe : Nat) : Flight := { f with qs := qs, qe := qe }

/-- The checks of a BOOK_NOW that all hold lead to its step at the store. -/
theorem judgeWhole_bookNow {place : ReplyPlace} {r : RoomNo} {choice : Nat} {f : Flight} {s : State}
    (hf : s.engine.inFlight = some f) (hr : f.request = .bookNow place r choice) (hp : f.phase = .check 1)
    (hc : s.clock.state = .running) (hroom : (s.rooms.get r).state = .inService)
    (hcap : 1 ≤ (s.rooms.get r).capacity) (hend : s.grain + 3 * choice ≤ s.clock.horizonEnd)
    (hfree : s.store.free ≠ []) :
    judgeWhole Request.isBookNow 6 s = judgeWhole Request.isBookNow 1
      (setFlight ((f.timed s.grain (s.grain + 3 * choice)).due 6) s) := by
  have hcount : 1 ≤ freeCount s := List.length_pos_iff.2 hfree
  have hqe : endGrain (dayOf s.grain) (5 * (s.grain % Config.dayGrains)) (15 * choice) = s.grain + 3 * choice :=
    endGrain_walkIn s.grain choice
  have hpass : ∀ (g h : Flight) (n m : Nat), g.request = .bookNow place r choice →
      bookNowCheck r choice (g.due n) n (setFlight (g.due n) s) = setFlight (h.due (n + 1)) s →
      judgeWhole Request.isBookNow (m + 1) (setFlight (g.due n) s) =
        judgeWhole Request.isBookNow m (setFlight (h.due (n + 1)) s) := fun _ _ _ m hg hc =>
    judgeWhole_pass m (by rw [hg]; rfl) ((checkStep_bookNow hg).trans hc)
  calc judgeWhole Request.isBookNow 6 s
      = judgeWhole Request.isBookNow 6 (setFlight (f.due 1) s) := by rw [setFlight_due hf hp]
    _ = judgeWhole Request.isBookNow 5 (setFlight (f.due 2) s) := hpass f f 1 5 hr (checkOr_of ((valid_iff _).2 hc))
    _ = judgeWhole Request.isBookNow 4 (setFlight (f.due 3) s) :=
        hpass f f 2 4 hr (checkOr_of ((inService_iff s r).2 hroom))
    _ = judgeWhole Request.isBookNow 3 (setFlight (f.due 4) s) := hpass f f 3 3 hr (checkOr_of (decide_eq_true hcap))
    _ = judgeWhole Request.isBookNow 2
          (setFlight ((f.timed s.grain (s.grain + 3 * choice)).due 5) s) := by
        refine hpass f (f.timed _ _) 4 2 hr ?_
        rw [← hqe]
        exact checkOr_of (decide_eq_true (hqe ▸ hend))
    _ = judgeWhole Request.isBookNow 1
          (setFlight ((f.timed s.grain (s.grain + 3 * choice)).due 6) s) :=
        hpass (f.timed _ _) (f.timed _ _) 5 1 hr (checkOr_of (decide_eq_true hcount))

/-- The part with a walk-in made and inserted in its room's list, and WALK_IN raised. -/
def walkedIn (s : State) (r : RoomNo) (choice n : Nat) : State :=
  let t := insertInto r (walkIn s r choice n) (addRecord (walkIn s r choice n) (allocate 1 s))
  raiseFor .walkIn (walkIn s r choice n) r.val { t with store := { t.store with walkIn := (n + 1) % 256 } }

/-- The step at the store of a BOOK_NOW that meets no other booking (R68). -/
theorem bookNowAtStore_placed {place : ReplyPlace} {r : RoomNo} {choice n : Nat} {f : Flight} {s : State}
    (hroom : (s.rooms.get r).state = .inService) (hin : ∀ b, b ∈ s.listed r → b.state ≠ .checkedIn)
    (hn : walkInOffset s = some n)
    (hfree : ∀ b, b ∈ s.listed r → ¬ (s.grain - (s.rooms.get r).setup < b.se ∧
      b.ss < s.grain + 3 * choice + (s.rooms.get r).turnaround))
    (hqs : f.qs = s.grain) (hqe : f.qe = s.grain + 3 * choice) (hr : f.request = .bookNow place r choice) :
    bookNowAtStore r f s = { answerCall place (.doneFor (walkIn s r choice n).id (s.grain + 3 * choice))
      (walkedIn s r choice n) with engine := s.engine.afterEnd } := by
  have hchecked : checkedInAt s r = none := List.find?_eq_none.2 fun b hb => by simpa using hin b hb
  have hconflicts : conflictsIn s r (spanIn (s.rooms.get r) f.qs f.qe) none = [] := by
    rw [conflictsIn_none, List.filter_eq_nil_iff, hqs, hqe]
    exact fun b hb c => hfree b hb (of_decide_eq_true c)
  have hopen : ((allocate 1 s).rooms.get r).state ≠ .outOfService := by
    rw [allocate_eq, hroom]
    decide
  have hrecord : walkInRecord (walkIn s r choice n).id r f (spanIn (s.rooms.get r) f.qs f.qe) (s.store.free.take 1) =
      walkIn s r choice n := by
    unfold walkInRecord spanIn
    rw [hqs, hqe]
    rfl
  have hplaced : bookNowAtStore r f s = placeWalkIn r n (spanIn (s.rooms.get r) f.qs f.qe) f s := by
    simp [bookNowAtStore, hchecked, hn, hconflicts]
  have hstate : placeWalkIn r n (spanIn (s.rooms.get r) f.qs f.qe) f s =
      complete f (.done []) (.doneFor (walkIn s r choice n).id f.qe) (walkedIn s r choice n) := by
    have hinsert : insertRecord (walkIn s r choice n) (addRecord (walkIn s r choice n) (allocate 1 s)) =
        insertInto r (walkIn s r choice n) (addRecord (walkIn s r choice n) (allocate 1 s)) :=
      placeInto_of_open _ hopen
    unfold placeWalkIn walkedIn
    rw [← hinsert, ← hrecord]
    rfl
  have hengine : (walkedIn s r choice n).engine = s.engine := by
    have halloc : (allocate 1 s).engine = s.engine := by rw [allocate_eq]
    exact halloc
  rw [hplaced, hstate, complete_panel_eq (p := place) (by rw [hr]; rfl), hengine, hqe]

/-- What a walk-in leaves: the room lists, the store, the faces' marks and the exceptions alone have changed. -/
theorem walkedIn_eq (s : State) (r : RoomNo) (choice n : Nat) : walkedIn s r choice n = { s with
    store := { s.store with
      free := s.store.free.drop 1
      records := s.store.records ++ [walkIn s r choice n]
      lists := (walkedIn s r choice n).store.lists
      walkIn := (n + 1) % 256
      storeLowArmed := (allocate 1 s).store.storeLowArmed }
    composer := { s.composer with roomMarks := s.composer.roomMarks.set r true }
    exceptions := (walkedIn s r choice n).exceptions } := by
  have h : walkedIn s r choice n = { allocate 1 s with
      store := { (allocate 1 s).store with
        records := (allocate 1 s).store.records ++ [walkIn s r choice n]
        lists := (walkedIn s r choice n).store.lists
        walkIn := (n + 1) % 256 }
      composer := { (allocate 1 s).composer with roomMarks := (allocate 1 s).composer.roomMarks.set r true }
      exceptions := (walkedIn s r choice n).exceptions } := rfl
  rw [h, allocate_eq]

/-- Taking cells from the pool raises STORE_LOW at most (R31). -/
theorem allocate_exceptions (n : Nat) (s : State) : (allocate n s).exceptions = s.exceptions ∨
    (allocate n s).exceptions =
      (raise .storeLow .none none (BitVec.ofNat 32 (s.store.free.drop n).length) s).exceptions := by
  unfold allocate
  dsimp only
  split
  · exact .inr rfl
  · exact .inl rfl

/-- WALK_IN is counted once (R155). -/
theorem walkedIn_counter (s : State) (r : RoomNo) (choice n : Nat) :
    (walkedIn s r choice n).exceptions.counters.get 3 = min (s.exceptions.counters.get 3 + 1) 65535 := by
  have hlow : (allocate 1 s).exceptions.counters.get 3 = s.exceptions.counters.get 3 := by
    obtain h | h := allocate_exceptions 1 s <;> rw [h]
    rw [raise_exceptions]
    exact Tab.get_upd_ne _ _ (by decide)
  rw [← hlow]
  unfold walkedIn raiseFor
  rw [raise_exceptions]
  exact Tab.get_upd_self ..

/-- The walk-in enters the list of its room, and no other. -/
theorem walkedIn_list (s : State) (r : RoomNo) (choice n : Nat) (q : RoomNo) :
    (q = r → (walkIn s r choice n).id ∈ (walkedIn s r choice n).store.lists.get q) ∧
      (q ≠ r → (walkedIn s r choice n).store.lists.get q = s.store.lists.get q) := by
  have hlists : (allocate 1 s).store.lists = s.store.lists := by rw [allocate_eq]
  have h : (walkedIn s r choice n).store.lists = (allocate 1 s).store.lists.upd r
      (insertWhere (beginsAfter (addRecord (walkIn s r choice n) (allocate 1 s)).store (walkIn s r choice n).ss)
        (walkIn s r choice n).id) := rfl
  rw [h, hlists]
  refine ⟨?_, fun hq => Tab.get_upd_ne _ _ hq⟩
  rintro rfl
  rw [Tab.get_upd_self, mem_insertWhere]
  exact .inl rfl

/-- Settles O41: the checks in turn, and the placement at the store. -/
theorem bookNowPlacesAWalkInAtTheCurrentGrain : Obligations.BookNowPlacesAWalkInAtTheCurrentGrain := by
  intro place r choice n f s hw hr hp room qe booking hc hroom hcap hend hfree hin hn hclear
  obtain ⟨-, hf, -⟩ := id hw
  obtain ⟨u, hu⟩ : ∃ u, u = setFlight ((f.timed s.grain qe).due 6) s := ⟨_, rfl⟩
  have hstore : checkStep ((f.timed s.grain qe).due 6) 6 u =
      { answerCall place (.doneFor booking qe) (walkedIn u r choice n) with engine := u.engine.afterEnd } := by
    subst hu
    refine (checkStep_bookNow (f := (f.timed s.grain qe).due 6) hr).trans ?_
    exact bookNowAtStore_placed (s := setFlight ((f.timed s.grain qe).due 6) s) hroom hin hn hclear rfl rfl hr
  have hexec : exec .bookNow s =
      .next { answerCall place (.doneFor booking qe) (walkedIn u r choice n) with engine := u.engine.afterEnd } := by
    refine congrArg Host.Outcome.next ((engineStep_atWork hw _).trans ?_)
    rw [judgeWhole_bookNow hf hr hp hc hroom hcap hend hfree]
    subst hu
    exact judgeWhole_end 0 (by rw [Flight.timed, hr]; rfl) (by decide) hstore rfl
  have hwalk := walkedIn_eq u r choice n
  have hcounter := walkedIn_counter u r choice n
  have hlist := walkedIn_list u r choice n
  generalize walkedIn u r choice n = w at *
  have hreply := answerCall_given w place (.doneFor booking qe)
  subst hu
  refine ⟨_, hexec, ?_, ?_, ?_, ?_, (hlist r).1 rfl, fun q => (hlist q).2, ?_, hcounter, ?_, hreply⟩ <;>
    rw [hwalk] <;> rfl

end Sys2Proof.Machine
end

section
/-!
SUPPORT. An edit of a record in its lists (R34, R38, R40), and the EXTEND and END_NOW that make one (R69, R70).
-/

namespace Sys2Proof.Machine

/-! ## Edits in place (R34, R38, R40) -/

/-- A booking listed is the record of its id. -/
theorem record?_of_listed {s : State} {q : RoomNo} {b : Record} (h : b ∈ s.listed q) : s.record? b.id = some b := by
  obtain ⟨id, -, hid⟩ := List.mem_filterMap.1 h
  exact (record?_id (s := s) hid).symm ▸ hid

theorem checkedInAt_record? {s : State} {r : RoomNo} {b : Record} (h : checkedInAt s r = some b) :
    s.record? b.id = some b := record?_of_listed (List.mem_of_find?_eq_some h)

/-- An edit changes the records and the room marks alone. -/
theorem editRecord_eq (b : Record) (f : Record → Record) (s : State) : editRecord b f s = { s with
    store := { s.store with records := (editRecord b f s).store.records }
    composer := { s.composer with roomMarks := (editRecord b f s).composer.roomMarks } } := by
  rw [editRecord, markRecord, markRooms_eq]
  rfl

theorem editRecord_marks (b : Record) (f : Record → Record) (s : State) (q : RoomNo) :
    (editRecord b f s).composer.roomMarks.get q = (s.composer.roomMarks.get q || (listRooms s b).contains q) :=
  markRecord_get ..

theorem editRecord_record? (b : Record) (f : Record → Record) (s : State) (x : BookingId) :
    (editRecord b f s).record? x = (updRecord b.id (fun q => (f q).regrained) s).record? x := by
  rw [editRecord, markRecord, markRooms_eq]
  rfl

theorem editRecord_own {b : Record} {f : Record → Record} {s : State} (h : s.record? b.id = some b)
    (hf : ∀ q, (f q).id = q.id) : (editRecord b f s).record? b.id = some (f b).regrained := by
  rw [editRecord_record?, updRecord_self _ (fun q => (f q).regrained) hf, h]
  rfl

theorem editRecord_of_ne {b : Record} {f : Record → Record} {s : State} (hf : ∀ q, (f q).id = q.id) {x : BookingId}
    (hx : x ≠ b.id) : (editRecord b f s).record? x = s.record? x := by
  rw [editRecord_record?, updRecord_of_ne _ _ hx (fun q => (f q).regrained) hf]

/-! ## The two checks of an EXTEND or an END_NOW -/

/-- A panel's request is refused with nothing else done. -/
theorem refuse_panel {f : Flight} {p : ReplyPlace} (h : f.request.place? = some p) (why : Reason)
    (named : Option BookingId) (s : State) : refuse f why named s =
      { answerCall p (.refused why named) s with engine := s.engine.afterEnd } := complete_panel_eq h ..

/-- A request of two checks, the first that of the clock, is refused, or judged at the store. -/
theorem judgeWhole_two {p : Request → Bool} {place : ReplyPlace} {f : Flight} {s : State} (hp : p f.request = true)
    (hplace : f.request.place? = some place) (hf : s.engine.inFlight = some f) (hphase : f.phase = .check 1)
    {act : Flight → State → State} (hact : ∀ g u, (act g u).engine = u.engine.afterEnd)
    (hfirst : ∀ u, checkStep (f.due 1) 1 u = checkOr u.clock.valid (f.due 1) .noClock 2 u)
    (hsecond : ∀ u, checkStep (f.due 2) 2 u = act (f.due 2) u) :
    (s.clock.state ≠ .running → judgeWhole p 2 s =
      { answerCall place ⟨.refused, some .noClock, none, none⟩ s with engine := s.engine.afterEnd }) ∧
    (s.clock.state = .running → judgeWhole p 2 s = act (f.due 2) (setFlight (f.due 2) s)) := by
  rw [← setFlight_due hf hphase]
  refine ⟨fun hc => ?_, fun hc => ?_⟩
  · refine judgeWhole_end 1 hp (by decide) ((hfirst _).trans ?_) rfl
    refine (if_neg (mt (valid_iff _).1 hc)).trans ((refuse_panel hplace _ _ _).trans ?_)
    rw [setFlight_due hf hphase]
    rfl
  · rw [judgeWhole_pass (f := f) (g := f) (n := 1) (s := s) 1 hp ((hfirst _).trans (checkOr_of ((valid_iff _).2 hc)))]
    rw [judgeWhole_end (f := f) (n := 2) (s := s) 0 hp (by decide) (hsecond _) (hact _ _)]
    rfl

/-! ## EXTEND and END_NOW (R69, R70) -/

theorem editRecord_engine (b : Record) (f : Record → Record) (s : State) :
    (editRecord b f s).engine = s.engine := by rw [editRecord_eq]

theorem extendAtStore_engine (r : RoomNo) (f : Flight) (s : State) :
    (extendAtStore r f s).engine = s.engine.afterEnd := by
  unfold extendAtStore
  dsimp only
  (repeat' split) <;> simp only [refuse, complete_engine, editRecord_engine]

theorem endNowAtStore_engine (r : RoomNo) (f : Flight) (s : State) :
    (endNowAtStore r f s).engine = s.engine.afterEnd := by
  unfold endNowAtStore
  split <;> simp only [refuse, complete_engine, editRecord_engine]

/-- An edit of the CHECKED_IN booking is answered DONE with the id and the end it leaves. -/
theorem edits_of_editRecord {place : ReplyPlace} {r : RoomNo} {b b' : Record} {s u : State} {g : Flight}
    {f : Record → Record} {i : Instr} (hb : checkedInAt s r = some b) (hf : ∀ q, (f q).id = q.id)
    (hb' : (f b).regrained = b') (hplace : g.request.place? = some place) (hu : u = setFlight g s)
    (hi : exec i s = .next (complete g (.done []) (.doneFor b.id b'.qe) (editRecord b f u))) :
    ∃ t, exec i s = .next t ∧
      t = { s with store := t.store, composer := t.composer, panels := t.panels, engine := s.engine.afterEnd } ∧
      t.record? b.id = some b' ∧ (∀ x, x ≠ b.id → t.record? x = s.record? x) ∧
      t.store.lists = s.store.lists ∧ t.store.free = s.store.free ∧ t.composer.faces = s.composer.faces ∧
      (∀ q, t.composer.roomMarks.get q = (s.composer.roomMarks.get q || (listRooms s b).contains q)) ∧
      t.panels = (answerCall place ⟨.done, none, some b.id, some b'.qe⟩ s).panels := by
  have hown : (editRecord b f u).record? b.id = some b' := by
    rw [editRecord_own (by rw [hu]; exact checkedInAt_record? hb) hf, hb']
  have hothers : ∀ x, x ≠ b.id → (editRecord b f u).record? x = s.record? x := by
    intro x hx
    rw [editRecord_of_ne hf hx, hu]
    rfl
  have hmarks := editRecord_marks b f u
  have hedit := editRecord_eq b f u
  rw [complete_panel_eq hplace] at hi
  generalize editRecord b f u = v at *
  subst hu
  refine ⟨_, hi, ?_, hown, hothers, ?_, ?_, ?_, hmarks, ?_⟩ <;> rw [hedit] <;> rfl

/-- The bookings that an extension of `b` would meet, in the lists of its rooms (R57, R69). -/
def extensionMeets (s : State) (b : Record) : List Record :=
  (listRooms s b).flatMap fun q => (s.listed q).filter fun c =>
    decide (c.id ≠ b.id ∧ b.ss < c.se ∧ c.ss < b.qe + 3 + (b.se - b.qe))

theorem extension_conflicts (s : State) (b : Record) : ((listRooms s b).flatMap fun q =>
    conflictsIn s q ⟨b.extended.ss, b.extended.se⟩ (some b.id)) = extensionMeets s b := by
  refine congrArg (fun g => (listRooms s b).flatMap g) (funext fun q => ?_)
  rw [conflictsIn_some]
  refine List.filter_congr fun c _ => decide_eq_decide.2 ?_
  exact ⟨fun ⟨hfirst, hlast, hne⟩ => ⟨hne, hfirst, hlast⟩, fun ⟨hne, hfirst, hlast⟩ => ⟨hfirst, hlast, hne⟩⟩

section

variable {r : RoomNo} {f : Flight} {s : State} {b : Record} (hb : checkedInAt s r = some b)

include hb

theorem extendAtStore_beyond (h : s.clock.horizonEnd < b.qe + 3) :
    extendAtStore r f s = refuse f .beyondHorizon none s := by
  simp only [extendAtStore, hb]
  exact if_pos h

theorem extendAtStore_conflict (h : b.qe + 3 ≤ s.clock.horizonEnd) {c : Record} {cs : List Record}
    (hc : extensionMeets s b = c :: cs) : extendAtStore r f s = refuse f .conflict (some c.id) s := by
  simp only [extendAtStore, hb, extension_conflicts, hc]
  exact if_neg (Nat.not_lt.2 h)

theorem extendAtStore_done (h : b.qe + 3 ≤ s.clock.horizonEnd) (hc : extensionMeets s b = []) :
    extendAtStore r f s = complete f (.done []) (.doneFor b.id (b.qe + 3)) (editRecord b Record.extended s) := by
  simp only [extendAtStore, hb, extension_conflicts, hc]
  exact if_neg (Nat.not_lt.2 h)

theorem endNowAtStore_done : endNowAtStore r f s =
    complete f (.done []) (.doneFor b.id (b.earlyEnd s.grain).qe)
      (editRecord b (fun q => (q.earlyEnd s.grain).endedWith .early) s) := by
  simp only [endNowAtStore, hb]

end

theorem earlyEnd_id (g : Nat) (b : Record) : (b.earlyEnd g).id = b.id := by
  unfold Record.earlyEnd
  split <;> rfl

/-- The record that an early end at grain `g` leaves (R34). -/
theorem earlyEnd_eq (g : Nat) (b : Record) : b.earlyEnd g = { b with
    qe := if g + 1 < b.qe then g + 1 else b.qe
    se := if g + 1 < b.qe then max (g + 1 + (b.se - b.qe)) (b.ss + 1) else b.se } := by
  unfold Record.earlyEnd
  split <;> rfl

/-- Settles O42: the two checks by `judgeWhole_two`, the edits by `edits_of_editRecord`. -/
theorem extendAndEndNowEditTheCheckedInBooking : Obligations.ExtendAndEndNowEditTheCheckedInBooking := by
  intro place r f s hw hp
  obtain ⟨-, hf, -⟩ := id hw
  refine ⟨fun hr => ?_, fun hr => ?_⟩
  · obtain ⟨hclock, hstore⟩ := judgeWhole_two (p := Request.isExtend) (place := place) (by rw [hr]; rfl)
      (by rw [hr]; rfl) hf hp (extendAtStore_engine r) (fun u => by rw [checkStep, Flight.due, hr]; rfl)
      (fun u => by rw [checkStep, Flight.due, hr]; rfl)
    have hexec : exec .extend s = .next (judgeWhole Request.isExtend 2 s) :=
      congrArg Host.Outcome.next (engineStep_atWork hw _)
    have hplace : (f.due 2).request.place? = some place := by rw [Flight.due, hr]; rfl
    have hrefused : ∀ why named, s.clock.state = .running →
        extendAtStore r (f.due 2) (setFlight (f.due 2) s) = refuse (f.due 2) why named (setFlight (f.due 2) s) →
        exec .extend s =
          .next { answerCall place ⟨.refused, some why, named, none⟩ s with engine := s.engine.afterEnd } := by
      intro why named hc h
      rw [hexec, hstore hc, h, refuse_panel hplace]
      rfl
    refine ⟨⟨fun hc => hexec.trans (congrArg _ (hclock hc)), fun hc hno => hrefused _ _ hc ?_⟩,
      fun b hc hb hend => hrefused _ _ hc (extendAtStore_beyond (s := setFlight (f.due 2) s) hb hend),
      fun b c cs hc hb hend hmeets =>
        hrefused _ _ hc (extendAtStore_conflict (s := setFlight (f.due 2) s) hb hend hmeets), ?_⟩
    · have hno' : checkedInAt (setFlight (f.due 2) s) r = none := hno
      simp only [extendAtStore, hno']
    · intro b hc hb hend se hclear
      have hmeets : extensionMeets (setFlight (f.due 2) s) b = [] := by
        rw [extensionMeets, List.flatMap_eq_nil_iff]
        intro q hq
        rw [List.filter_eq_nil_iff]
        intro c hc' hd
        obtain ⟨hne, hmeet⟩ := of_decide_eq_true hd
        exact hclear q hq c hc' hne hmeet
      refine edits_of_editRecord hb (f := Record.extended) (fun _ => rfl) rfl hplace rfl ?_
      rw [hexec, hstore hc]
      exact congrArg _ (extendAtStore_done (s := setFlight (f.due 2) s) hb hend hmeets)
  · obtain ⟨hclock, hstore⟩ := judgeWhole_two (p := Request.isEndNow) (place := place) (by rw [hr]; rfl)
      (by rw [hr]; rfl) hf hp (endNowAtStore_engine r) (fun u => by rw [checkStep, Flight.due, hr]; rfl)
      (fun u => by rw [checkStep, Flight.due, hr]; rfl)
    have hexec : exec .endNow s = .next (judgeWhole Request.isEndNow 2 s) :=
      congrArg Host.Outcome.next (engineStep_atWork hw _)
    have hplace : (f.due 2).request.place? = some place := by rw [Flight.due, hr]; rfl
    refine ⟨⟨fun hc => hexec.trans (congrArg _ (hclock hc)), fun hc hno => ?_⟩, fun b hc hb => ?_⟩
    · have hno' : checkedInAt (setFlight (f.due 2) s) r = none := hno
      refine hexec.trans (congrArg _ ((hstore hc).trans ?_))
      simp only [endNowAtStore, hno']
      rw [refuse_panel hplace]
      rfl
    · have hgo : exec .endNow s = .next (complete (f.due 2) (.done []) (.doneFor b.id (b.earlyEnd s.grain).qe)
          (editRecord b (fun q => (q.earlyEnd s.grain).endedWith .early) (setFlight (f.due 2) s))) := by
        rw [hexec, hstore hc]
        exact congrArg _ (endNowAtStore_done (s := setFlight (f.due 2) s) hb)
      have hedits := edits_of_editRecord hb (b' := ((b.earlyEnd s.grain).endedWith .early).regrained)
        (f := fun q => (q.earlyEnd s.grain).endedWith .early) (fun q => earlyEnd_id s.grain q) rfl hplace rfl hgo
      rw [earlyEnd_eq] at hedits
      exact hedits

end Sys2Proof.Machine
end

section
/-!
SUPPORT. A CANCEL, by the state of its booking (R67).
-/

namespace Sys2Proof.Machine

theorem exec_cancelCheck {s : State} {f : Flight} {n : Nat} {via : Via} {id : BookingId} (h : AtWork s f)
    (hr : f.request = .cancel via id) (hp : f.phase = .check n) :
    exec .admissionCheck s = .next (cancelStep id f s) := by
  rw [exec_check h hp, checkStep, hr]

theorem cancelAnswer_of {s : State} {id : BookingId} {b : Record} (h : s.record? id = some b) :
    cancelAnswer s id = .done (cancelContents b) := by
  rw [cancelAnswer, h]
  rfl

/-! ## The two ends of a CANCEL that is done -/

section

variable {s : State} {f : Flight} {b : Record} (hb : s.record? b.id = some b)

include hb

theorem cancelStep_dead (h : b.state = .moving ∨ b.state = .ended ∨ b.state = .released) :
    cancelStep b.id f s = refuse f .notLive none s := by
  obtain h | h | h := h <;> simp [cancelStep, hb, h]

/-- A booking that is still to come is released, and answered with the record as the release leaves it. -/
theorem cancelStep_coming (h : b.state = .booked ∨ b.state = .armed) : cancelStep b.id f s =
    complete f (.done (cancelContents (b.afterRelease .cancelled))) (.bare .done) (release b.id .cancelled s) := by
  rw [← cancelAnswer_of (releaseRecord_released hb .cancelled).own]
  obtain h | h := h <;> simp [cancelStep, hb, h, release]

end

/-- The record of a CHECKED_IN booking as its cancel at grain `g` leaves it, before its order is handed over. -/
def Record.cutShort (g : Nat) (b : Record) : Record := { b with
  qe := if g + 1 < b.qe then g + 1 else b.qe
  se := if g + 1 < b.qe then max (g + 1 + (b.se - b.qe)) (b.ss + 1) else b.se
  state := .ended
  endReason := some .cancelled }

theorem earlyEnd_endedWith (g : Nat) (b : Record) : (b.earlyEnd g).endedWith .cancelled = b.cutShort g := by
  rw [earlyEnd_eq]
  rfl

/-- The part once a CHECKED_IN booking is ended and its order handed over. -/
def cutShort (b : Record) (s : State) : State :=
  recomputeRetire b.id (releaseOrder b.id (editRecord b (Record.cutShort s.grain) s))

/-- What ending a CHECKED_IN booking for its cancel makes of each block (R34, R67, R116). -/
theorem cutShort_released {b : Record} {s : State} (hb : s.record? b.id = some b) :
    let ended : Record := { b.cutShort s.grain with order := b.order.map Order.afterRelease }
    let t := cutShort b s
    CutFrame s t ∧ t.record? b.id = some ended.regrained ∧ (∀ x, x ≠ b.id → t.record? x = s.record? x) ∧
      t.store = { s.store with records := t.store.records } ∧
      (∀ q, t.composer.roomMarks.get q = (s.composer.roomMarks.get q || (listRooms s b).contains q)) ∧
      TicketsGone (if b.served then [b] else []) s t ∧
      LoadsGone (b.order.filter fun o => o.state == .placed).toList s t ∧
      t.exceptions = (wasteRaised b s).exceptions := by
  have hid : ∀ q, (Record.cutShort s.grain q).id = q.id := fun _ => rfl
  have hown := editRecord_own hb hid
  have hothers := fun x (hx : x ≠ b.id) => editRecord_of_ne (b := b) (s := s) hid hx
  have hmarks := editRecord_marks b (Record.cutShort s.grain) s
  have hedit := editRecord_eq b (Record.cutShort s.grain) s
  obtain ⟨u, hu⟩ : ∃ u, u = editRecord b (Record.cutShort s.grain) s := ⟨_, rfl⟩
  have hcut : cutShort b s = recomputeRetire b.id (releaseOrder b.id u) := by rw [hu]; rfl
  rw [← hu] at hown hothers hmarks hedit
  have ho := releaseOrder_released (r := (b.cutShort s.grain).regrained) hown
  obtain ⟨records, hstore⟩ := ho.store
  have hframe : CutFrame s u := hedit.trans (by rw [hedit])
  intro ended t
  have ht : t = recomputeRetire b.id (releaseOrder b.id u) := hcut
  have hrel : releaseOrder (b.cutShort s.grain).regrained.id u = releaseOrder b.id u := rfl
  rw [hrel] at ho hstore
  generalize releaseOrder b.id u = v at ho hstore ht
  refine ⟨?_, ?_, fun x hx => ?_, ?_, fun q => ?_, ?_, ?_, ?_⟩
  · rw [ht]
    exact (hframe.trans ho.frame).trans (.update ..)
  · rw [ht]
    refine (updRecord_self b.id Record.regrained (fun _ => rfl) v).trans ?_
    exact congrArg (Option.map Record.regrained) ho.own
  · rw [ht]
    exact (updRecord_of_ne b.id x hx Record.regrained (fun _ => rfl) v).trans ((ho.others x hx).trans (hothers x hx))
  · have hv : t.store = { v.store with records := t.store.records } := by rw [ht]; rfl
    rw [hv, hstore, hedit]
  · rw [ht]
    exact (congrArg (fun m : Tab Bool 96 => m.get q) ho.marks).trans (hmarks q)
  · rw [ht]
    have htickets : TicketsGone (if b.served then [b] else []) u v := ho.tickets.of_kitchen rfl rfl
    exact htickets.congr (by rw [hedit]) (by rw [hedit]) (by rw [hedit]) rfl rfl rfl
  · rw [ht]
    exact ho.loads.congr (by rw [hedit]) rfl
  · rw [ht]
    refine ho.exceptions.trans (wasteRaised_exceptions_congr b ?_ ?_ ?_) <;> rw [hedit]

theorem cancelStep_checkedIn {b : Record} {s : State} {f : Flight} (hb : s.record? b.id = some b)
    (h : b.state = .checkedIn) : cancelStep b.id f s =
      complete f (cancelAnswer (cutShort b s) b.id) (.bare .done) (cutShort b s) := by
  have hedit : (fun q => (q.earlyEnd s.grain).endedWith .cancelled) = Record.cutShort s.grain :=
    funext fun q => earlyEnd_endedWith s.grain q
  simp only [cancelStep, hb, h, hedit]
  rfl

/-- An admission answered from a state that a cut of the store, the catering, the faces or the exceptions has left. -/
theorem complete_of_frame {f : Flight} {via : Via} {k : Kind} (h : f.request.asker? = some (via, k)) (up : Answer)
    (panel : CallAnswer) {s u : State} (hu : CutFrame s u) :
    ∃ ports, complete f up panel u = { u with engine := s.engine.afterEnd, ports := ports } ∧
      { u with engine := s.engine.afterEnd, ports := ports } = { s with
        store := u.store, catering := u.catering, composer := u.composer, exceptions := u.exceptions
        engine := s.engine.afterEnd, ports := ports } ∧
      Answered via k up s { u with engine := s.engine.afterEnd, ports := ports } := by
  have hdone : complete f up panel u =
      { u with engine := s.engine.afterEnd, ports := (complete f up panel u).ports } := by
    rw [complete_uplink_eq h up panel u, hu]
  refine ⟨_, hdone, ?_, ?_⟩
  · exact congrArg (fun w : State => { w with
      engine := s.engine.afterEnd, ports := (complete f up panel u).ports }) hu
  · rw [← hdone]
    exact complete_answered h up panel (by rw [hu])

/-- Settles O40: what is released by `release_released`, what is ended by `cutShort_released`. -/
theorem cancelReleasesOrEndsTheBooking : Obligations.CancelReleasesOrEndsTheBooking := by
  intro via id f n s hw hr hp
  have hask : f.request.asker? = some (via, .cancel) := by rw [hr]; rfl
  have hgo := exec_cancelCheck hw hr hp
  refine ⟨fun hno => ?_, fun b hb => ?_⟩
  · refine ⟨_, hgo, ?_⟩
    simp only [cancelStep, hno]
    exact refuse_endsWith hask .unknownId s
  · obtain rfl : b.id = id := record?_id hb
    refine ⟨fun hst => ⟨_, hgo, ?_⟩, fun hst => ⟨_, hgo, ?_⟩, fun hst => ⟨_, hgo, ?_⟩⟩
    · rw [cancelStep_dead hb hst]
      exact refuse_endsWith hask .notLive s
    · have hframe := release_frame hb .cancelled
      have hreleased := release_released hb .cancelled
      have hraised := release_exceptions hb .cancelled
      rw [cancelStep_coming hb hst]
      generalize release b.id .cancelled s = u at hframe hreleased hraised ⊢
      obtain ⟨ports, ht, hframe', hanswered⟩ := complete_of_frame hask
        (.done (cancelContents (b.afterRelease .cancelled))) (.bare .done) hframe
      rw [ht]
      exact ⟨hframe', hreleased, hraised, hanswered⟩
    · obtain ⟨hframe, hown, hothers, hstore, hmarks, htickets, hloads, hraised⟩ := cutShort_released hb
      rw [cancelStep_checkedIn hb hst, cancelAnswer_of hown]
      generalize cutShort b s = u at hframe hown hothers hstore hmarks htickets hloads hraised ⊢
      obtain ⟨ports, ht, hframe', hanswered⟩ := complete_of_frame hask
        (.done (cancelContents
          (Record.regrained { b.cutShort s.grain with order := b.order.map Order.afterRelease }))) (.bare .done) hframe
      rw [ht]
      exact ⟨hframe', hown, hothers, hstore, hmarks, htickets, hloads, hraised, hanswered⟩

end Sys2Proof.Machine
end

section
/-!
SUPPORT. The checks of a MODIFY (R64, R65), and the record put back where one is refused CONFLICT (R73).
-/

namespace Sys2Proof.Machine

/-! ## The record that a MODIFY names -/

theorem exec_modifyCheck {s : State} {f : Flight} {n : Nat} {via : Via} {ask : ModifyAsk} (h : AtWork s f)
    (hr : f.request = .modify via ask) (hp : f.phase = .check n) :
    exec .admissionCheck s = .next (modifyCheck ask f n s) := by
  rw [exec_check h hp, checkStep, hr]

/-- From its third check on, a MODIFY is checked with its record, or refused where there is none any more (R71). -/
theorem modifyCheck_of_none {s : State} {ask : ModifyAsk} (h : s.record? ask.id = none) (f : Flight) (n : Nat) :
    modifyCheck ask f (n + 3) s = refuse f .unknownId none s := by
  simp only [modifyCheck, h]

theorem modifyCheck_of_some {s : State} {ask : ModifyAsk} {b : Record} (h : s.record? ask.id = some b) (f : Flight)
    (n : Nat) : modifyCheck ask f (n + 3) s = modifyCheckRecord ask f b (n + 3) s := by
  simp only [modifyCheck, h]

theorem state_coming_iff (b : Record) : (b.state == .booked || b.state == .armed) = true ↔
    b.state = .booked ∨ b.state = .armed := by simp

theorem modifiedCells_eq (ask : ModifyAsk) (b : Record) : modifiedCells ask b (askedLines ask b) =
    1 + (if (ask.title.map Option.isSome).getD b.title.isSome then 2 else 0) +
      (match ask.order with
        | some asked => (asked.map fun o => if o.count ≤ 4 then 1 else 2).getD 0
        | none => (b.order.map fun o => if o.lines.length ≤ 4 then 1 else 2).getD 0) +
      (if (ask.organiser.map Option.isSome).getD b.organiser.isSome then 1 else 0) := by
  unfold modifiedCells askedLines
  rw [cellCount_eq]
  rcases ask.order with _ | _ | o
  · cases b.order <;> rfl
  · rfl
  · rfl

/-! ## The times of a MODIFY (R64) -/

section

variable {s : State} {ask : ModifyAsk} {w : AskTimes} (ht : ask.times = some w) (f : Flight) {b : Record}

include ht

theorem modifyTimes_past (h : (startGrain w.day w.minute < s.grain ∧ startGrain w.day w.minute ≠ b.qs) ∨
    endGrain w.day w.minute f.duration ≤ s.grain) : modifyTimes ask f b s = refuse f .past none s := by
  simp only [modifyTimes, ht]
  exact if_pos h

theorem modifyTimes_checked (h : ¬ ((startGrain w.day w.minute < s.grain ∧ startGrain w.day w.minute ≠ b.qs) ∨
    endGrain w.day w.minute f.duration ≤ s.grain)) : modifyTimes ask f b s =
      checkOr (decide (endGrain w.day w.minute f.duration ≤ s.clock.horizonEnd))
        { f with qs := startGrain w.day w.minute, qe := endGrain w.day w.minute f.duration } .beyondHorizon 9 s := by
  simp only [modifyTimes, ht]
  exact if_neg h

end

/-! ## The order of a MODIFY (R65) -/

theorem touchesOrder_iff (ask : ModifyAsk) (f : Flight) (b : Record) : touchesOrder ask f b = true ↔
    ask.order ≠ none ∨ (b.order ≠ none ∧ (f.qs ≠ b.qs ∨ resultRoom ask b ≠ b.room)) := by
  simp [touchesOrder, Option.isSome_iff_ne_none]

theorem orderInService_iff (b : Record) : orderInService b = true ↔
    ∃ o, b.order = some o ∧ (o.state = .dispatched ∨ o.state = .accepted ∨ o.state = .delivered) := by
  unfold orderInService
  cases b.order <;> simp [Order.ticketed, or_assoc]

/-- Check 10: an order in service that the MODIFY touches (R65). -/
theorem touched_inService_iff (ask : ModifyAsk) (f : Flight) (b : Record) :
    (!(touchesOrder ask f b && orderInService b)) = true ↔ ¬ ∃ o, b.order = some o ∧
      (o.state = .dispatched ∨ o.state = .accepted ∨ o.state = .delivered) ∧
      (ask.order ≠ none ∨ f.qs ≠ b.qs ∨ resultRoom ask b ≠ b.room) := by
  rw [Bool.not_eq_true', Bool.eq_false_iff, not_iff_not, Bool.and_eq_true, touchesOrder_iff, orderInService_iff]
  constructor
  · rintro ⟨ht, o, ho, hs⟩
    exact ⟨o, ho, hs, ht.imp_right And.right⟩
  · rintro ⟨o, ho, hs, ht⟩
    exact ⟨ht.imp_right fun h => ⟨by simp [ho], h⟩, o, ho, hs⟩

section

variable {s : State} {ask : ModifyAsk} {f : Flight} {b : Record}

theorem modifyOrder_untouched (h : ¬ (ask.order ≠ none ∨
    (b.order ≠ none ∧ (f.qs ≠ b.qs ∨ resultRoom ask b ≠ b.room)))) : modifyOrder ask f b s = advance f 12 s :=
  if_neg (mt (touchesOrder_iff ..).1 h)

theorem modifyOrder_removed (h : ask.order = some none) :
    modifyOrder ask f b s = advance { f with settlement := .remove } 12 s := by
  have ht : touchesOrder ask f b = true := (touchesOrder_iff ..).2 (.inl (by simp [h]))
  simp only [modifyOrder, ht, h, if_true]

theorem modifyOrder_anew {o : OrderAsk} (h : ask.order = some (some o)) : modifyOrder ask f b s =
    actOnJudgement (judgeOrder s (s.rooms.get (resultRoom ask b)).kitchen o.offset (o.lines.take o.count) f.qs b.order)
      ask.cateringRequired f s := by
  have ht : touchesOrder ask f b = true := (touchesOrder_iff ..).2 (.inl (by simp [h]))
  simp only [modifyOrder, ht, h, if_true, askLines]

theorem modifyOrder_cancelled {o : Order} (h : ask.order = none) (ho : b.order = some o) (hs : o.state = .cancelled) :
    modifyOrder ask f b s = advance f 12 s := by
  simp only [modifyOrder, h, ho, hs, if_true, ite_self]

/-- The record's own order is judged, at its kept grains where Qs stands (R108). -/
theorem modifyOrder_own {o : Order} (h : ask.order = none) (ho : b.order = some o) (hs : o.state ≠ .cancelled)
    (ht : f.qs ≠ b.qs ∨ resultRoom ask b ≠ b.room) : modifyOrder ask f b s =
      actOnJudgement (if f.qs = b.qs then judgeKept s (s.rooms.get (resultRoom ask b)).kitchen o
        else judgeOrder s (s.rooms.get (resultRoom ask b)).kitchen o.offset o.lines f.qs (some o))
        ask.cateringRequired f s := by
  have ht' : touchesOrder ask f b = true := (touchesOrder_iff ..).2 (.inr ⟨by simp [ho], ht⟩)
  simp only [modifyOrder, ht', h, ho, hs, if_true, if_false]

end

/-- An order's grains are computed from its offset and its lines (R108). -/
def GrainsAnew (s : State) (f : Flight) (offset : Nat) (lines : List (Nat × Nat)) (qd qx : Nat) (late : Prop) : Prop :=
  qd = f.qs - offset ∧ qx = qd - orderLead s lines ∧ (late ↔ f.qs < s.grain + offset + orderLead s lines)

/-- The order that check 11 of a MODIFY judges: one given anew, or the record's own where the MODIFY touches it, which
keeps its grains where Qs stands (R65, R108). -/
def OrderJudged (s : State) (ask : ModifyAsk) (f : Flight) (b : Record) (offset : Nat) (lines : List (Nat × Nat))
    (qd qx : Nat) (late : Prop) : Prop :=
  (∃ o, ask.order = some (some o) ∧ offset = o.offset ∧ lines = o.lines.take o.count ∧
    GrainsAnew s f offset lines qd qx late) ∨
  (ask.order = none ∧ (ask.order ≠ none ∨ (b.order ≠ none ∧ (f.qs ≠ b.qs ∨ resultRoom ask b ≠ b.room))) ∧
    ∃ o, b.order = some o ∧ o.state ≠ .cancelled ∧ offset = o.offset ∧ lines = o.lines ∧
      (f.qs ≠ b.qs → GrainsAnew s f offset lines qd qx late) ∧
      (f.qs = b.qs → qd = o.qd ∧ qx = o.qx ∧ (late ↔ o.qx < s.grain)))

theorem modifyOrder_judged {s : State} {ask : ModifyAsk} {f : Flight} {b : Record} {offset qd qx : Nat}
    {lines : List (Nat × Nat)} {late : Prop} (h : OrderJudged s ask f b offset lines qd qx late) :
    ∃ isLate : Bool, (isLate = true ↔ late) ∧ modifyOrder ask f b s =
      actOnJudgement (judgeAt s (s.rooms.get (resultRoom ask b)).kitchen offset lines qd qx isLate b.order)
        ask.cateringRequired f s := by
  obtain ⟨o, ho, rfl, rfl, rfl, rfl, hlate⟩ | ⟨hnone, htouched, o, ho, hs, rfl, rfl, hanew, hkept⟩ := h
  · exact ⟨_, decide_eq_true_iff.trans hlate.symm, modifyOrder_anew ho⟩
  · have ht : f.qs ≠ b.qs ∨ resultRoom ask b ≠ b.room :=
      (htouched.resolve_left fun h => h hnone).2
    rw [modifyOrder_own hnone ho hs ht]
    by_cases hq : f.qs = b.qs
    · obtain ⟨rfl, rfl, hlate⟩ := hkept hq
      exact ⟨_, decide_eq_true_iff.trans hlate.symm, by rw [if_pos hq, ho]; rfl⟩
    · obtain ⟨rfl, rfl, hlate⟩ := hanew hq
      exact ⟨_, decide_eq_true_iff.trans hlate.symm, by rw [if_neg hq, ho]; rfl⟩

/-! ## The conflicts of a MODIFY (R57, R72) -/

theorem editsLists_iff (ask : ModifyAsk) : editsLists ask = true ↔ ask.times ≠ none ∨ ask.room ≠ none := by
  simp [editsLists, Option.isSome_iff_ne_none]

/-- Where the room has no partner, nothing conflicts in a second list. -/
theorem requesterConflicts_of_none {s : State} {r : RoomNo} (h : (s.rooms.get r).partner = none) (joined : Bool)
    (sp : Span) (own : Option BookingId) : (requesterConflicts s r joined sp own).2 = [] := by
  simp [requesterConflicts, h]

theorem modifyConflict_unlisted {ask : ModifyAsk} (h : ¬ (ask.times ≠ none ∨ ask.room ≠ none)) (f : Flight)
    (b : Record) (s : State) : modifyConflict ask f b s = setFlight { f with phase := .take [] } s :=
  if_neg (mt (editsLists_iff ask).1 h)

section

variable {ask : ModifyAsk} {f : Flight} {b : Record} {s : State} {c1 c2 : List Record}
  (hedits : ask.times ≠ none ∨ ask.room ≠ none)
  (hcs : requesterConflicts s (resultRoom ask b) b.joined
    (spanIn (s.rooms.get (resultRoom ask b)) f.qs f.qe) (some b.id) = (c1, c2))

include hedits hcs

theorem modifyConflict_of_free (h : c1 ++ c2 = []) : modifyConflict ask f b s = setFlight { f with
    span := spanIn (s.rooms.get (resultRoom ask b)) f.qs f.qe
    phase := if f.taken = none then .take [] else .place } s := by
  have he : editsLists ask = true := (editsLists_iff ask).2 hedits
  simp only [modifyConflict, he, if_true, hcs, h]
  cases f.taken <;> rfl

theorem modifyConflict_of_yielding (h : c1 ++ c2 ≠ [])
    (hm : mayDisplaceAll s (resultRoom ask b) f.cls (c1, c2) = true) : modifyConflict ask f b s = setFlight { f with
    span := spanIn (s.rooms.get (resultRoom ask b)) f.qs f.qe
    phase := if f.taken = none then .take (pushOrder (c1, c2)) else .displaceRequester (pushOrder (c1, c2)) } s := by
  have he : editsLists ask = true := (editsLists_iff ask).2 hedits
  simp only [modifyConflict, he, if_true, hcs]
  split
  next hnil => exact absurd hnil h
  next =>
    refine (if_pos hm).trans ?_
    cases f.taken <;> rfl

theorem modifyConflict_of_conflict {first : Record} {rest : List Record} (h : c1 ++ c2 = first :: rest)
    (hm : ¬ mayDisplaceAll s (resultRoom ask b) f.cls (c1, c2) = true) : modifyConflict ask f b s =
    refuseConflict first.id { f with span := spanIn (s.rooms.get (resultRoom ask b)) f.qs f.qe } s := by
  have he : editsLists ask = true := (editsLists_iff ask).2 hedits
  simp only [modifyConflict, he, if_true, hcs, h]
  exact if_neg hm

end

/-! ## The record put back (R73) -/

/-- The part with the record of a refused MODIFY back in its room's list. -/
def putBack (b : Record) (state : BookingState) (s : State) : State :=
  insertInto b.room { b with state := state } (updRecord b.id (fun q => { q with state := state }) s)

theorem putBack_spec {b : Record} {s : State} (hb : s.record? b.id = some b) (state : BookingState) :
    putBack b state s = { s with
      store := { s.store with records := (putBack b state s).store.records, lists := (putBack b state s).store.lists }
      composer := { s.composer with roomMarks := s.composer.roomMarks.set b.room true } } ∧
    (putBack b state s).record? b.id = some { b with state := state } ∧
    (∀ x, x ≠ b.id → (putBack b state s).record? x = s.record? x) ∧ InsertedInto b.room b s (putBack b state s) := by
  refine ⟨rfl, ?_, fun x hx => ?_, ?_⟩
  · refine (updRecord_self b.id (fun q => { q with state := state }) (fun _ => rfl) s).trans ?_
    rw [hb]
    rfl
  · exact updRecord_of_ne b.id x hx (fun q => { q with state := state }) (fun _ => rfl) s
  · exact insertInto_inserted b.room { b with state := state } (updRecord b.id (fun q => { q with state := state }) s)

/-- The refusal of a MODIFY whose record has been taken out: the record is put back, and a joined one then waits for
its second insertion (R38, R73). -/
theorem refuseConflict_taken {b k : Record} {s : State} {f : Flight} (hb : s.record? b.id = some b)
    (hk : f.taken = some k) (hid : k.id = b.id) (hroom : (s.rooms.get b.room).state ≠ .outOfService)
    (first : BookingId) :
    (besideRoom s b = none → refuseConflict first f s =
      refuse f .conflict (some first) (putBack b k.state s)) ∧
    ∀ q, besideRoom s b = some q → refuseConflict first f s =
      setFlight { f with phase := .partner (some first) } (putBack b k.state s) := by
  have hrec := (updRecord_self b.id (fun q => { q with state := k.state }) (fun _ => rfl) s).trans
    (congrArg (Option.map fun q => { q with state := k.state }) hb)
  have hinsert : insertRecord { b with state := k.state }
      (updRecord b.id (fun q => { q with state := k.state }) s) = putBack b k.state s := placeInto_of_open _ hroom
  have hback : refuseConflict first f s = insertThen { b with state := k.state } (some first) f
      (refuse f .conflict (some first)) (updRecord b.id (fun q => { q with state := k.state }) s) := by
    simp only [refuseConflict, hk, restoreTaken, hid, hrec, Option.map_some]
  have hbeside : besideRoom (putBack b k.state s) { b with state := k.state } = besideRoom s b := rfl
  rw [hback, insertThen, hinsert]
  simp only [hbeside]
  exact ⟨fun h => by rw [h], fun q h => by rw [h]⟩

/-- Settles O38, check by check: check 11 by `modifyOrder_judged`, check 12 by the outcomes of `modifyConflict`. -/
theorem modifyChecksRunInOrder : Obligations.ModifyChecksRunInOrder := by
  intro via ask f n s hw hr hp
  have hask : f.request.asker? = some (via, .modify) := by rw [hr]; rfl
  have hgo := exec_modifyCheck hw hr hp
  refine ⟨?_, ?_, fun hn hno => ?_, fun b hb => ⟨?_, ?_, ?_, ?_, ?_, ?_, ?_, ?_, ?_, ?_⟩⟩
  · rintro rfl
    exact checkOr_judges hask (valid_iff _) _ _ hgo
  · rintro rfl
    exact checkOr_judges hask (record?_isSome_iff ..) _ _ hgo
  · obtain ⟨n, rfl⟩ := Nat.exists_eq_add_of_le' hn
    exact ⟨_, hgo.trans (congrArg _ (modifyCheck_of_none hno f n)), refuse_endsWith hask .unknownId s⟩
  all_goals
    rintro rfl
    replace hgo := hgo.trans (congrArg _ (modifyCheck_of_some hb f _))
  case refine_4 => exact checkOr_judges (f := { f with cls := b.cls }) hask (state_coming_iff b) _ _ hgo
  case refine_5 => exact checkOr_judges hask (inService_iff ..) _ _ hgo
  case refine_6 =>
    refine checkOr_judges hask ?_ _ _ hgo
    rw [Bool.or_eq_true, pairedInService_iff]
    cases b.joined <;> simp [resultRoom]
  case refine_7 =>
    refine ⟨fun ht => ?_, fun w ht => ⟨fun hd => ⟨_, hgo, ?_⟩, fun hd => hgo.trans (congrArg _ ?_)⟩⟩
    · simp only [modifyCheckRecord, ht] at hgo
      exact hgo
    · simp only [modifyCheckRecord, ht, hd, if_true]
      exact complete_endsWith hask ..
    · simp only [modifyCheckRecord, ht, if_neg hd]
      rfl
  case refine_8 => exact checkOr_judges hask decide_eq_true_iff _ _ hgo
  case refine_9 =>
    replace hgo : exec .admissionCheck s = .next (modifyTimes ask f b s) := hgo
    refine ⟨fun ht => ?_, fun w ht => ⟨fun hpast => ?_, fun hpast hend => ?_, fun hpast hend => ?_⟩⟩
    · simp only [modifyTimes, ht] at hgo
      exact hgo
    · exact ⟨_, hgo.trans (congrArg _ (modifyTimes_past ht f hpast)), refuse_endsWith hask .past s⟩
    · obtain ⟨-, hrefused⟩ := checkOr_judges (f := { f with
        qs := startGrain w.day w.minute, qe := endGrain w.day w.minute f.duration }) hask decide_eq_true_iff _ _
        (hgo.trans (congrArg _ (modifyTimes_checked ht f hpast)))
      exact hrefused (Nat.not_le.2 hend)
    · exact hgo.trans (congrArg _ ((modifyTimes_checked ht f hpast).trans (if_pos (decide_eq_true hend))))
  case refine_10 => exact checkOr_judges hask (by rw [modifiedCells_eq, decide_eq_true_eq]; rfl) _ _ hgo
  case refine_11 => exact checkOr_judges hask (touched_inService_iff ask f b) _ _ hgo
  case refine_12 =>
    replace hgo : exec .admissionCheck s = .next (modifyOrder ask f b s) := hgo
    refine ⟨fun h => hgo.trans (congrArg _ (modifyOrder_untouched h)),
      fun h => hgo.trans (congrArg _ (modifyOrder_removed h)),
      fun o h ho hs => hgo.trans (congrArg _ (modifyOrder_cancelled h ho hs)),
      ?_⟩
    intro offset lines qd qx late lead anew hjudged
    obtain ⟨isLate, hlate, hact⟩ := modifyOrder_judged hjudged
    refine actOnJudgement_judges hask hlate (fun k => ?_) (hgo.trans (congrArg _ hact))
    rw [OrderTaken, loadWithout_eq]
    rfl
  case refine_13 =>
    replace hgo : exec .admissionCheck s = .next (modifyConflict ask f b s) := hgo
    intro span meets beside cs may all edits
    have hcs : requesterConflicts s (resultRoom ask b) b.joined
        (spanIn (s.rooms.get (resultRoom ask b)) f.qs f.qe) (some b.id) = (meets (resultRoom ask b), beside) := by
      simp only [requesterConflicts, conflictsIn_some]
      rfl
    have hnone : (s.rooms.get (resultRoom ask b)).partner = none → beside = [] := by
      intro h
      have hsecond := requesterConflicts_of_none h b.joined (spanIn (s.rooms.get (resultRoom ask b)) f.qs f.qe) (some b.id)
      rw [hcs] at hsecond
      exact hsecond
    have hmay := mayDisplaceAll_iff (cls := f.cls) (cs := (meets (resultRoom ask b), beside)) hnone
    refine ⟨fun he => hgo.trans (congrArg _ (modifyConflict_unlisted he ..)),
      fun he hnil => hgo.trans (congrArg _ (modifyConflict_of_free he hcs hnil)),
      fun he hne hall => ⟨_, sortBy_inSpanOrder _,
        hgo.trans (congrArg _ (modifyConflict_of_yielding he hcs hne (hmay.2 hall)))⟩,
      fun first rest he hfirst hno => ?_⟩
    replace hgo := hgo.trans (congrArg _ (modifyConflict_of_conflict he hcs hfirst (mt hmay.1 hno)))
    refine ⟨fun htaken => ⟨_, hgo, ?_⟩, fun k hk hid hroom => ?_⟩
    · simp only [refuseConflict, htaken]
      exact complete_endsWith hask ..
    · obtain ⟨halone, hbeside⟩ := refuseConflict_taken (f := { f with span := span }) (b := b) (s := s)
        (by rw [← record?_id hb] at hb; exact hb) hk hid hroom first.id
      obtain ⟨hframe, hown, hothers, hinserted⟩ := putBack_spec (b := b) (s := s)
        (by rw [← record?_id hb] at hb; exact hb) k.state
      generalize putBack b k.state s = u at halone hbeside hframe hown hothers hinserted
      cases hq : besideRoom s b with
      | none =>
        have hjoined : b.joined = true → ∀ q, (s.rooms.get b.room).partner ≠ some q := by
          intro hj q hp
          simp [besideRoom, hj, hp] at hq
        obtain ⟨ports, ht, -, hanswered⟩ := complete_of_frame (f := { f with span := span }) hask
          ⟨.refused, some .conflict, word16 first.id.toNat⟩ (.refused .conflict (some first.id)) (s := s) (u := u)
          (hframe.trans (by rw [hframe]))
        refine ⟨_, hgo.trans (congrArg _ ((halone hq).trans ht)), ?_, hown, hothers, ?_, hinserted, ?_,
          fun _ => ⟨rfl, hanswered⟩, fun hj q hp => absurd hp (hjoined hj q)⟩ <;> rw [hframe]
      | some q =>
        have hjoined : b.joined = true ∧ (s.rooms.get b.room).partner = some q := by
          unfold besideRoom at hq
          split at hq
          next hj => exact ⟨hj, hq⟩
          next => cases hq
        refine ⟨_, hgo.trans (congrArg _ (hbeside q hq)), ?_, hown, hothers, ?_, hinserted, ?_,
          fun hj => absurd hjoined.1 (by simp [hj]), fun _ _ _ => ⟨?_, ?_⟩⟩ <;> rw [hframe] <;> rfl

end Sys2Proof.Machine
end

section
/-!
SUPPORT. What a placement is made of: changes of one record in turn, cells from the head of the pool, an order settled,
an insertion, and the answer at its end (R30, R38, R62, R63, R66, R110).
-/

namespace Sys2Proof.Machine

/-! ## Changes of one record -/

/-- Two changes of the record of an id, in turn, are one. -/
theorem updRecord_updRecord (id : BookingId) (f g : Record → Record) (hf : ∀ r, (f r).id = r.id) (s : State) :
    updRecord id g (updRecord id f s) = updRecord id (g ∘ f) s := by
  have hrecords : (s.store.records.map fun q => if q.id == id then f q else q).map
      (fun q => if q.id == id then g q else q) = s.store.records.map fun q => if q.id == id then (g ∘ f) q else q := by
    rw [List.map_map]
    refine List.map_congr_left fun q _ => ?_
    by_cases hq : q.id = id <;> simp [hq, hf]
  unfold updRecord
  simp only [hrecords]

/-- A change that leaves each record as it is changes nothing. -/
theorem updRecord_id (id : BookingId) (s : State) : updRecord id (fun r => r) s = s := by
  unfold updRecord
  simp

/-- Where one record has been added under a new id, a change at that id changes it alone. -/
theorem updRecord_added {id : BookingId} {r : Record} {l : List Record} {s : State}
    (hs : s.store.records = l ++ [r]) (hr : r.id = id) (hl : ∀ b, b ∈ l → b.id ≠ id) (f : Record → Record) :
    (updRecord id f s).store.records = l ++ [f r] := by
  have hkeep : (l.map fun q => if q.id == id then f q else q) = l := by
    refine (List.map_congr_left fun q hq => ?_).trans (List.map_id' l)
    simp [hl q hq]
  simp only [updRecord, hs, List.map_append, hkeep, List.map_cons, List.map_nil, hr, beq_self_eq_true, if_true]

theorem record?_added {id : BookingId} {r : Record} {l : List Record} {s : State}
    (hs : s.store.records = l ++ [r]) (hr : r.id = id) (hl : ∀ b, b ∈ l → b.id ≠ id) : s.record? id = some r := by
  have hnone : l.find? (fun b => b.id == id) = none := List.find?_eq_none.2 fun b hb => by simpa using hl b hb
  simp [State.record?, Store.find, hs, hnone, hr]

/-- An insertion stands in a state whose records have the same spans. -/
theorem InsertedInto.of_spans {q : RoomNo} {b : Record} {s u t : State} (h : InsertedInto q b s u)
    (hl : t.store.lists = u.store.lists) (hr : ∀ x, (t.record? x).map (·.ss) = (u.record? x).map (·.ss)) :
    InsertedInto q b s t := by
  obtain ⟨before, after, hs, hu, hbefore, hafter⟩ := h
  refine ⟨before, after, hs, hl.trans hu, fun x hx c hc => ?_, fun x hx => ?_⟩
  · have hss := hr x
    rw [hc] at hss
    obtain ⟨c', hc', hss'⟩ := Option.map_eq_some_iff.1 hss.symm
    have hle := hbefore x hx c' hc'
    dsimp only at hss'
    omega
  · obtain ⟨c, hc, hlt⟩ := hafter x hx
    have hss := hr x
    rw [hc] at hss
    obtain ⟨c', hc', hss'⟩ := Option.map_eq_some_iff.1 hss
    exact ⟨c', hc', by dsimp only at hss'; omega⟩

/-- A change of one record that keeps its id and its span changes the span of none. -/
theorem updRecord_spans (id : BookingId) (f : Record → Record) (hf : ∀ r, (f r).id = r.id ∧ (f r).ss = r.ss)
    (s : State) (x : BookingId) : ((updRecord id f s).record? x).map (·.ss) = (s.record? x).map (·.ss) := by
  by_cases hx : x = id
  · subst hx
    rw [updRecord_self x f fun r => (hf r).1]
    cases s.record? x <;> simp [hf]
  · rw [updRecord_of_ne id x hx f fun r => (hf r).1]

/-! ## Cells from the head of the pool (R31) -/

theorem allocate_low {n : Nat} {s : State} (hn : n ≠ 0) (h : s.store.storeLowArmed = true)
    (hlen : (s.store.free.drop n).length < 64) : (allocate n s).store.storeLowArmed = false ∧
      (allocate n s).exceptions =
        (raise .storeLow .none none (BitVec.ofNat 32 (s.store.free.drop n).length) s).exceptions := by
  have hif : allocate n s = raise .storeLow .none none (BitVec.ofNat 32 (s.store.free.drop n).length)
      { s with store := { s.store with free := s.store.free.drop n, storeLowArmed := false } } :=
    if_pos ⟨hn, h, hlen⟩
  rw [hif]
  exact ⟨rfl, rfl⟩

theorem allocate_not_low {n : Nat} {s : State}
    (h : ¬ (n ≠ 0 ∧ s.store.storeLowArmed = true ∧ (s.store.free.drop n).length < 64)) :
    allocate n s = { s with store := { s.store with free := s.store.free.drop n } } := if_neg h

/-! ## An order settled (R62, step 5; R110) -/

/-- The order that a settlement whose page carries its day leaves (R110). -/
def Settlement.orderOver (t : Settlement) (old : Option Order) : Option Order :=
  match t with
  | .place j => some (j.order .placed)
  | .keep => old
  | .remove => old

/-- The record with its order settled and its retire grain computed with it (R62, steps 5 and 6). -/
def Record.settled (t : Settlement) (r : Record) : Record := { r with order := t.orderOver r.order }.regrained

/-- The load table with the load of the order it places. -/
def Settlement.loaded (t : Settlement) (c : Catering) : Catering :=
  match t with
  | .place j => c.changeLoad j.kitchen j.qd (· + j.load)
  | .keep => c
  | .remove => c

theorem placeOrder_of_carries {id : BookingId} {j : Judged} {s : State} (h : s.catering.carries j.qd = true) :
    placeOrder id j s = addLoad j.kitchen j.qd j.load
      (updRecord id (fun r => { r with order := some (j.order .placed) }) s) := if_pos h

/-- The judged order of a BOOK is placed with its booking, and the retire grain computed with it. -/
theorem placeSettled_regrained {id : BookingId} {t : Settlement} {s : State} {b : Record} (h : s.record? id = some b)
    (hc : ∀ j, t = .place j → s.catering.carries j.qd = true) : recomputeRetire id (placeSettled id t s) =
      { updRecord id (Record.settled t) s with
        catering := t.loaded s.catering } := by
  cases t with
  | place j =>
    have hplace : placeSettled id (.place j) s = placeOrder id j s := by simp [placeSettled, h]
    rw [hplace, placeOrder_of_carries (hc j rfl)]
    have hupd := updRecord_updRecord id (fun r => { r with order := some (j.order .placed) }) Record.regrained
      (fun _ => rfl) s
    exact congrArg (fun u : State => { u with
      catering := s.catering.changeLoad j.kitchen j.qd (· + j.load) }) hupd
  | keep | remove => rfl

/-- The order result that it gives (R63). -/
def Settlement.resultOver (t : Settlement) (old : OrderResult) : OrderResult :=
  match t with
  | .place _ => .placed
  | .keep => old
  | .remove => old

theorem orderResultOf_settled (f : Flight) (b : Record) :
    orderResultOf f (some (b.settled f.settlement)) =
      f.settlement.resultOver f.orderResult := by
  unfold orderResultOf
  cases f.settlement <;> rfl

/-! ## The end of a placement (R63, R76) -/

theorem complete_setFlight {f : Flight} {via : Via} {k : Kind} (h : f.request.asker? = some (via, k)) (g : Flight)
    (up : Answer) (panel : CallAnswer) (s : State) : complete f up panel (setFlight g s) = complete f up panel s := by
  rw [complete_uplink h, complete_uplink h, endFlight_eq, endFlight_eq, respond_eq, respond_eq]
  rfl

/-- A placement that has left no frames ends in its answer. -/
theorem completeIfServed_placedThen {f : Flight} (h : f.stack = []) (s : State) :
    completeIfServed (placedThen f s) = complete { f with phase := .serve } (doneAnswer f s) (.bare .done)
      (setFlight { f with phase := .serve } s) := if_pos ⟨rfl, h⟩

theorem doneAnswer_placed {f : Flight} {p b : Record} {s : State} (hp : f.placed = some p)
    (hb : s.record? p.id = some b) : doneAnswer f s =
      .done (admissionContents p (b.order.map (·.state)) f.clamped f.orderResult f.figures) := by
  simp only [doneAnswer, hp, hb, Option.getD_some]

/-- The end of a placement that has left no frames: the answer of R63, and nothing else. -/
theorem placement_ends {f : Flight} {via : Via} {k : Kind} (hask : f.request.asker? = some (via, k))
    (hstack : f.stack = []) {p b : Record} {s : State} (hp : f.placed = some p) (hb : s.record? p.id = some b) :
    ∃ ports, completeIfServed (placedThen f s) = { s with engine := s.engine.afterEnd, ports := ports } ∧
      ∀ u : State, s.ports = u.ports → Answered via k
        (.done (admissionContents p (b.order.map (·.state)) f.clamped f.orderResult f.figures)) u
        { s with engine := s.engine.afterEnd, ports := ports } := by
  have hask' : ({ f with phase := .serve } : Flight).request.asker? = some (via, k) := hask
  have hdone := complete_uplink_eq hask' (doneAnswer f s) (.bare .done) s
  rw [completeIfServed_placedThen hstack, complete_setFlight hask', ← doneAnswer_placed hp hb]
  refine ⟨_, hdone, fun u hu => ?_⟩
  rw [← hdone]
  exact complete_answered hask' _ _ hu

end Sys2Proof.Machine
end

section
/-!
SUPPORT. The placement of a BOOK, in one insertion or in two (R38, R62, R63).
-/

namespace Sys2Proof.Machine

/-! ## The record made and inserted (R62, steps 1 to 4) -/

/-- The number of cells that a BOOK takes (R29). -/
def Flight.bookedCells (f : Flight) (ask : BookAsk) : Nat :=
  cellCount ask.title.isSome f.settlement.lineCount ask.organiser.isSome

/-- The record that a BOOK makes (R62, step 2). -/
def madeRecord (ask : BookAsk) (f : Flight) (s : State) : Record :=
  bookRecord ask f (s.store.free.take (f.bookedCells ask)) (placedState s (asRoom ask.room) f.qs)

/-- The part with that record in its room's list. -/
def madeBooking (ask : BookAsk) (f : Flight) (s : State) : State :=
  insertInto (asRoom ask.room) (madeRecord ask f s)
    (addRecord (madeRecord ask f s) (allocate (f.bookedCells ask) s))

theorem bookedCells_ne_zero (f : Flight) (ask : BookAsk) : f.bookedCells ask ≠ 0 := by
  rw [Flight.bookedCells, cellCount_eq]
  omega

/-- The placement of a BOOK goes on after its one insertion, or waits for its second (R38). -/
theorem placeBook_eq {ask : BookAsk} {s : State} (f : Flight)
    (h : (s.rooms.get (asRoom ask.room)).state ≠ .outOfService) :
    (besideRoom s (madeRecord ask f s) = none → placeBook ask f s =
      finishBook ask.id { f with placed := some (madeRecord ask f s) } (madeBooking ask f s)) ∧
    ∀ q, besideRoom s (madeRecord ask f s) = some q → placeBook ask f s =
      setFlight { f with placed := some (madeRecord ask f s), phase := .partner none } (madeBooking ask f s) := by
  have halloc := allocate_eq (f.bookedCells ask) s
  have hmade : bookRecord ask f (s.store.free.take (f.bookedCells ask))
      (placedState (allocate (f.bookedCells ask) s) (asRoom ask.room) f.qs) = madeRecord ask f s := by
    rw [halloc]
    rfl
  have hinsert : insertRecord (madeRecord ask f s)
      (addRecord (madeRecord ask f s) (allocate (f.bookedCells ask) s)) = madeBooking ask f s := by
    refine placeInto_of_open _ ?_
    rw [halloc]
    exact h
  have hplace : placeBook ask f s = insertThen (madeRecord ask f s) none
      { f with placed := some (madeRecord ask f s) } (finishBook ask.id { f with placed := some (madeRecord ask f s) })
      (addRecord (madeRecord ask f s) (allocate (f.bookedCells ask) s)) := by
    rw [← hmade]
    rfl
  have hbeside : besideRoom (madeBooking ask f s) (madeRecord ask f s) = besideRoom s (madeRecord ask f s) := by
    unfold besideRoom madeBooking
    rw [halloc]
    rfl
  rw [hplace, insertThen, hinsert]
  simp only [hbeside]
  exact ⟨fun hq => by rw [hq], fun q hq => by rw [hq]⟩

/-- What a record made and inserted leaves: the store, the marks of its room and the exceptions alone have changed. -/
theorem madeBooking_eq (ask : BookAsk) (f : Flight) (s : State) : madeBooking ask f s = { s with
    store := { s.store with
      free := s.store.free.drop (f.bookedCells ask)
      records := s.store.records ++ [madeRecord ask f s]
      lists := (madeBooking ask f s).store.lists
      storeLowArmed := (allocate (f.bookedCells ask) s).store.storeLowArmed }
    composer := { s.composer with roomMarks := s.composer.roomMarks.set (asRoom ask.room) true }
    exceptions := (allocate (f.bookedCells ask) s).exceptions } := by
  have h : madeBooking ask f s = { allocate (f.bookedCells ask) s with
      store := { (allocate (f.bookedCells ask) s).store with
        records := (allocate (f.bookedCells ask) s).store.records ++ [madeRecord ask f s]
        lists := (madeBooking ask f s).store.lists }
      composer := { (allocate (f.bookedCells ask) s).composer with
        roomMarks := (allocate (f.bookedCells ask) s).composer.roomMarks.set (asRoom ask.room) true } } := rfl
  refine h.trans ?_
  rw [allocate_eq]

theorem madeBooking_inserted (ask : BookAsk) (f : Flight) (s : State) :
    InsertedInto (asRoom ask.room) (madeRecord ask f s) s (madeBooking ask f s) := by
  have hlists : (addRecord (madeRecord ask f s) (allocate (f.bookedCells ask) s)).store.lists = s.store.lists := by
    have halloc : (allocate (f.bookedCells ask) s).store.lists = s.store.lists := by rw [allocate_eq]
    exact halloc
  have h := insertInto_inserted (asRoom ask.room) (madeRecord ask f s)
    (addRecord (madeRecord ask f s) (allocate (f.bookedCells ask) s))
  unfold InsertedInto at h ⊢
  rw [hlists] at h
  exact h

/-- STORE_LOW is raised where the cells taken leave fewer than 64 free and it is armed, and not else (R31). -/
theorem madeBooking_low (ask : BookAsk) (f : Flight) (s : State) :
    let low := s.store.storeLowArmed = true ∧ (s.store.free.drop (f.bookedCells ask)).length < 64
    (low → (madeBooking ask f s).store.storeLowArmed = false ∧ (madeBooking ask f s).exceptions =
      (raise .storeLow .none none (BitVec.ofNat 32 (s.store.free.drop (f.bookedCells ask)).length) s).exceptions) ∧
    (¬ low → (madeBooking ask f s).store.storeLowArmed = s.store.storeLowArmed ∧
      (madeBooking ask f s).exceptions = s.exceptions) := by
  intro low
  rw [madeBooking_eq]
  refine ⟨fun h => allocate_low (bookedCells_ne_zero f ask) h.1 h.2, fun h => ?_⟩
  rw [allocate_not_low fun c => h c.2]
  exact ⟨rfl, rfl⟩

/-! ## The order settled and the answer given (R62, steps 5 and 6; R63) -/

/-- What finishes a BOOK whose record stands and whose order's page carries its day. -/
theorem finishBook_ends {f : Flight} {via : Via} {k : Kind} (hask : f.request.asker? = some (via, k))
    (hstack : f.stack = []) {p b : Record} {s : State} (hp : f.placed = some p) (hb : s.record? p.id = some b)
    (hc : ∀ j, f.settlement = .place j → s.catering.carries j.qd = true) :
    ∃ ports, finishBook p.id f s = { s with
        store := (updRecord p.id (Record.settled f.settlement) s).store
        catering := f.settlement.loaded s.catering
        engine := s.engine.afterEnd
        ports := ports } ∧
      ∀ u : State, s.ports = u.ports → Answered via k (.done (admissionContents p
        ((f.settlement.orderOver b.order).map (·.state)) f.clamped (f.settlement.resultOver f.orderResult)
          f.figures)) u (finishBook p.id f s) := by
  have hsettled := placeSettled_regrained hb hc
  obtain ⟨v, hv⟩ : ∃ v, v = { updRecord p.id (Record.settled f.settlement) s
    with catering := f.settlement.loaded s.catering } := ⟨_, rfl⟩
  rw [← hv] at hsettled
  have hrec : v.record? p.id = some (b.settled f.settlement) := by
    rw [hv]
    exact (updRecord_self p.id (Record.settled f.settlement) (fun _ => rfl) s).trans (by rw [hb, Option.map_some])
  have hfinish : finishBook p.id f s =
      completeIfServed (placedThen (f.resulted (v.record? p.id)) v) := by
    rw [← hsettled]
    rfl
  have hresult := orderResultOf_settled f b
  rw [← hrec] at hresult
  obtain ⟨ports, hends, hanswered⟩ := placement_ends (f := f.resulted (v.record? p.id)) hask hstack hp hrec
  have hengine : v.engine = s.engine := by
    rw [hv]
    rfl
  refine ⟨ports, ?_, fun u hu => ?_⟩
  · rw [hfinish, hends, hengine, hv]
    rfl
  · have hports : v.ports = u.ports := by rw [hv]; exact hu
    have h := hanswered u hports
    rw [← hends, ← hfinish] at h
    rw [← hresult]
    exact h

/-! ## The record of an unjoined BOOK -/

/-- With a record added, a lookup finds an old one, or the new one under its id. -/
theorem record?_append {s u : State} {r : Record} (h : u.store.records = s.store.records ++ [r]) (x : BookingId) :
    u.record? x = (s.record? x).or (if r.id = x then some r else none) := by
  simp only [State.record?, Store.find, h, List.find?_append, List.find?_cons, List.find?_nil]
  by_cases hx : r.id = x
  · simp [hx]
  · rw [beq_eq_false_iff_ne.2 hx, if_neg hx]

/-- An insertion of a new record, seen by the records that stood before it was made. -/
theorem InsertedInto.before_added {q : RoomNo} {r : Record} {s u : State} (h : InsertedInto q r s u)
    (hu : u.store.records = s.store.records ++ [r]) :
    ∃ before after, s.store.lists.get q = before ++ after ∧
      u.store.lists = s.store.lists.set q (before ++ r.id :: after) ∧
      (∀ x, x ∈ before → ∀ c, s.record? x = some c → c.ss ≤ r.ss) ∧
      ∀ x, after.head? = some x → ∃ c, s.record? x = some c ∧ r.ss < c.ss := by
  obtain ⟨before, after, hs, hlists, hbefore, hafter⟩ := h
  refine ⟨before, after, hs, hlists, fun x hx c hc => hbefore x hx c ?_, fun x hx => ?_⟩
  · rw [record?_append hu, hc]
    rfl
  · obtain ⟨c, hc, hlt⟩ := hafter x hx
    rw [record?_append hu, Option.or_eq_some_iff] at hc
    obtain hc | ⟨-, hc⟩ := hc
    · exact ⟨c, hc, hlt⟩
    · split at hc
      · cases hc
        omega
      · cases hc

/-- The retire grain of a record whose order a BOOK has settled (R40). -/
theorem retireGrainOf_placed (t : Settlement) (b : Record) (h : b.order = none) :
    retireGrainOf { b with order := t.orderOver b.order } =
      ((t.orderOver none).map fun o => max b.se (3 * (o.qd / 3 + 1))).getD b.se := by
  rw [h]
  cases t <;> rfl

theorem bookedCells_eq (f : Flight) (ask : BookAsk) : f.bookedCells ask = 1 + (if ask.title.isSome then 2 else 0) +
    ((f.settlement.orderOver none).map fun o => if o.lines.length ≤ 4 then 1 else 2).getD 0 +
      (if ask.organiser.isSome then 1 else 0) := by
  rw [Flight.bookedCells, cellCount_eq]
  cases f.settlement <;> rfl

theorem exec_placeBook {s : State} {f : Flight} {via : Via} {ask : BookAsk} (h : AtWork s f)
    (hr : f.request = .book via ask) (hp : f.phase = .place) :
    exec .admissionCheck s = .next (placeBook ask f s) := by
  rw [exec_place h hp, placeStep, hr]

theorem besideRoom_of_joined {s : State} {b : Record} {q : RoomNo} (hj : b.joined = true)
    (hq : (s.rooms.get b.room).partner = some q) : besideRoom s b = some q := (if_pos hj).trans hq

theorem besideRoom_of_unjoined {s : State} {b : Record} (hj : b.joined = false) : besideRoom s b = none :=
  if_neg (by simp [hj])

/-- Settles O37: one insertion by `placeBook_eq` and `finishBook_ends`, the first and the second of two by each. -/
theorem bookIsPlacedAndAnswered : Obligations.BookIsPlacedAndAnswered := by
  refine ⟨?_, ?_, ?_⟩
  · intro via ask r f s hw hr hp hroom hj hstack hopen hnew hcarries order n b low
    obtain rfl : asRoom ask.room = r := by rw [hroom, asRoom_val]
    have hask : f.request.asker? = some (via, .book) := by rw [hr]; rfl
    have horder : order = f.settlement.orderOver none := by
      unfold order
      cases f.settlement <;> rfl
    have hn : n = f.bookedCells ask := by rw [bookedCells_eq, ← horder]
    have hb : b = (madeRecord ask f s).settled f.settlement := by
      have hretire : retireGrainOf { madeRecord ask f s with order := f.settlement.orderOver none } =
          (order.map fun o => max f.span.last (3 * (o.qd / 3 + 1))).getD f.span.last := by
        rw [horder]
        exact retireGrainOf_placed f.settlement (madeRecord ask f s) rfl
      unfold b
      rw [← hretire, hn, horder, ← hj]
      rfl
    obtain ⟨hplace, -⟩ := placeBook_eq (ask := ask) (s := s) f (by rw [hopen]; decide)
    have hgo := (exec_placeBook hw hr hp).trans (congrArg _ (hplace (besideRoom_of_unjoined hj)))
    have hmade := madeBooking_eq ask f s
    have hinserted := madeBooking_inserted ask f s
    have hlow := madeBooking_low ask f s
    have hrecords : (madeBooking ask f s).store.records = s.store.records ++ [madeRecord ask f s] := by rw [hmade]
    obtain ⟨before, after, hsplit, hlists, hfirst, hlast⟩ := hinserted.before_added hrecords
    obtain ⟨ports, hends, hanswered⟩ := finishBook_ends (f := { f with placed := some (madeRecord ask f s) })
      (p := madeRecord ask f s) hask hstack rfl (record?_added hrecords rfl hnew)
      (fun j hj => by rw [hmade]; exact hcarries j hj)
    have hupdated := updRecord_added hrecords rfl hnew (Record.settled f.settlement)
    have hresult : (if order.isSome then .placed else f.orderResult) = f.settlement.resultOver f.orderResult := by
      rw [horder]
      cases f.settlement <;> rfl
    rw [hends] at hanswered
    refine ⟨_, before, after, hgo.trans (congrArg _ hends), ?_, hupdated.trans (by rw [hb]), ?_, ?_, ?_, hsplit,
      hlists, hfirst, hlast, ?_, ?_, fun h => ?_, fun h => ?_, ?_⟩
    · rw [hmade]
    · rw [hmade, hn]; rfl
    · rw [hmade]; rfl
    · rw [hmade]; rfl
    · rw [hmade]
    · rw [hmade]
      cases f.settlement <;> rfl
    · rw [hn] 
      exact hlow.1 ⟨h.1, by rw [← hn]; exact h.2⟩
    · exact hlow.2 (by rw [← hn]; exact h)
    · have hcontents : admissionContents b = admissionContents (madeRecord ask f s) := by rw [hb]; rfl
      rw [hresult, horder, hcontents]
      exact hanswered s (by rw [hmade])
  · intro via ask r q f s hw hr hp hroom hj hpartner hopen hnew lines n b low
    obtain rfl : asRoom ask.room = r := by rw [hroom, asRoom_val]
    have hn : n = f.bookedCells ask := by
      rw [Flight.bookedCells, cellCount_eq]
      unfold n lines
      cases f.settlement <;> rfl
    have hb : b = madeRecord ask f s := by
      unfold b
      rw [hn, ← hj]
      rfl
    have hgo := (exec_placeBook hw hr hp).trans
      (congrArg _ ((placeBook_eq f hopen).2 q (besideRoom_of_joined hj hpartner)))
    have hmade := madeBooking_eq ask f s
    have hlow := madeBooking_low ask f s
    refine ⟨_, hgo, ?_, ?_, ?_, ?_, ?_, ?_, fun h => ?_, fun h => ?_⟩
    · rw [hmade, hb]
      rfl
    · rw [hmade, hb]
      rfl
    · rw [hmade, hn]
      rfl
    · rw [hmade]
      rfl
    · rw [hb]
      exact madeBooking_inserted ask f s
    · rw [hmade]
      rfl
    · rw [hn]
      exact (hlow.1 ⟨h.1, by rw [← hn]; exact h.2⟩).2
    · exact (hlow.2 (by rw [← hn]; exact h)).2
  · intro via ask b p q f s hw hr hp hplaced hid hstack hb hj hin hpartner hopen hcarries order result
    have hask : f.request.asker? = some (via, .book) := by rw [hr]; rfl
    have horder : order = f.settlement.orderOver b.order := by
      unfold order
      cases f.settlement <;> rfl
    have hresult : result = f.settlement.resultOver f.orderResult := by
      unfold result
      cases f.settlement <;> rfl
    have hinsert : insertBeside ask.id s = insertInto q b s :=
      (insertBeside_of_standing hb hj hpartner hin).trans (placeInto_of_open b hopen)
    have hstep : partnerStep none f s = finishBook p.id f (insertInto q b s) := by
      rw [hid, ← hinsert, partnerStep, hr]
    obtain ⟨ports, hends, hanswered⟩ := finishBook_ends (s := insertInto q b s) hask hstack hplaced
      (by rw [hid]; exact hb) hcarries
    rw [hends] at hanswered hstep
    have hother := updRecord_of_ne p.id (f := Record.settled f.settlement) (hf := fun _ => rfl) (s := insertInto q b s)
    refine ⟨_, (exec_partner hw hp).trans (congrArg _ hstep), rfl, ?_, fun x hx => ?_, rfl, ?_, rfl, ?_, ?_⟩
    · rw [horder, hid]
      refine (updRecord_self ask.id (Record.settled f.settlement) (fun _ => rfl) (insertInto q b s)).trans ?_
      exact congrArg _ hb
    · exact hother x (by rw [hid]; exact hx)
    · exact (insertInto_inserted q b s).of_spans rfl
        (updRecord_spans p.id (Record.settled f.settlement) (fun _ => ⟨rfl, rfl⟩) (insertInto q b s))
    · cases f.settlement <;> rfl
    · rw [hresult, horder]
      exact hanswered s rfl

end Sys2Proof.Machine
end

section
/-!
SUPPORT. The steps of a MODIFY that is applied: its cells, its order, its record (R30, R66, R110).
-/

namespace Sys2Proof.Machine

/-! ## The cells a record keeps (R30) -/

/-- An insertion before the first element that is to stand behind keeps a list in order. -/
theorem insertWhere_inOrder {α : Type} {R : α → α → Prop} (htrans : ∀ {x y z}, R x y → R y z → R x z)
    {before : α → α → Bool} (hyes : ∀ {x y}, before x y = true → R x y) (hno : ∀ {x y}, before x y = false → R y x)
    (a : α) {l : List α} (h : l.Pairwise R) : (insertWhere (before a) a l).Pairwise R := by
  induction l with
  | nil => simp [insertWhere]
  | cons b bs ih =>
    obtain ⟨hb, hbs⟩ := List.pairwise_cons.1 h
    cases hab : before a b with
    | true =>
      rw [insertWhere, if_pos hab]
      refine List.pairwise_cons.2 ⟨fun x hx => ?_, h⟩
      obtain rfl | hx := List.mem_cons.1 hx
      · exact hyes hab
      · exact htrans (hyes hab) (hb x hx)
    | false =>
      rw [insertWhere, if_neg (by simp [hab])]
      refine List.pairwise_cons.2 ⟨fun x hx => ?_, ih hbs⟩
      obtain rfl | hx := mem_insertWhere.1 hx
      · exact hno hab
      · exact hb x hx

/-- Cells put in descending order stand so. -/
theorem sortBy_descending (l : List Nat) : (sortBy (fun a b => decide (b < a)) l).Pairwise fun x y => y ≤ x := by
  suffices h : ∀ acc : List Nat, (acc.Pairwise fun x y => y ≤ x) →
      (l.foldl (fun acc a => insertWhere (fun b => decide (b < a)) a acc) acc).Pairwise fun x y => y ≤ x from h [] .nil
  induction l with
  | nil => exact fun _ h => h
  | cons a l ih =>
    refine fun acc h => ih _ (insertWhere_inOrder (before := fun a b => decide (b < a)) (fun h h' => h'.trans h)
      (fun h => ?_) (fun h => ?_) a h)
    · exact (of_decide_eq_true h).le
    · exact Nat.le_of_not_lt (of_decide_eq_false h)

/-- What a record's cells become when their count falls to `n`: it keeps its base cell and the lowest of the others,
and the rest go in ascending number (R29, R30). -/
def CellsFall (old new : List Nat) (n : Nat) (gone : List Nat) : Prop :=
  old.Perm (new ++ gone) ∧ new.Sublist old ∧ new.length = n ∧ new.head? = old.head? ∧
    (∀ x y, x ∈ new.tail → y ∈ gone → x < y) ∧ gone.Pairwise (· < ·)

/-- The cells that go: the highest of all but the base cell. -/
def goneCells (cells : List Nat) (n : Nat) : List Nat :=
  (sortBy (fun a b => decide (b < a)) cells.tail).take (cells.length - n)

theorem keptCells_eq (cells : List Nat) (n : Nat) :
    keptCells cells n = cells.filter fun c => !(goneCells cells n).contains c := rfl

theorem goneCells_sub {c : Nat} {cells : List Nat} {n : Nat} (h : c ∈ goneCells cells n) : c ∈ cells.tail :=
  (sortBy_perm _ _).mem_iff.1 (List.mem_of_mem_take h)

/-- A cell but the base one that stays is lower than one that goes. -/
theorem lt_goneCells {x y : Nat} {cells : List Nat} {n : Nat} (hx : x ∈ cells.tail) (hx' : x ∉ goneCells cells n)
    (hy : y ∈ goneCells cells n) : x < y := by
  have hsorted := sortBy_descending cells.tail
  rw [← List.take_append_drop (cells.length - n) (sortBy _ cells.tail), List.pairwise_append] at hsorted
  have hmem : x ∈ sortBy (fun a b => decide (b < a)) cells.tail := (sortBy_perm _ _).mem_iff.2 hx
  rw [← List.take_append_drop (cells.length - n) (sortBy _ cells.tail), List.mem_append] at hmem
  obtain h | h := hmem
  · exact absurd h hx'
  · have hle := hsorted.2.2 y hy x h
    have hne : x ≠ y := fun e => hx' (e ▸ hy)
    omega

/-- The cells freed are those that go, in some order. -/
theorem freed_perm {cells : List Nat} (n : Nat) (hnodup : cells.Nodup) :
    (cells.filter fun c => !(keptCells cells n).contains c).Perm (goneCells cells n) := by
  have hgone : (goneCells cells n).Nodup :=
    ((sortBy_perm _ _).nodup_iff.2 (hnodup.sublist (List.tail_sublist cells))).sublist (List.take_sublist _ _)
  refine (List.perm_ext_iff_of_nodup (hnodup.filter _) hgone).2 fun c => ?_
  have htail : c ∈ goneCells cells n → c ∈ cells := fun h => List.mem_of_mem_tail (goneCells_sub h)
  simp only [keptCells_eq, List.mem_filter, Bool.not_eq_true', List.contains_eq_mem,
    decide_eq_false_iff_not, not_and, not_not]
  exact ⟨fun h => h.2 h.1, fun h => ⟨htail h, fun _ => h⟩⟩

/-- The base cell stays. -/
theorem keptCells_cons {c : Nat} {cells : List Nat} (n : Nat) (h : c ∉ cells) : keptCells (c :: cells) n =
    c :: cells.filter fun x => !(goneCells (c :: cells) n).contains x := by
  have hc : c ∉ goneCells (c :: cells) n := fun hc => h (goneCells_sub hc)
  rw [keptCells_eq, List.filter_cons_of_pos (by simpa using hc)]

/-- The cells that a record keeps, and those it frees, when its count falls. -/
theorem keptCells_fall {cells : List Nat} {n : Nat} (hnodup : cells.Nodup) (hn : n ≠ 0) (hlt : n < cells.length) :
    CellsFall cells (keptCells cells n) n
      (sortBy (fun a b => decide (a < b)) (cells.filter fun c => !(keptCells cells n).contains c)) := by
  have hsort := sortBy_perm (fun a b => decide (a < b)) (cells.filter fun c => !(keptCells cells n).contains c)
  have hgone := hsort.trans (freed_perm n hnodup)
  have hall : cells.Perm (keptCells cells n ++ goneCells cells n) := by
    have hsplit := List.filter_append_perm (fun c => (keptCells cells n).contains c) cells
    have hkept : (cells.filter fun c => (keptCells cells n).contains c) = keptCells cells n := by
      rw [keptCells_eq]
      refine List.filter_congr fun c hc => ?_
      simp [hc]
    rw [hkept] at hsplit
    exact hsplit.symm.trans ((freed_perm n hnodup).append_left _)
  have hlen : (goneCells cells n).length = cells.length - n := by
    rw [goneCells, List.length_take, (sortBy_perm _ _).length_eq, List.length_tail]
    omega
  refine ⟨hall.trans (hgone.symm.append_left _), List.filter_sublist, ?_, ?_, fun x y hx hy => ?_, ?_⟩
  · have := hall.length_eq
    rw [List.length_append, hlen] at this
    omega
  · obtain ⟨c, tl, rfl⟩ := List.exists_cons_of_length_pos (Nat.zero_lt_of_lt hlt)
    rw [keptCells_cons n (List.nodup_cons.1 hnodup).1]
    rfl
  · obtain ⟨c, tl, rfl⟩ := List.exists_cons_of_length_pos (Nat.zero_lt_of_lt hlt)
    rw [keptCells_cons n (List.nodup_cons.1 hnodup).1, List.tail_cons, List.mem_filter] at hx
    exact lt_goneCells (cells := c :: tl) hx.1 (by simpa using hx.2) (hgone.mem_iff.1 hy)
  · have hle := sortBy_pairwise (fun n : Nat => n) (cells.filter fun c => !(keptCells cells n).contains c)
    have hne : (sortBy (fun a b => decide (a < b)) (cells.filter fun c => !(keptCells cells n).contains c)).Nodup :=
      hsort.nodup_iff.2 (hnodup.filter _)
    exact (hle.and hne).imp fun h => lt_of_le_of_ne h.1 h.2

/-! ## One record changed -/

/-- Between the two states the record of an id has become `r`, and no other has changed. -/
def Becomes (id : BookingId) (r : Record) (s t : State) : Prop :=
  t.record? id = some r ∧ ∀ x, x ≠ id → t.record? x = s.record? x

theorem becomes_updRecord {id : BookingId} {r : Record} {s : State} (h : s.record? id = some r) (f : Record → Record)
    (hf : ∀ r, (f r).id = r.id) : Becomes id (f r) s (updRecord id f s) :=
  ⟨by rw [updRecord_self id f hf, h, Option.map_some], fun x hx => updRecord_of_ne id x hx f hf s⟩

theorem Becomes.trans {id : BookingId} {r q : Record} {s t u : State} (h : Becomes id r s t) (h' : Becomes id q t u) :
    Becomes id q s u := ⟨h'.1, fun x hx => (h'.2 x hx).trans (h.2 x hx)⟩

/-! ## Its cells brought to their number (R30, R31) -/

/-- The cells of a record and the free list when its count becomes `n`. -/
def CellsBrought (old new free free' : List Nat) (n : Nat) : Prop :=
  (old.length ≤ n → new = old ++ free.take (n - old.length) ∧ free' = free.drop (n - old.length)) ∧
  (n < old.length → ∃ gone, old.Perm (new ++ gone) ∧ new.Sublist old ∧ new.length = n ∧ new.head? = old.head? ∧
    (∀ x y, x ∈ new.tail → y ∈ gone → x < y) ∧ gone.Pairwise (· < ·) ∧ free' = free ++ gone)

/-- STORE_LOW is raised where `more` cells taken leave fewer than 64 free and it is armed, and not else (R31). -/
def LowJudged (more : Nat) (s t : State) : Prop :=
  let low := more ≠ 0 ∧ s.store.storeLowArmed = true ∧ (s.store.free.drop more).length < 64
  (low → t.exceptions = (raise .storeLow .none none (BitVec.ofNat 32 (s.store.free.drop more).length) s).exceptions) ∧
  (¬ low → t.exceptions = s.exceptions)

theorem allocate_lowJudged (n : Nat) (s : State) : LowJudged n s (allocate n s) :=
  ⟨fun ⟨hn, harmed, hlen⟩ => (allocate_low hn harmed hlen).2, fun h => by rw [allocate_not_low h]⟩

/-- A resizing changes the records, the free list with its arm, and the exceptions alone. -/
theorem resizeRecord_eq (r : Record) (n : Nat) (s : State) : resizeRecord r n s = { s with
    store := { s.store with
      records := (resizeRecord r n s).store.records
      free := (resizeRecord r n s).store.free
      storeLowArmed := (resizeRecord r n s).store.storeLowArmed }
    exceptions := (resizeRecord r n s).exceptions } := by
  unfold resizeRecord
  split
  · rw [allocate_eq]
    rfl
  · split <;> rfl

theorem resizeRecord_same {r : Record} {n : Nat} (h : n = r.cells.length) (s : State) : resizeRecord r n s = s := by
  rw [resizeRecord, if_neg (by omega), if_neg (by omega)]

/-- What a resizing makes of the record, its cells and the free list, and of STORE_LOW. -/
theorem resizeRecord_spec {r c : Record} {n : Nat} {s : State} (hn : n ≠ 0) (hc : s.record? r.id = some c)
    (hcells : c.cells = r.cells) (hnodup : r.cells.Nodup) : ∃ cells,
      Becomes r.id { c with cells := cells } s (resizeRecord r n s) ∧
      CellsBrought r.cells cells s.store.free (resizeRecord r n s).store.free n ∧
      LowJudged (n - r.cells.length) s (resizeRecord r n s) := by
  obtain hlt | heq | hgt := Nat.lt_trichotomy r.cells.length n
  · have hgrow : resizeRecord r n s = updRecord r.id (fun q =>
        { q with cells := q.cells ++ s.store.free.take (n - r.cells.length) }) (allocate (n - r.cells.length) s) :=
      if_pos hlt
    have hrecord : (allocate (n - r.cells.length) s).record? = s.record? := by
      rw [allocate_eq]
      rfl
    have hbecomes := becomes_updRecord ((congrFun hrecord r.id).trans hc)
      (fun q => { q with cells := q.cells ++ s.store.free.take (n - r.cells.length) }) (fun _ => rfl)
    rw [hgrow]
    refine ⟨_, ⟨hbecomes.1, fun x hx => (hbecomes.2 x hx).trans (congrFun hrecord x)⟩,
      ⟨fun _ => ⟨by rw [hcells], allocate_free _ _⟩, fun h => by omega⟩, allocate_lowJudged _ s⟩
  · rw [resizeRecord_same heq.symm]
    refine ⟨c.cells, ⟨hc, fun _ _ => rfl⟩, ⟨fun _ => ?_, fun h => by omega⟩,
      fun h => absurd h.1 (by omega), fun _ => rfl⟩
    simp [hcells, heq]
  · have hshrink : resizeRecord r n s = freeCells (r.cells.filter fun c => !(keptCells r.cells n).contains c)
        (updRecord r.id (fun q => { q with cells := keptCells r.cells n }) s) := by
      rw [resizeRecord, if_neg (by omega), if_pos hgt]
    obtain ⟨hperm, hsub, hlen, hhead, hlow, hsorted⟩ := keptCells_fall hnodup hn hgt
    rw [hshrink]
    exact ⟨keptCells r.cells n, becomes_updRecord hc (fun q => { q with cells := keptCells r.cells n }) (fun _ => rfl),
      ⟨fun h => by omega, fun _ => ⟨_, hperm, hsub, hlen, hhead, hlow, hsorted, rfl⟩⟩,
      fun h => absurd h.1 (by omega), fun _ => rfl⟩

/-! ## Its order settled (R110) -/

/-- The order that the settlement of a MODIFY leaves. -/
def Settlement.orderAfter (t : Settlement) (old : Option Order) : Option Order :=
  match t with
  | .keep => old
  | .remove => none
  | .place j => some (j.order .placed)

/-- The load table without the load of a record's own PLACED order, where the settlement is to replace or remove it. -/
def Settlement.without (t : Settlement) (old : Option Order) (c : Catering) : Catering :=
  match t, old with
  | .keep, _ | _, none => c
  | _, some o => if o.state = .placed then c.changeLoad o.kitchen o.qd (· - o.load) else c

theorem subtractOwn_eq (r : Record) (s : State) : subtractOwn r s =
    { s with catering := Settlement.remove.without r.order s.catering } := by
  unfold subtractOwn Settlement.without
  cases r.order with
  | none => rfl
  | some o => by_cases h : o.state = .placed <;> simp [h, subtractLoad]

theorem without_carries (t : Settlement) (old : Option Order) (c : Catering) (qd : Nat) :
    (t.without old c).carries qd = c.carries qd := by
  unfold Settlement.without
  split
  · rfl
  · rfl
  · split
    · simp [Catering.carries]
    · rfl

/-- A settlement changes the record's order and the load table alone. -/
theorem settleOrder_eq {r : Record} {t : Settlement} {s : State}
    (hc : ∀ j, t = .place j → s.catering.carries j.qd = true) : settleOrder r t s =
      { updRecord r.id (fun q => { q with order := t.orderAfter q.order }) s with
        catering := t.loaded (t.without r.order s.catering) } := by
  cases t with
  | keep => exact congrArg (fun u : State => { u with catering := s.catering }) (updRecord_id r.id s).symm
  | remove =>
    rw [settleOrder, subtractOwn_eq]
    rfl
  | place j =>
    have hcarries := (without_carries .remove r.order s.catering j.qd).trans (hc j rfl)
    rw [settleOrder, subtractOwn_eq, placeOrder_of_carries hcarries]
    have hsame : Settlement.without (.place j) r.order s.catering = Settlement.without .remove r.order s.catering := by
      cases r.order <;> rfl
    rw [hsame]
    rfl

end Sys2Proof.Machine
end

section
/-!
SUPPORT. The placement of a MODIFY, in one insertion or in two, and the MODIFY without a list edit (R63, R66).
-/

namespace Sys2Proof.Machine

/-! ## The fields replaced (R66, steps 3 and 4) -/

/-- The number of cells that a MODIFY leaves its record with (R30). -/
def Flight.modifiedCount (f : Flight) (ask : ModifyAsk) (b : Record) : Nat :=
  modifiedCells ask b (settledLines f.settlement b)

theorem modifiedCount_ne_zero (f : Flight) (ask : ModifyAsk) (b : Record) : f.modifiedCount ask b ≠ 0 := by
  rw [Flight.modifiedCount, modifiedCells, cellCount_eq]
  omega

/-- The record with its fields replaced, its cells at their new number and its order settled. -/
def Record.amended (ask : ModifyAsk) (t : Settlement) (cells : List Nat) (b : Record) : Record :=
  { modifyFields ask b with cells := cells, order := t.orderAfter b.order }

/-- It needs the number of cells that it is brought to. -/
theorem amended_cellsNeeded (ask : ModifyAsk) (f : Flight) (cells : List Nat) (b : Record) :
    (b.amended ask f.settlement cells).cellsNeeded = f.modifiedCount ask b := by
  have htitle : (modifyFields ask b).title.isSome = (ask.title.map Option.isSome).getD b.title.isSome := by
    unfold modifyFields
    rcases ask.title with _ | _ | _ <;> rfl
  have horganiser : (modifyFields ask b).organiser.isSome =
      (ask.organiser.map Option.isSome).getD b.organiser.isSome := by
    unfold modifyFields
    rcases ask.organiser with _ | _ | _ <;> rfl
  have hlines : (f.settlement.orderAfter b.order).map (fun o => o.lines.length) = settledLines f.settlement b := by
    cases f.settlement <;> rfl
  rw [Flight.modifiedCount, modifiedCells, ← htitle, ← horganiser, ← hlines]
  rfl

/-- What the steps 3 and 4 of R66 make of the record, the cells, the loads and STORE_LOW, and that they change nothing
else. -/
theorem applyFields_spec {ask : ModifyAsk} {f : Flight} {b : Record} {s : State} (hb : s.record? b.id = some b)
    (hnodup : b.cells.Nodup) (hc : ∀ j, f.settlement = .place j → s.catering.carries j.qd = true) :
    ∃ cells, Becomes b.id (b.amended ask f.settlement cells) s (applyFields ask f b s) ∧
      CellsBrought b.cells cells s.store.free (applyFields ask f b s).store.free (f.modifiedCount ask b) ∧
      LowJudged (f.modifiedCount ask b - b.cells.length) s (applyFields ask f b s) ∧
      applyFields ask f b s = { s with
        store := { s.store with
          records := (applyFields ask f b s).store.records
          free := (applyFields ask f b s).store.free
          storeLowArmed := (applyFields ask f b s).store.storeLowArmed }
        catering := f.settlement.loaded (f.settlement.without b.order s.catering)
        exceptions := (applyFields ask f b s).exceptions } := by
  have hfields := becomes_updRecord hb (modifyFields ask) (fun _ => rfl)
  obtain ⟨cells, hcells, hbrought, hlow⟩ := resizeRecord_spec (modifiedCount_ne_zero f ask b) hfields.1 rfl hnodup
  have heq := resizeRecord_eq b (f.modifiedCount ask b) (updRecord b.id (modifyFields ask) s)
  have happly : applyFields ask f b s =
      settleOrder b f.settlement (resizeRecord b (f.modifiedCount ask b) (updRecord b.id (modifyFields ask) s)) := rfl
  generalize resizeRecord b (f.modifiedCount ask b) (updRecord b.id (modifyFields ask) s) = v at *
  have hcatering : v.catering = s.catering := by rw [heq]; rfl
  have horder := becomes_updRecord hcells.1 (fun q => { q with order := f.settlement.orderAfter q.order })
    (fun _ => rfl)
  rw [happly, settleOrder_eq (by rw [hcatering]; exact hc), hcatering]
  refine ⟨cells, (hfields.trans hcells).trans horder, hbrought, hlow, ?_⟩
  rw [heq]
  rfl

/-! ## The record placed again (R66, step 5) -/

/-- The record that a MODIFY places. -/
def movedRecord (ask : ModifyAsk) (f : Flight) (k : Record) (s : State) (cells : List Nat) (b : Record) : Record :=
  Record.replaced (resultRoom ask b) f (modifiedState k (resultRoom ask b) f.qs s)
    (b.amended ask f.settlement cells)

/-- The part with the record replaced, before its insertion. -/
def replacedIn (ask : ModifyAsk) (f : Flight) (k b : Record) (s : State) : State :=
  updRecord b.id (Record.replaced (resultRoom ask b) f (modifiedState k (resultRoom ask b) f.qs s))
    (applyFields ask f b s)

/-- The flight once the record is in its room's list. -/
def Flight.placing (f : Flight) (r : Record) : Flight :=
  { f with orderResult := f.settlement.resultOver f.orderResult, placed := some r }

theorem orderResultOf_settledBy {f : Flight} {r : Record} {old : Option Order}
    (h : r.order = f.settlement.orderAfter old) :
    orderResultOf f (some r) = f.settlement.resultOver f.orderResult := by
  unfold orderResultOf
  rw [Option.bind_some, h]
  cases f.settlement <;> rfl

/-- The placement of a MODIFY is one insertion, and then its end or the wait for the second (R38). -/
theorem placeModified_eq {ask : ModifyAsk} {f : Flight} {k b : Record} {s : State} {cells : List Nat}
    (hk : f.taken = some k) (hb : s.record? ask.id = some b)
    (hopen : (s.rooms.get (resultRoom ask b)).state ≠ .outOfService)
    (hcut : CutFrame s (applyFields ask f b s))
    (hr : (replacedIn ask f k b s).record? b.id = some (movedRecord ask f k s cells b)) :
    let r := movedRecord ask f k s cells b
    let w := insertInto (resultRoom ask b) r (replacedIn ask f k b s)
    (besideRoom s r = none → placeModified ask f s = finishModify b.id (f.placing r) w) ∧
    ∀ q, besideRoom s r = some q → placeModified ask f s = setFlight { f.placing r with phase := .partner none } w := by
  intro r w
  have hrooms : (replacedIn ask f k b s).rooms = s.rooms := (congrArg State.rooms hcut :)
  have hstate : modifiedState k (resultRoom ask b) f.qs (applyFields ask f b s) =
      modifiedState k (resultRoom ask b) f.qs s := by
    rw [hcut]
    rfl
  have hinsert : insertRecord r (replacedIn ask f k b s) = w := placeInto_of_open _ (by rw [hrooms]; exact hopen)
  have hplace : placeModified ask f s = insertThen r none (f.placing r) (finishModify b.id (f.placing r))
      (replacedIn ask f k b s) := by
    unfold replacedIn at hr
    simp only [placeModified, hk, hb, hstate, hr, Flight.resulted]
    rw [orderResultOf_settledBy (old := b.order) rfl, ← hk]
    rfl
  have hbeside : besideRoom w r = besideRoom s r := by
    unfold besideRoom
    rw [← hrooms]
    rfl
  rw [hplace, insertThen, hinsert]
  simp only [hbeside]
  exact ⟨fun hq => by rw [hq], fun q hq => by rw [hq]⟩

/-- What the record replaced leaves: `applyFields_spec`, with the record at its new times, room and state. -/
theorem replacedIn_spec {ask : ModifyAsk} {f : Flight} {b : Record} {s : State} (k : Record)
    (hb : s.record? b.id = some b) (hnodup : b.cells.Nodup)
    (hc : ∀ j, f.settlement = .place j → s.catering.carries j.qd = true) : CutFrame s (applyFields ask f b s) ∧
    ∃ cells, Becomes b.id (movedRecord ask f k s cells b) s (replacedIn ask f k b s) ∧
      CellsBrought b.cells cells s.store.free (replacedIn ask f k b s).store.free (f.modifiedCount ask b) ∧
      LowJudged (f.modifiedCount ask b - b.cells.length) s (replacedIn ask f k b s) ∧
      replacedIn ask f k b s = { s with
        store := { s.store with
          records := (replacedIn ask f k b s).store.records
          free := (replacedIn ask f k b s).store.free
          storeLowArmed := (replacedIn ask f k b s).store.storeLowArmed }
        catering := f.settlement.loaded (f.settlement.without b.order s.catering)
        exceptions := (replacedIn ask f k b s).exceptions } := by
  obtain ⟨cells, hbecomes, hbrought, hlow, heq⟩ := applyFields_spec (ask := ask) hb hnodup hc
  have hmoved := becomes_updRecord hbecomes.1
    (Record.replaced (resultRoom ask b) f (modifiedState k (resultRoom ask b) f.qs s)) (fun _ => rfl)
  refine ⟨?_, cells, hbecomes.trans hmoved, hbrought, hlow, ?_⟩
  · rw [heq]
    exact CutFrame.update ..
  · have hrest := congrArg (updRecord b.id
      (Record.replaced (resultRoom ask b) f (modifiedState k (resultRoom ask b) f.qs s))) heq
    exact hrest

/-! ## The end of a MODIFY (R63, R66, step 6) -/

/-- What ends a placement changes the engine and the ports alone, whatever frames it has left. -/
theorem completeIfServed_placedThen_eq {f : Flight} {via : Via} {k : Kind} (hask : f.request.asker? = some (via, k))
    (s : State) : ∃ e p, completeIfServed (placedThen f s) = { s with engine := e, ports := p } := by
  by_cases h : f.stack = []
  · have hask' : ({ f with phase := .serve } : Flight).request.asker? = some (via, k) := hask
    rw [completeIfServed_placedThen h, complete_setFlight hask']
    exact ⟨_, _, complete_uplink_eq hask' _ _ s⟩
  · exact ⟨_, _, if_neg fun c => h c.2⟩

/-- The end of a MODIFY: its record's retire grain is computed anew, and it is answered where no frames are left. -/
theorem finishModify_ends {f : Flight} {via : Via} {k : Kind} (hask : f.request.asker? = some (via, k)) {p b : Record}
    {s : State} (hp : f.placed = some p) (hb : s.record? p.id = some b) :
    ∃ e ports, finishModify p.id f s = { recomputeRetire p.id s with engine := e, ports := ports } ∧
      (f.stack = [] → e = s.engine.afterEnd ∧ ∀ u : State, s.ports = u.ports → Answered via k
        (.done (admissionContents p (b.order.map (·.state)) f.clamped f.orderResult f.figures)) u
        (finishModify p.id f s)) := by
  by_cases h : f.stack = []
  · have hb' := (becomes_updRecord hb Record.regrained fun _ => rfl).1
    obtain ⟨ports, hends, hanswered⟩ := placement_ends hask h hp hb'
    exact ⟨_, ports, hends, fun _ => ⟨rfl, fun u hu => by
      rw [finishModify, show recomputeRetire p.id s = updRecord p.id Record.regrained s from rfl, hends]
      exact hanswered u hu⟩⟩
  · obtain ⟨e, ports, heq⟩ := completeIfServed_placedThen_eq hask (recomputeRetire p.id s)
    exact ⟨e, ports, heq, fun c => absurd c h⟩

/-! ## The placement as a whole -/

theorem modifiedState_eq (k : Record) (r : RoomNo) (qs : Nat) (s : State) : modifiedState k r qs s =
    if k.state = .armed ∨ qs ≤ s.grain + (s.rooms.get r).earlyWindow then .armed else .booked := by
  unfold modifiedState placedState
  by_cases hk : k.state = .armed <;> simp [hk]

theorem exec_placeModified {s : State} {f : Flight} {via : Via} {ask : ModifyAsk} (h : AtWork s f)
    (hr : f.request = .modify via ask) (hp : f.phase = .place) :
    exec .admissionCheck s = .next (placeModified ask f s) := by
  rw [exec_place h hp, placeStep, hr]

/-- The placement of a MODIFY leaves the record inserted, its retire grain as `grain` has it: computed anew at the end
of an unjoined one, and not yet where a second insertion is waited for. -/
theorem placeModified_ends {ask : ModifyAsk} {f : Flight} {k b : Record} {s : State} {via : Via} {cells : List Nat}
    (hask : f.request.asker? = some (via, .modify)) (hk : f.taken = some k) (hb : s.record? ask.id = some b)
    (hopen : (s.rooms.get (resultRoom ask b)).state ≠ .outOfService) (hcut : CutFrame s (applyFields ask f b s))
    (hframe : CutFrame s (replacedIn ask f k b s))
    (hr : (replacedIn ask f k b s).record? b.id = some (movedRecord ask f k s cells b)) :
    let r := movedRecord ask f k s cells b
    let w := insertInto (resultRoom ask b) r (replacedIn ask f k b s)
    ∃ (grain : Record → Nat) (e : Engine) (ports : Ports), placeModified ask f s =
        { updRecord b.id (fun q => { q with retireGrain := grain q }) w with engine := e, ports := ports } ∧
      (b.joined = false → f.stack = [] → e = s.engine.afterEnd ∧ grain r = retireGrainOf r ∧
        Answered via .modify (.done (admissionContents r (r.order.map (·.state)) f.clamped
          (f.settlement.resultOver f.orderResult) f.figures)) s (placeModified ask f s)) ∧
      (b.joined = true → ∀ q, (s.rooms.get (resultRoom ask b)).partner = some q → ports = s.ports ∧
        grain r = b.retireGrain ∧
        e = { s.engine with inFlight := some { f.placing r with phase := .partner none } }) := by
  intro r w
  obtain ⟨hone, htwo⟩ := placeModified_eq hk hb hopen hcut hr
  have hengine : w.engine = s.engine := (congrArg State.engine hframe :)
  have hports : w.ports = s.ports := (congrArg State.ports hframe :)
  cases hbeside : besideRoom s r with
  | none =>
    obtain ⟨e, ports, hends, hanswered⟩ := finishModify_ends (f := f.placing r) (s := w) hask rfl hr
    have hplace := hone hbeside
    refine ⟨retireGrainOf, e, ports, hplace.trans hends, fun _ hstack => ?_, fun hj q hq => ?_⟩
    · obtain ⟨he, ha⟩ := hanswered hstack
      rw [hplace]
      exact ⟨he.trans (by rw [hengine]), rfl, ha s hports⟩
    · cases hbeside.symm.trans (besideRoom_of_joined (b := r) hj hq)
  | some q =>
    have hsame : updRecord b.id (fun q => { q with retireGrain := q.retireGrain }) w = w := updRecord_id b.id w
    refine ⟨Record.retireGrain, _, w.ports, ?_, fun hj _ => ?_, fun _ q' _ => ⟨hports, rfl, rfl⟩⟩
    · rw [hsame, htwo q hbeside, ← hengine]
      rfl
    · cases hbeside.symm.trans (besideRoom_of_unjoined (b := r) hj)

/-! ## Step 1 of R66 -/

/-- A record that is live, and whose order the MODIFY may touch, is taken out of its lists, or replaced in place. -/
theorem takeModified_of_live {ask : ModifyAsk} {ids : List BookingId} {f : Flight} {b : Record} {s : State}
    (hb : s.record? ask.id = some b) (hlive : b.state = .booked ∨ b.state = .armed)
    (horder : ¬ (touchesOrder ask f b = true ∧ orderInService b = true)) : takeModified ask ids f s =
      if editsLists ask then
        setFlight { f with taken := some b, phase := if ids = [] then .place else .displaceRequester ids }
          (updRecord b.id (fun q => { q with state := .moving }) (removeRecord b s))
      else
        let u := recomputeRetire b.id (applyFields ask f b s)
        completeIfServed
          (placedThen { f.resulted (u.record? b.id) with placed := u.record? b.id } (markRecord b u)) := by
  simp only [takeModified, hb]
  rw [if_neg (not_not.2 hlive), if_neg horder]

theorem takeModified_of_not_live {ask : ModifyAsk} {ids : List BookingId} {f : Flight} {b : Record} {s : State}
    (hb : s.record? ask.id = some b) (h : ¬ (b.state = .booked ∨ b.state = .armed)) :
    takeModified ask ids f s = refuse f .notLive none s := by
  simp only [takeModified, hb]
  rw [if_pos h]

/-- The record with the fields replaced that a MODIFY without a list edit names. -/
def Record.edited (ask : ModifyAsk) (b : Record) : Record := (modifyFields ask b).regrained

/-- Steps 3 and 4 of R66 where the number of cells and the order stay. -/
theorem applyFields_of_same {ask : ModifyAsk} {f : Flight} {b : Record} (hkeep : f.settlement = .keep)
    (hn : f.modifiedCount ask b = b.cells.length) (s : State) :
    applyFields ask f b s = updRecord b.id (modifyFields ask) s := by
  have happly : applyFields ask f b s =
      settleOrder b f.settlement (resizeRecord b (f.modifiedCount ask b) (updRecord b.id (modifyFields ask) s)) := rfl
  rw [happly, resizeRecord_same hn, hkeep, settleOrder]

/-- A MODIFY that names neither times, room nor order, and needs as many cells, replaces the fields and is answered. -/
theorem takeModified_edits {via : Via} {ask : ModifyAsk} {ids : List BookingId} {f : Flight} {b : Record} {s : State}
    (hask : f.request.asker? = some (via, .modify)) (hb : s.record? ask.id = some b)
    (hlive : b.state = .booked ∨ b.state = .armed) (hlists : editsLists ask = false)
    (htouch : touchesOrder ask f b = false) (hkeep : f.settlement = .keep) (hstack : f.stack = [])
    (hn : f.modifiedCount ask b = b.cells.length) :
    ∃ composer ports, takeModified ask ids f s = { updRecord b.id (Record.edited ask) s with
        composer := composer, engine := s.engine.afterEnd, ports := ports } ∧
      Answered via .modify (.done (admissionContents (b.edited ask) (b.order.map (·.state)) f.clamped f.orderResult
        f.figures)) s (takeModified ask ids f s) := by
  have hid := record?_id hb
  have hedited : recomputeRetire b.id (applyFields ask f b s) = updRecord b.id (Record.edited ask) s := by
    rw [applyFields_of_same hkeep hn]
    exact updRecord_updRecord b.id (modifyFields ask) Record.regrained (fun _ => rfl) s
  have hrec := (becomes_updRecord (hid.symm ▸ hb) (Record.edited ask) fun _ => rfl).1
  have hmarked := markRecord_eq b (updRecord b.id (Record.edited ask) s)
  have hresult : orderResultOf f (some (b.edited ask)) = f.orderResult := by
    unfold orderResultOf
    rw [hkeep]
  have htake := takeModified_of_live (ids := ids) (f := f) hb hlive (by simp [htouch])
  rw [if_neg (by simp [hlists])] at htake
  dsimp only at htake
  rw [hedited, hrec] at htake
  generalize markRecord b (updRecord b.id (Record.edited ask) s) = v at hmarked htake
  obtain ⟨ports, hends, hanswered⟩ := placement_ends (f := { f.resulted (some (b.edited ask)) with
    placed := some (b.edited ask) }) (s := v) hask hstack rfl (by rw [hmarked]; exact hrec)
  have hanswered := hanswered s (by rw [hmarked]; rfl)
  rw [← hends, ← htake] at hanswered
  refine ⟨v.composer, ports, ?_, ?_⟩
  · rw [htake, hends, hmarked]
    rfl
  · rw [← hresult]
    exact hanswered

/-- Settles O39: step 1 by `takeModified_of_live` and `takeModified_edits`, the placement by `replacedIn_spec` and
`placeModified_ends`, and the second insertion by `finishModify_ends`. -/
theorem modifyTakesItsRecordOutOrReplacesItsFields : Obligations.ModifyTakesItsRecordOutOrReplacesItsFields := by
  refine ⟨?_, ?_, ?_⟩
  · intro via ask ids b f s hw hr hp hb
    have hask : f.request.asker? = some (via, .modify) := by rw [hr]; rfl
    have hgo := exec_take hw hr hp
    have hid := record?_id hb
    refine ⟨fun hlive => ?_, fun hlive => ⟨fun hedit hservice => ?_, ?_⟩⟩
    · rw [takeModified_of_not_live hb hlive] at hgo
      exact ⟨_, hgo, refuse_endsWith hask .notLive s⟩
    · rw [takeModified_of_live hb hlive (by simp [hservice]), if_pos ((editsLists_iff ask).2 hedit)] at hgo
      have hbecomes := becomes_updRecord (s := removeRecord b s) ((removeRecord_record? b s b.id).trans (hid.symm ▸ hb))
        (fun q => { q with state := .moving }) (fun _ => rfl)
      refine ⟨_, hgo, ?_, ?_, hbecomes.1, fun x hx => (hbecomes.2 x hx).trans (removeRecord_record? b s x),
        fun q => removeRecord_get b s q⟩
      · rw [removeRecord_eq]
        rfl
      · rw [removeRecord_eq]
        rfl
    · intro htimes hroom horder hkeep hqs hstack b' hn
      have hlists : editsLists ask = false := by
        rw [← Bool.not_eq_true, editsLists_iff]
        simp [htimes, hroom]
      have htouch : touchesOrder ask f b = false := by
        rw [← Bool.not_eq_true, touchesOrder_iff]
        simp [horder, hqs, resultRoom, hroom]
      have hcount : f.modifiedCount ask b = b.cells.length := by
        rw [← hn, ← amended_cellsNeeded ask f b.cells b, hkeep]
        rfl
      obtain ⟨composer, ports, htake, hanswered⟩ :=
        takeModified_edits (ids := ids) hask hb hlive hlists htouch hkeep hstack hcount
      have hbecomes := becomes_updRecord (hid.symm ▸ hb) (Record.edited ask) (fun _ => rfl)
      rw [htake] at hgo hanswered
      exact ⟨_, hgo, rfl, hbecomes.1, hbecomes.2, rfl, rfl, hanswered⟩
  · intro via ask k b f s hw hr hp hk hb hnodup hne hcarries r hopen order result b1 n more without low
    have hask : f.request.asker? = some (via, .modify) := by rw [hr]; rfl
    have hid := record?_id hb
    have horder : order = f.settlement.orderAfter b.order := by
      unfold order
      cases f.settlement <;> rfl
    have hresult : result = f.settlement.resultOver f.orderResult := by
      unfold result
      cases f.settlement <;> rfl
    have hb1 : b1 = movedRecord ask f k s b.cells b := by
      unfold b1
      rw [horder, ← modifiedState_eq]
      rfl
    have hn : n = f.modifiedCount ask b := by
      rw [← amended_cellsNeeded ask f b.cells b]
      unfold n
      rw [hb1]
      rfl
    have hcatering : (match f.settlement with
        | .place j => without.changeLoad j.kitchen j.qd (· + j.load)
        | _ => without) = f.settlement.loaded (f.settlement.without b.order s.catering) := by
      unfold without Settlement.without
      cases f.settlement <;> rfl
    obtain ⟨hcut, cells, hbecomes, hbrought, hlow, hframe⟩ := replacedIn_spec (ask := ask) k (hid ▸ hb) hnodup hcarries
    obtain ⟨grain, e, ports, hplace, hone, htwo⟩ := placeModified_ends (cells := cells) hask hk hb hopen hcut
      (by rw [hframe]; exact CutFrame.update ..) hbecomes.1
    have hgo := (exec_placeModified hw hr hp).trans (congrArg _ hplace)
    rw [hplace] at hone
    have hgrained := hbecomes.trans (becomes_updRecord (s := insertInto r (movedRecord ask f k s cells b)
      (replacedIn ask f k b s)) hbecomes.1 (fun q => { q with retireGrain := grain q }) fun _ => rfl)
    have hinserted := insertInto_inserted r (movedRecord ask f k s cells b) (replacedIn ask f k b s)
    have hlists : (replacedIn ask f k b s).store.lists = s.store.lists := by rw [hframe]
    have hmore : more = f.modifiedCount ask b - b.cells.length := by rw [← hn]
    rw [← hmore] at hlow
    obtain ⟨hgrow, hshrink⟩ := hbrought
    refine ⟨_, { movedRecord ask f k s cells b with retireGrain := grain (movedRecord ask f k s cells b) }, hgo, ?_, ?_,
      by rw [← hid]; exact hgrained.1, fun x hx => hgrained.2 x (by rw [hid]; exact hx),
      ?_, ?_, ?_, ?_, ?_, ?_, ?_, fun hj hstack => ?_, fun hj q hq => ?_⟩
    · rw [hframe]
      rfl
    · rw [hb1]
      rfl
    · rw [hn, hmore]
      exact hgrow
    · rw [hn]
      exact hshrink
    · refine Eq.trans ?_ hcatering.symm
      rw [hframe]
      rfl
    · unfold InsertedInto at hinserted
      rw [hlists] at hinserted
      rw [hb1]
      exact InsertedInto.of_spans hinserted rfl
        (updRecord_spans b.id (fun q => { q with retireGrain := grain q }) (fun _ => ⟨rfl, rfl⟩) _)
    · rw [hframe]
      rfl
    · exact hlow.1
    · exact hlow.2
    · obtain ⟨he, hgrain, hanswered⟩ := hone hj hstack
      rw [hresult, horder]
      refine ⟨he, ?_, hanswered⟩
      rw [hb1]
      exact hgrain
    · obtain ⟨hports, hgrain, he⟩ := htwo hj q hq
      have hsame : { movedRecord ask f k s cells b with retireGrain := grain (movedRecord ask f k s cells b) } =
          movedRecord ask f k s cells b := by
        rw [hgrain]
        rfl
      refine ⟨hports, hgrain, he.trans ?_⟩
      rw [hresult, hsame]
      rfl
  · intro via ask b q refused f s hw hr hp hb hj hin hpartner hopen inserted
    have hask : f.request.asker? = some (via, .modify) := by rw [hr]; rfl
    have hinsert : insertBeside ask.id s = insertInto q b s :=
      (insertBeside_of_standing hb hj hpartner hin).trans (placeInto_of_open b hopen)
    have hgo := exec_partner hw hp
    refine ⟨fun first hfirst => ?_, fun p hnone hplaced hid hstack => ?_⟩
    · have hstep : partnerStep refused f s = refuse f .conflict (some first) (insertInto q b s) := by
        rw [← hinsert, partnerStep, hr, hfirst]
      obtain ⟨hends, hanswered⟩ := refuse_named_endsWith hask .conflict first (insertInto q b s)
      rw [hstep] at hgo
      refine ⟨_, hgo, ⟨?_, ?_, ?_, ?_, ?_, ?_⟩, hanswered⟩
      all_goals rw [hends]
      · rfl
      · exact hb
      · exact fun _ _ => rfl
      · rfl
      · exact (insertInto_inserted q b s).of_spans rfl fun _ => rfl
      · rfl
    · have hstep : partnerStep refused f s = finishModify p.id f (insertInto q b s) := by
        rw [hid, ← hinsert, partnerStep, hr, hnone]
      have hbecomes := becomes_updRecord (s := insertInto q b s) hb Record.regrained fun _ => rfl
      obtain ⟨e, ports, hends, hanswered⟩ := finishModify_ends (s := insertInto q b s) hask hplaced (hid ▸ hb)
      obtain ⟨rfl, hdone⟩ := hanswered hstack
      have hdone := hdone s rfl
      rw [hends, hid] at hdone
      rw [hstep, hends, hid] at hgo
      refine ⟨_, hgo, ⟨rfl, hbecomes.1, hbecomes.2, rfl, ?_, rfl⟩, hdone⟩
      exact (insertInto_inserted q b s).of_spans rfl
        (updRecord_spans ask.id Record.regrained (fun _ => ⟨rfl, rfl⟩) (insertInto q b s))

end Sys2Proof.Machine
end

section
/-!
SUPPORT. What a displacement makes of the store, of the flight and of the move stack (R73 to R75, R81).
-/

namespace Sys2Proof.Machine

/-! ## The displacement that is asked for (R73) -/

/-- The engine has asked the store for a displacement: the bookings, the depth of the chain, and what it does next
where the displacement is granted and where it is refused. -/
def Flight.AsksFor (f : Flight) (ids : List BookingId) (depth : Nat) (granted refused : Phase) : Prop :=
  (f.phase = .displaceRequester ids ∧ depth = 1 ∧ granted = .place ∧ refused = .check 12) ∨
    (∃ t sp, f.phase = .displaceMoving t sp ids ∧ depth = t.frame.depth + 1 ∧ granted = .placeMoving t sp ∧
      refused = .recheck t) ∨
    ∃ id, f.phase = .displaceVacated id ∧ ids = [id] ∧ depth = 1 ∧ granted = .serve ∧ refused = .vacateRead false

theorem exec_displacement {s : State} {f : Flight} {ids : List BookingId} {depth : Nat} {granted refused : Phase}
    (h : AtWork s f) (ha : f.AsksFor ids depth granted refused) :
    exec .displacement s = .next (judgeDisplacement ids depth granted refused f s) := by
  obtain ⟨-, hf, -⟩ := id h
  refine congrArg Host.Outcome.next ((engineStep_atWork h displacementStep).trans ?_)
  obtain ⟨hp, rfl, rfl, rfl⟩ | ⟨t, sp, hp, rfl, rfl, rfl⟩ | ⟨id, hp, rfl, rfl, rfl, rfl⟩ := ha <;>
    simp only [displacementStep, hf, hp]

theorem allBooked_iff (s : State) (ids : List BookingId) :
    allBooked s ids = true ↔ ∀ id, id ∈ ids → ∃ b, s.record? id = some b ∧ b.state = .booked := by
  simp [allBooked, Option.any_eq_true]

/-! ## Bookings that become MOVING (R73) -/

/-- Of the state, the records, the room lists and the room marks alone may differ. -/
def ListFrame (s u : State) : Prop :=
  u = { s with
    store := { s.store with records := u.store.records, lists := u.store.lists }
    composer := { s.composer with roomMarks := u.composer.roomMarks } }

theorem ListFrame.refl {s : State} : ListFrame s s := Eq.refl s

theorem ListFrame.trans {s u v : State} (h : ListFrame s u) (h' : ListFrame u v) : ListFrame s v :=
  Eq.trans h' (congrArg (fun w : State => { w with
    store := { w.store with records := v.store.records, lists := v.store.lists }
    composer := { w.composer with roomMarks := v.composer.roomMarks } }) h)

theorem ListFrame.store {s u : State} (h : ListFrame s u) :
    u.store = { s.store with records := u.store.records, lists := u.store.lists } := congrArg State.store h

theorem ListFrame.listRooms {s u : State} (h : ListFrame s u) (b : Record) : listRooms u b = listRooms s b := by
  rw [h]
  rfl

theorem makeMoving_frame (s : State) (b : Record) : ListFrame s (makeMoving s b) := by
  unfold ListFrame makeMoving
  rw [updRecord_eq, removeRecord_eq]

theorem makeMoving_becomes {s : State} {b : Record} (h : s.record? b.id = some b) :
    Becomes b.id { b with state := .moving } s (makeMoving s b) := by
  obtain ⟨hown, hothers⟩ := becomes_updRecord ((removeRecord_record? b s b.id).trans h)
    (fun q => { q with state := .moving }) fun _ => rfl
  exact ⟨hown, fun x hx => (hothers x hx).trans (removeRecord_record? b s x)⟩

theorem makeMoving_get (s : State) (b : Record) (q : RoomNo) : (makeMoving s b).store.lists.get q =
    if q ∈ listRooms s b then (s.store.lists.get q).filter (fun x => x != b.id) else s.store.lists.get q :=
  removeRecord_get b s q

/-- The bookings of a displacement have left their lists and become MOVING, and nothing else of the store has
changed. -/
structure MadeMoving (bs : List Record) (s u : State) : Prop where
  frame : ListFrame s u
  own : ∀ b, b ∈ bs → u.record? b.id = some { b with state := .moving }
  others : ∀ x, x ∉ bs.map (·.id) → u.record? x = s.record? x
  lists : ∀ q x, x ∈ u.store.lists.get q ↔
    x ∈ s.store.lists.get q ∧ ∀ b, b ∈ bs → b.id = x → q ∉ listRooms s b

theorem makeMovings_moving {bs : List Record} {s : State} (hnodup : (bs.map (·.id)).Nodup)
    (hbs : ∀ b, b ∈ bs → s.record? b.id = some b) : MadeMoving bs s (bs.foldl makeMoving s) := by
  induction bs generalizing s with
  | nil => exact ⟨.refl, by simp, fun _ _ => rfl, by simp⟩
  | cons b bs ih =>
    obtain ⟨hb, hrest⟩ := List.forall_mem_cons.1 hbs
    obtain ⟨hnew, hnodup⟩ := List.nodup_cons.1 hnodup
    obtain ⟨hown, hothers⟩ := makeMoving_becomes hb
    have hne : ∀ c, c ∈ bs → c.id ≠ b.id := fun c hc he => hnew (List.mem_map.2 ⟨c, hc, he⟩)
    have hfirst := makeMoving_frame s b
    have hthen := ih hnodup fun c hc => (hothers c.id (hne c hc)).trans (hrest c hc)
    rw [List.foldl_cons]
    refine ⟨hfirst.trans hthen.frame, List.forall_mem_cons.2 ⟨?_, hthen.own⟩, fun x hx => ?_, fun q x => ?_⟩
    · exact (hthen.others b.id hnew).trans hown
    · rw [List.map_cons, List.mem_cons, not_or] at hx
      exact (hthen.others x hx.2).trans (hothers x hx.1)
    · simp only [hthen.lists, makeMoving_get, hfirst.listRooms, List.forall_mem_cons]
      by_cases hq : q ∈ listRooms s b <;> simp [hq, and_assoc, eq_comm (a := x)]

/-! ## The records that ids name -/

theorem mem_named {s : State} {ids : List BookingId} {b : Record} :
    b ∈ ids.filterMap s.record? ↔ b.id ∈ ids ∧ s.record? b.id = some b := by
  rw [List.mem_filterMap]
  constructor
  · rintro ⟨id, hid, hb⟩
    obtain rfl := record?_id hb
    exact ⟨hid, hb⟩
  · exact fun h => ⟨b.id, h⟩

theorem named_ids {s : State} {ids : List BookingId} (h : ∀ id, id ∈ ids → ∃ b, s.record? id = some b) :
    (ids.filterMap s.record?).map (·.id) = ids := by
  induction ids with
  | nil => rfl
  | cons id ids ih =>
    obtain ⟨⟨b, hb⟩, hrest⟩ := List.forall_mem_cons.1 h
    rw [List.filterMap_cons_some hb, List.map_cons, ih hrest, record?_id hb]

/-! ## Pushes (R74, R75) -/

/-- Pushes onto a stack that has place for them all leave the frames on it, the last on top. -/
theorem pushFrames_of_place (l : List MoveFrame) (f : Flight) (s : State) (h : f.stack.length + l.length ≤ 5) :
    l.foldl pushFrame (f, s) = ({ f with stack := l.reverse ++ f.stack }, s) := by
  induction l generalizing f with
  | nil => rfl
  | cons m l ih =>
    rw [List.length_cons] at h
    have hpush : pushFrame (f, s) m = ({ f with stack := m :: f.stack }, s) :=
      if_pos (show f.stack.length < 5 by omega)
    rw [List.foldl_cons, hpush, ih _ (by rw [List.length_cons]; omega), List.reverse_cons, List.append_assoc]
    rfl

/-- A push onto a full stack takes the bottom frame off, and releases its booking. -/
theorem pushFrame_full {f : Flight} {upper : List MoveFrame} {bottom : MoveFrame} (hs : f.stack = upper ++ [bottom])
    (hl : upper.length = 4) (m : MoveFrame) (s : State) : pushFrame (f, s) m =
      ({ f with stack := m :: upper, figures := { f.figures.lose with overflow := true } },
        releaseFrame .chainOverflow bottom s) := by
  have hfull : ¬ f.stack.length < Config.stackFrames := by
    simp [hs, hl, Config.stackFrames]
  unfold pushFrame
  dsimp only
  rw [if_neg hfull, hs, List.getLast?_concat, List.dropLast_concat]

/-- The bookings of a displacement that overflows nothing are pushed in the order given. -/
theorem displace_of_place {ids : List BookingId} (depth : Nat) (next : Phase) {f : Flight} {s : State}
    (hids : (ids.filterMap s.record?).map (·.id) = ids) (h : f.stack.length + ids.length ≤ 5) :
    displace ids depth next f s = setFlight { f with
      phase := next
      figures := { f.figures with displaced := f.figures.displaced + ids.length }
      stack := ((ids.filterMap s.record?).map (frameOf depth)).reverse ++ f.stack }
        ((ids.filterMap s.record?).foldl makeMoving s) := by
  have hlength : (ids.filterMap s.record?).length = ids.length := by
    rw [← List.length_map (·.id), hids]
  unfold displace
  dsimp only
  rw [pushFrames_of_place _ _ _ (by rw [List.length_map, hlength]; exact h), hlength]

/-- One booking displaced onto a full stack has the bottom frame's booking released. -/
theorem displace_full {id : BookingId} (depth : Nat) (next : Phase) {f : Flight} {s : State} {b : Record}
    {upper : List MoveFrame} {bottom : MoveFrame} (hb : s.record? id = some b) (hs : f.stack = upper ++ [bottom])
    (hl : upper.length = 4) :
    displace [id] depth next f s = setFlight { f with
      phase := next
      figures := { displaced := f.figures.displaced + 1, elsewhere := f.figures.elsewhere,
                   unplaced := f.figures.unplaced + 1, overflow := true }
      stack := ⟨id, b.room, depth⟩ :: upper } (releaseFrame .chainOverflow bottom (makeMoving s b)) := by
  obtain rfl := record?_id hb
  unfold displace
  rw [List.filterMap_cons_some hb]
  exact congrArg (fun p : Flight × State => setFlight p.1 p.2)
    (pushFrame_full (f := { f with
      phase := next, figures := { f.figures with displaced := f.figures.displaced + 1 } }) hs hl _ _)

/-! ## The booking of a frame released (R39, R75, R80) -/

/-- The release of a frame's booking is that of R39, and the class given is raised for it. -/
theorem releaseFrame_released {m : MoveFrame} {b : Record} {s : State} (h : s.record? m.booking = some b)
    (c : ExcClass) : CutFrame s (releaseFrame c m s) ∧ Released .unplaced b s (releaseFrame c m s) ∧
      (releaseFrame c m s).exceptions = (raise c (.booking m.booking) (some b.room)
        (BitVec.ofNat 32 (m.origin.val + 256 * m.depth)) (wasteRaised b s)).exceptions := by
  have hid := record?_id h
  have hself : s.record? b.id = some b := hid.symm ▸ h
  have hframe : releaseFrame c m s = raiseFor c b m.detail (release b.id .unplaced s) := by
    rw [releaseFrame, h]
  have hcut := release_frame hself .unplaced
  have hwaste := wasteRaised_frame b s
  rw [hframe, ← hid]
  refine ⟨hcut.trans (.update ..), release_released hself .unplaced,
    raise_exceptions_congr c _ _ _ ?_ (release_exceptions hself .unplaced) ?_ rfl⟩
  · rw [hcut.dispositions, hwaste.dispositions]
  · rw [State.grain, State.grain, hcut.clock, hwaste.clock]

/-- The occurrences of a frame's release read neither the records nor the lists. -/
theorem ListFrame.releaseRaised {s u : State} (h : ListFrame s u) (c : ExcClass) (subject : BookingId)
    (room : Option RoomNo) (detail : BitVec 32) (b : Record) :
    (raise c (.booking subject) room detail (wasteRaised b u)).exceptions =
      (raise c (.booking subject) room detail (wasteRaised b s)).exceptions := by
  have hs := wasteRaised_frame b s
  have hu := wasteRaised_frame b u
  refine raise_exceptions_congr c _ _ _ ?_ (wasteRaised_exceptions_congr b ?_ ?_ ?_) ?_ rfl
  · rw [hu.dispositions, hs.dispositions, h]
  · rw [h]
  · rw [h]
  · rw [h]
  · rw [State.grain, State.grain, hu.clock, hs.clock, h]

/-- Settles O43. A granted displacement is its records made MOVING (`MadeMoving`) and its frames pushed; where the
push finds the stack full, the rest is the release of the bottom frame's booking. -/
theorem displacementTakesAllTheBookingsOrNone : Obligations.DisplacementTakesAllTheBookingsOrNone := by
  intro ids depth granted refused f s hw hasks booked
  have hgo := exec_displacement hw hasks
  refine ⟨fun hsome => ?refused, fun hall hnodup => ?granted⟩
  case refused =>
    obtain ⟨id, hid, hno⟩ := hsome
    exact hgo.trans (congrArg _ (if_neg fun hall => hno ((allBooked_iff s ids).1 hall id hid)))
  case granted =>
    rw [judgeDisplacement, if_pos ((allBooked_iff s ids).2 hall)] at hgo
    refine ⟨fun hplace => ?_, fun id b c upper m hone hstack hupper hne hb hc => ?_⟩
    · have hids := named_ids fun id hid => (hall id hid).imp fun _ h => h.1
      have hmoving := makeMovings_moving (hids.symm ▸ hnodup) fun b hb => (mem_named.1 hb).2
      have hframe := hmoving.frame
      rw [displace_of_place depth granted hids hplace] at hgo
      refine ⟨_, (ids.filterMap s.record?).map (frameOf depth), hgo, ?_, fun id b hid hb => ?_, fun x hx => ?_, ?_, ?_,
        ?_, fun m hm => ?_, ?_⟩
      · rw [hframe]
        rfl
      · obtain rfl := record?_id hb
        have hmem := mem_named.2 ⟨hid, hb⟩
        exact ⟨hmoving.own b hmem, fun q hq hin => ((hmoving.lists q b.id).1 hin).2 b hmem rfl hq⟩
      · refine ⟨hmoving.others x (hids.symm ▸ hx), fun q => (hmoving.lists q x).trans (and_iff_left ?_)⟩
        rintro b hb rfl
        exact absurd (mem_named.1 hb).1 hx
      · rw [hframe]
        rfl
      · rw [hframe]
        rfl
      · rw [List.map_map]
        exact hids
      · obtain ⟨c, hc, rfl⟩ := List.mem_map.1 hm
        refine ⟨rfl, fun b hb => ?_⟩
        obtain rfl : c = b := Option.some.inj ((mem_named.1 hc).2.symm.trans hb)
        rfl
      · rw [hframe]
        rfl
    · subst hone
      obtain rfl := record?_id hb
      have hframe := makeMoving_frame s b
      obtain ⟨hown, hothers⟩ := makeMoving_becomes hb
      obtain ⟨hcut, hreleased, hraised⟩ :=
        releaseFrame_released ((hothers m.booking hne).trans hc) .chainOverflow
      rw [displace_full depth granted hb hstack hupper] at hgo
      refine ⟨_, makeMoving s b, hgo, ?_, ?_, hown, hothers, makeMoving_get s b, hframe.store,
        hreleased, ?_, ?_⟩
      · rw [hcut, hframe]
        rfl
      · exact Eq.trans hframe (congrArg (fun st => { s with
          store := st, composer := { s.composer with roomMarks := (makeMoving s b).composer.roomMarks } })
            hframe.store.symm)
      · exact hraised.trans (hframe.releaseRaised ..)
      · rw [hcut, hframe]
        rfl

end Sys2Proof.Machine
end

section
/-!
SUPPORT. The readings of a VACATE: the booking it takes next, and its completion (R25, R82, R83).
-/

namespace Sys2Proof.Machine

theorem exec_vacate {s : State} {f : Flight} {v : RoomNo} (h : AtWork s f) (hr : f.request = .vacate v)
    (hp : (∃ first, f.phase = .vacateRead first) ∨ (f.phase = .serve ∧ f.stack = [])) :
    exec .vacate s = .next (readVacated v f s) := by
  obtain ⟨-, hf, -⟩ := id h
  refine congrArg Host.Outcome.next ((engineStep_atWork h vacateStep).trans ?_)
  obtain ⟨first, hp⟩ | ⟨hp, hs⟩ := hp
  · simp only [vacateStep, hf, hr, hp]
  · simp only [vacateStep, hf, hr, hp, hs]

/-- The end of a VACATE is answered to nobody (R53). -/
theorem complete_vacate {f : Flight} {v : RoomNo} (h : f.request = .vacate v) (up : Answer) (panel : CallAnswer)
    (s : State) : complete f up panel s = { s with engine := s.engine.afterEnd } := by
  rw [complete, h, endFlight_eq]

theorem nextVacated_takes (b : Record) :
    (b.state == .booked && !b.joined) = true ↔ b.state = .booked ∧ b.joined = false := by simp

theorem nextVacated_eq_some {s : State} {v : RoomNo} {b : Record} : nextVacated s v = some b ↔
    (b.state = .booked ∧ b.joined = false) ∧ ∃ before after, s.listed v = before ++ b :: after ∧
      ∀ c, c ∈ before → ¬ (c.state = .booked ∧ c.joined = false) := by
  simp only [nextVacated, List.find?_eq_some_iff_append, Bool.not_eq_true', ← Bool.not_eq_true, nextVacated_takes,
    exists_and_right]

theorem nextVacated_eq_none {s : State} {v : RoomNo} : nextVacated s v = none ↔
    ∀ c, c ∈ s.listed v → ¬ (c.state = .booked ∧ c.joined = false) := by
  simp only [nextVacated, List.find?_eq_none, nextVacated_takes]

/-- The end of a VACATE raises VACATE_INCOMPLETE where records stay, with their number (R83). -/
theorem vacateLeft_eq (v : RoomNo) (s : State) : vacateLeft v s = { s with
    exceptions := if s.store.lists.get v = [] then s.exceptions else
      (raise .vacateIncomplete (.room v) none (BitVec.ofNat 32 (s.store.lists.get v).length) s).exceptions } := by
  unfold vacateLeft
  cases s.store.lists.get v with
  | nil => rfl
  | cons id ids => exact raise_eq ..

/-- Settles O45, by the room's state and, of a room OUT_OF_SERVICE, by the first booking that may be moved. -/
theorem vacateTakesTheNextBookedBooking : Obligations.VacateTakesTheNextBookedBooking := by
  intro v f s hw hr hp movable out
  have hgo := exec_vacate hw hr hp
  unfold readVacated at hgo
  refine ⟨fun hout => ?_, fun hout before b after hlist hbefore hb => ?_, fun hout hnone => ?_⟩
  · rw [if_neg hout, complete_vacate hr] at hgo
    exact hgo
  · rw [if_pos hout, nextVacated_eq_some.2 ⟨hb, before, after, hlist, hbefore⟩] at hgo
    exact hgo
  · rw [if_pos hout, nextVacated_eq_none.2 hnone] at hgo
    exact hgo.trans (by rw [complete_vacate hr, vacateLeft_eq])

end Sys2Proof.Machine
end

section
/-!
SUPPORT. What a tap is answered and when it checks a booking in (R93 to R96), and that a check-in leaves the engine no
CHECKED_IN booking to insert beside another (R97).
-/

namespace Sys2Proof.Machine

/-! ## Bookings listed, and bookings that enter a list (R37, R38) -/

theorem mem_listed {s : State} {q : RoomNo} {b : Record} :
    b ∈ s.listed q ↔ b.id ∈ s.store.lists.get q ∧ s.record? b.id = some b := by
  refine ⟨fun h => ⟨?_, record?_of_listed h⟩, fun h => List.mem_filterMap.2 ⟨b.id, h.1, h.2⟩⟩
  obtain ⟨id, hid, hb⟩ := List.mem_filterMap.1 h
  exact (record?_id (s := s) hb).symm ▸ hid

theorem checkedInAt_eq_none {s : State} {q : RoomNo} :
    checkedInAt s q = none ↔ ∀ c, c ∈ s.listed q → c.state ≠ .checkedIn := by
  simp only [checkedInAt, List.find?_eq_none, beq_iff_eq, ne_eq]

theorem checkedInBeside_eq_none {s : State} {r : RoomNo} {b : Record} :
    checkedInBeside s r b = none ↔ ∀ q, q ∈ listRooms s b → q ≠ r → checkedInAt s q = none := by
  simp only [checkedInBeside, List.findSome?_eq_none_iff, List.mem_filter, bne_iff_ne, and_imp]

theorem enteringBeside_eq_none {s : State} {b : Record} :
    enteringBeside s b = none ↔ ∀ c, ¬ ∃ q, q ∈ listRooms s b ∧ Entering s q c := by
  simp only [← enteringBeside_eq_some, Option.eq_none_iff_forall_ne_some, ne_eq]

/-- The request in flight names the booking and is between its two insertions (R38). -/
def AwaitsPartner (s : State) (id : BookingId) : Prop :=
  ∃ f refused, s.engine.inFlight = some f ∧ f.phase = .partner refused ∧
    ((∃ via ask, f.request = .book via ask ∧ ask.id = id) ∨ ∃ via ask, f.request = .modify via ask ∧ ask.id = id)

theorem entering_iff {s : State} {q : RoomNo} {b : Record} : Entering s q b ↔
    b.state = .checkedIn ∧ b.joined = true ∧ (s.rooms.get b.room).partner = some q ∧
      AwaitsPartner s b.id ∧ s.record? b.id = some b := by
  constructor
  · rintro ⟨hc, hj, hq, f, refused, hf, hp, ⟨via, ask, hr, hb⟩ | ⟨via, ask, hr, hb⟩⟩ <;> have hid := record?_id hb
    · exact ⟨hc, hj, hq, ⟨f, refused, hf, hp, .inl ⟨via, ask, hr, hid.symm⟩⟩, hid ▸ hb⟩
    · exact ⟨hc, hj, hq, ⟨f, refused, hf, hp, .inr ⟨via, ask, hr, hid.symm⟩⟩, hid ▸ hb⟩
  · rintro ⟨hc, hj, hq, ⟨f, refused, hf, hp, ⟨via, ask, hr, hid⟩ | ⟨via, ask, hr, hid⟩⟩, hb⟩
    · exact ⟨hc, hj, hq, f, refused, hf, hp, .inl ⟨via, ask, hr, hid ▸ hb⟩⟩
    · exact ⟨hc, hj, hq, f, refused, hf, hp, .inr ⟨via, ask, hr, hid ▸ hb⟩⟩

/-- A joined booking between its two insertions is not in its partner's list yet. -/
theorem PlacementClear.not_listed {s : State} (h : PlacementClear s) {q : RoomNo} {b : Record}
    (hw : AwaitsPartner s b.id) (hb : s.record? b.id = some b) (hj : b.joined = true)
    (hq : (s.rooms.get b.room).partner = some q) : b.id ∉ s.store.lists.get q := by
  obtain ⟨f, refused, hf, hp, hr⟩ := hw
  obtain ⟨-, -, -, hpartner, -⟩ := h f hf
  exact (hpartner refused b.id b q hp hr hb hj hq).1

/-- The list that a CHECKED_IN booking is about to enter holds none. -/
theorem PlacementClear.noneCheckedIn {s : State} (h : PlacementClear s) {q : RoomNo} {b : Record}
    (he : Entering s q b) : checkedInAt s q = none := by
  obtain ⟨hc, hj, hq, ⟨f, refused, hf, hp, hr⟩, hb⟩ := entering_iff.1 he
  obtain ⟨-, -, -, hpartner, -⟩ := h f hf
  exact checkedInAt_eq_none.2 ((hpartner refused b.id b q hp hr hb hj hq).2.2 hc)

/-! ## The judgement of a tap (R93 to R96) -/

/-- The taps that wait for the store are replaced. -/
def State.withTaps (s : State) (taps : List Tap) : State := { s with deliveries := { s.deliveries with taps := taps } }

theorem exec_tap {s : State} {p : Tap} {rest : List Tap} (hp : s.ports.powerGood = true)
    (ht : s.deliveries.taps = p :: rest) :
    exec .tap s = .next (judgeTap p (s.withTaps rest)) := by
  refine congrArg Host.Outcome.next ((whenPowered_of_power hp _).trans ?_)
  simp only [takeTap, ht, State.withTaps]

/-- A badge is refused where the room admits the organiser alone and the organiser's is another (R95). -/
theorem badgeAdmitted_eq_false {s : State} {b : Record} {x : Badge} : badgeAdmitted s b x = false ↔
    (s.rooms.get b.room).checkIn = .organiser ∧ ∃ y, b.organiser = some y ∧ y ≠ x := by
  cases hm : (s.rooms.get b.room).checkIn <;> cases ho : b.organiser <;> simp [badgeAdmitted, hm, ho]

/-- A tap's target, which may be checked in as far as the lists and the badge go (R94, R95). -/
structure TapAdmitted (p : Tap) (b : Record) (s : State) : Prop where
  here : checkedInAt s p.room = none
  target : tapTarget s p.room = some b
  beside : checkedInBeside s p.room b = none
  badge : badgeAdmitted s b p.badge = true

theorem judgeTap_of_checkedIn {p : Tap} {s : State} {c : Record} (h : checkedInAt s p.room = some c) :
    judgeTap p s = answerCall p.place (.refused .alreadyIn (some c.id)) s := by
  simp only [judgeTap, h]

theorem judgeTap_of_unarmed {p : Tap} {s : State} (h : checkedInAt s p.room = none)
    (ht : tapTarget s p.room = none) : judgeTap p s = answerCall p.place (.refused .nothingArmed none) s := by
  simp only [judgeTap, h, ht]

theorem judgeTap_of_beside {p : Tap} {s : State} {b c : Record} (h : checkedInAt s p.room = none)
    (ht : tapTarget s p.room = some b) (hb : checkedInBeside s p.room b = some c) :
    judgeTap p s = answerCall p.place (.refused .alreadyIn (some c.id)) s := by
  simp only [judgeTap, h, ht, hb]

theorem judgeTap_of_barred {p : Tap} {s : State} {b : Record} (h : checkedInAt s p.room = none)
    (ht : tapTarget s p.room = some b) (hb : checkedInBeside s p.room b = none)
    (hx : badgeAdmitted s b p.badge = false) :
    judgeTap p s = answerCall p.place (.refused .notOrganiser (some b.id)) s := by
  simp [judgeTap, h, ht, hb, hx]

theorem TapAdmitted.judgeTap_of_entering {p : Tap} {s : State} {b c : Record} (h : TapAdmitted p b s)
    (hc : enteringBeside s b = some c) :
    judgeTap p s = answerCall p.place (.refused .alreadyIn (some c.id)) s := by
  simp [judgeTap, h.here, h.target, h.beside, h.badge, hc]

theorem TapAdmitted.judgeTap_checksIn {p : Tap} {s : State} {b : Record} (h : TapAdmitted p b s)
    (hc : enteringBeside s b = none) :
    judgeTap p s = answerCall p.place (.doneFor b.id b.qe) (checkIn b p.badge s) := by
  simp [judgeTap, h.here, h.target, h.beside, h.badge, hc]

/-- A tap is answered and nothing more, or it checks its target in. -/
theorem judgeTap_cases (p : Tap) (s : State) : (∃ a, judgeTap p s = answerCall p.place a s) ∨
    ∃ b, TapAdmitted p b s ∧ enteringBeside s b = none := by
  cases h : checkedInAt s p.room with
  | some c => exact .inl ⟨_, judgeTap_of_checkedIn h⟩
  | none =>
  cases ht : tapTarget s p.room with
  | none => exact .inl ⟨_, judgeTap_of_unarmed h ht⟩
  | some b =>
  cases hb : checkedInBeside s p.room b with
  | some c => exact .inl ⟨_, judgeTap_of_beside h ht hb⟩
  | none =>
  cases hx : badgeAdmitted s b p.badge with
  | false => exact .inl ⟨_, judgeTap_of_barred h ht hb hx⟩
  | true =>
  cases hc : enteringBeside s b with
  | some c => exact .inl ⟨_, TapAdmitted.judgeTap_of_entering ⟨h, ht, hb, hx⟩ hc⟩
  | none => exact .inr ⟨b, ⟨h, ht, hb, hx⟩, hc⟩

/-- The target is listed at the tap's room. -/
theorem TapAdmitted.listed {p : Tap} {b : Record} {s : State} (h : TapAdmitted p b s) : b ∈ s.listed p.room :=
  List.mem_of_find?_eq_some h.target

/-- A check-in is an edit of its record, with the marks of its rooms (R96). -/
theorem checkIn_edited {b : Record} {s : State} (h : s.record? b.id = some b) (x : Badge) :
    Edited b { b with state := .checkedIn, badge := some x } true s (checkIn b x s) :=
  markRecord_edited h (fun r => { r with state := .checkedIn, badge := some x }) fun _ => rfl

/-! ## No two CHECKED_IN bookings come together (R97) -/

/-- After a check-in of a target, the engine has no CHECKED_IN booking to insert beside another: the target itself
enters a list in which none was found, and another would have barred the target. -/
theorem TapAdmitted.checkIn_clear {p : Tap} {s : State} {b : Record} (h : TapAdmitted p b s)
    (hnone : enteringBeside s b = none) (hagree : ListsAgree s) (hclear : PlacementClear s) {q : RoomNo} {c : Record}
    (he : Entering (checkIn b p.badge s) q c) : checkedInAt (checkIn b p.badge s) q = none := by
  obtain ⟨hlisted, hb⟩ := mem_listed.1 h.listed
  obtain ⟨hstands, hown, hothers, -⟩ := checkIn_edited hb p.badge
  have hlists : (checkIn b p.badge s).store.lists = s.store.lists := by rw [hstands]
  have hrooms : (checkIn b p.badge s).rooms = s.rooms := by rw [hstands]
  have hother : ∀ d, d ∈ (checkIn b p.badge s).listed q → d.id ≠ b.id → d ∈ s.listed q := fun d hd hne => by
    rw [mem_listed, hlists, hothers _ hne] at hd
    exact mem_listed.2 hd
  obtain ⟨hc, hj, hq, hwaits, hrec⟩ := entering_iff.1 he
  rw [hrooms] at hq
  have hwaits : AwaitsPartner s c.id := by rwa [hstands] at hwaits
  refine checkedInAt_eq_none.2 fun d hd => ?_
  obtain ⟨hdq, -⟩ := mem_listed.1 hd
  rw [hlists] at hdq
  by_cases hcb : c.id = b.id
  · obtain rfl : { b with state := .checkedIn, badge := some p.badge } = c :=
      Option.some.inj (hown.symm.trans (hcb ▸ hrec))
    have hout : b.id ∉ s.store.lists.get q := hclear.not_listed hwaits hb hj hq
    have hbeside : q ∈ listRooms s b := by simp [listRooms, show b.joined = true from hj, hq]
    have hroom : q ≠ p.room := fun hqr => hout (hqr ▸ hlisted)
    exact checkedInAt_eq_none.1 (checkedInBeside_eq_none.1 h.beside q hbeside hroom) d
      (hother d hd fun hdb => hout (hdb ▸ hdq))
  · have he : Entering s q c := entering_iff.2 ⟨hc, hj, hq, hwaits, (hothers _ hcb).symm.trans hrec⟩
    refine checkedInAt_eq_none.1 (hclear.noneCheckedIn he) d (hother d hd fun hdb => ?_)
    obtain ⟨b', hb', hin, -⟩ := (hagree.2 q).2 d.id hdq
    obtain rfl : b = b' := Option.some.inj (hb.symm.trans (hdb ▸ hb'))
    exact enteringBeside_eq_none.1 hnone c ⟨q, hin, he⟩

/-- A tap leaves the engine no CHECKED_IN booking to insert beside another. -/
theorem judgeTap_clear {p : Tap} {s : State} (hagree : ListsAgree s) (hclear : PlacementClear s) {q : RoomNo}
    {c : Record} (he : Entering (judgeTap p s) q c) : checkedInAt (judgeTap p s) q = none := by
  obtain ⟨a, ha⟩ | ⟨b, hadm, hnone⟩ := judgeTap_cases p s
  · rw [ha] at he ⊢
    exact hclear.noneCheckedIn (s := s) he
  · rw [hadm.judgeTap_checksIn hnone] at he ⊢
    exact hadm.checkIn_clear hnone hagree hclear he

/-- Settles O46, by the order of R94: each of its tests is a branch of the judgement. -/
theorem tapChecksInTheNearestArmedBooking : Obligations.TapChecksInTheNearestArmedBooking := by
  intro p rest s hp ht answered target here beside entering barred
  have hgo := exec_tap hp ht
  refine ⟨fun c hc => ?_, fun t hgo' hagree hclear q b he => ?_, fun hhere => ⟨fun hnone => ?_, fun b hb => ?_⟩⟩
  · exact hgo.trans (congrArg _ (judgeTap_of_checkedIn (s := s.withTaps rest) hc))
  · obtain rfl := Host.Outcome.next.inj (hgo.symm.trans hgo')
    exact checkedInAt_eq_none.1 (judgeTap_clear (s := s.withTaps rest) hagree hclear he)
  · exact hgo.trans (congrArg _ (judgeTap_of_unarmed (s := s.withTaps rest) hhere hnone))
  have hadm : beside b = none → ¬ barred b → TapAdmitted p b (s.withTaps rest) := fun hnone hbar =>
    ⟨hhere, hb, hnone, Bool.eq_true_of_not_eq_false fun hx => hbar (badgeAdmitted_eq_false.1 hx)⟩
  refine ⟨fun c hc => ?_, fun hnone hbar => ?_, fun c hnone hbar hc => ?_, fun hnone hbar hfree => ?_⟩
  · exact hgo.trans (congrArg _ (judgeTap_of_beside (s := s.withTaps rest) hhere hb hc))
  · exact hgo.trans (congrArg _
      (judgeTap_of_barred (s := s.withTaps rest) hhere hb hnone (badgeAdmitted_eq_false.2 hbar)))
  · exact hgo.trans (congrArg _ ((hadm hnone hbar).judgeTap_of_entering ((enteringBeside_eq_some b c).2 hc)))
  · have hadm := hadm hnone hbar
    rw [hadm.judgeTap_checksIn (enteringBeside_eq_none.2 hfree)] at hgo
    obtain ⟨hstands, hown, hothers, hmarks⟩ := checkIn_edited (record?_of_listed hadm.listed) p.badge
    refine ⟨_, hgo, ?_, hown, hothers, ?_, ?_, hmarks, ?_⟩ <;> rw [answerCall_eq, hstands] <;> rfl

end Sys2Proof.Machine
end

section
/-!
SUPPORT. What the Catering Scheduler makes of what is handed to it: a day rollover (R106) and a pantry call (R114, R115,
R127).
-/

namespace Sys2Proof.Machine

/-! ## A day rollover (R106) -/

/-- The oldest rollover reaches every page, and nothing else. -/
theorem takeRollover_cons {r : Rollover} {rest : List Rollover} {s : State} (h : s.deliveries.rollovers = r :: rest) :
    takeRollover s = { s with
      deliveries := { s.deliveries with rollovers := rest }
      catering := { s.catering with pages := Tab.gen fun i => rollPage r.day i (s.catering.pages.get i) } } := by
  rw [takeRollover, h]
  rfl

/-- Settles O14: a passed page is emptied for the one day of the horizon that is congruent to it. -/
theorem dayRolloverGivesPassedPagesToTheHorizon : Obligations.DayRolloverGivesPassedPagesToTheHorizon := by
  intro r rest s hp hr
  refine ⟨_, congrArg Host.Outcome.next ((whenPowered_of_power hp _).trans (takeRollover_cons hr)), rfl, rfl,
    fun i => ⟨fun hpassed => ?_, fun hstands => ?_⟩⟩
  · obtain ⟨hfirst, hlast, hmod⟩ := horizonDay_spec r.day i
    exact ⟨horizonDay r.day i, hfirst, hlast, hmod, (Tab.get_gen ..).trans (if_pos hpassed)⟩
  · exact (Tab.get_gen ..).trans (if_neg (Nat.not_lt.2 hstands))

/-! ## Tickets changed (R112, R127) -/

/-- A changed ticket list changes the ticket lists and the composer alone. -/
theorem changeTickets_eq (k : KitchenNo) (f : List Ticket → List Ticket) (s : State) : changeTickets k f s = { s with
    catering := { s.catering with tickets := s.catering.tickets.upd k f }
    composer := (changeTickets k f s).composer } := rfl

/-- The pantry faces of the kitchen are composed anew from what the change leaves. -/
theorem changeTickets_face (k : KitchenNo) (f : List Ticket → List Ticket) (s : State) (a : Addr) :
    (changeTickets k f s).composer.faces.get a =
      if (s.panels.get a).kitchen? = some k then
        (s.composer.faces.get a).withOwn (pantryRows (changeTickets k f s) k) else s.composer.faces.get a :=
  kitchenChanged_face ..

theorem changeTickets_get (k : KitchenNo) (f : List Ticket → List Ticket) (s : State) (j : KitchenNo) :
    (changeTickets k f s).catering.tickets.get j =
      if j = k then f (s.catering.tickets.get k) else s.catering.tickets.get j := Tab.get_upd ..

theorem hasTicket_iff (s : State) (k : KitchenNo) (id : BookingId) :
    hasTicket s k id = true ↔ ∃ u, u ∈ s.catering.tickets.get k ∧ u.booking = id := by simp [hasTicket]

/-! ## Pantry calls (R114, R115) -/

/-- An order of which a pantry call may be made: one of its kitchen, DISPATCHED, or ACCEPTED where it is delivered. -/
def PantryCall.MayServe (c : PantryCall) (o : Order) : Prop :=
  o.kitchen = c.kitchen ∧ (o.state = .dispatched ∨ (c.delivered = true ∧ o.state = .accepted))

/-- The state of an order that the call has been made of. -/
def PantryCall.served (c : PantryCall) : OrderState := if c.delivered then .delivered else .accepted

/-- The pantry calls that wait for the scheduler are replaced. -/
def State.withPantryCalls (s : State) (calls : List PantryCall) : State :=
  { s with deliveries := { s.deliveries with pantryCalls := calls } }

/-- The judgement of a pantry call of either kind. -/
def judgePantryCall (c : PantryCall) (s : State) : State := if c.delivered then deliverTicket c s else acceptTicket c s

/-- What a call makes of the ticket that it names: removed, or ACCEPTED. -/
def serveTicket (c : PantryCall) (s : State) : State :=
  if c.delivered then removeTicket c.kitchen c.booking s
  else changeTickets c.kitchen
    (fun l => l.map fun u => if u.booking = c.booking then { u with accepted := true } else u) s

/-- The order that the call names has been served. -/
def serveOrder (c : PantryCall) (s : State) : State := updOrder c.booking (fun o => { o with state := c.served }) s

theorem serveOrder_own {c : PantryCall} {s : State} {b : Record} {o : Order} (hb : s.record? c.booking = some b)
    (ho : b.order = some o) :
    (serveOrder c s).record? c.booking = some { b with order := some { o with state := c.served } } := by
  rw [serveOrder, updOrder_self hb, ho, Option.map_some]

theorem exec_pantryCall {c : PantryCall} {rest : List PantryCall} {s : State} (hp : s.ports.powerGood = true)
    (hc : s.deliveries.pantryCalls = c :: rest) : exec (if c.delivered then .delivered else .accept) s =
      .next (judgePantryCall c (s.withPantryCalls rest)) := by
  have htake : ∀ judge, takePantryCall c.delivered judge s = judge c (s.withPantryCalls rest) := fun judge => by
    rw [takePantryCall, hc]
    exact if_pos rfl
  unfold judgePantryCall
  cases hd : c.delivered <;> rw [hd] at htake <;>
    exact congrArg Host.Outcome.next ((whenPowered_of_power hp _).trans (htake _))

/-- The order that a call names, where it is in one of the states asked for. -/
theorem calledOrder_eq_some {s : State} {k : KitchenNo} {id : BookingId} {p : Order → Bool} {o : Order} :
    calledOrder s k id p = some o ↔ ∃ b, s.record? id = some b ∧ b.order = some o ∧ p o = true ∧ o.kitchen = k := by
  unfold calledOrder
  cases hb : s.record? id with
  | none => simp
  | some b =>
    cases ho : b.order with
    | none => simp [ho]
    | some o' =>
      simp only [Option.ite_none_right_eq_some, Option.some.injEq, Bool.and_eq_true, beq_iff_eq, exists_eq_left', ho]
      constructor
      · rintro ⟨h, rfl⟩
        exact ⟨rfl, h⟩
      · rintro ⟨rfl, h⟩
        exact ⟨h, rfl⟩

/-- A call of an order that it may be made of is answered DONE, with its order and its ticket changed. -/
theorem judgePantryCall_served {c : PantryCall} {s : State} {b : Record} {o : Order} (hb : s.record? c.booking = some b)
    (ho : b.order = some o) (h : c.MayServe o) : judgePantryCall c s =
      answerCall c.place (.doneTicket c.booking)
        (serveTicket c (serveOrder c s)) := by
  obtain ⟨hk, hstate⟩ := h
  unfold judgePantryCall serveTicket serveOrder PantryCall.served
  cases hd : c.delivered with
  | true =>
    have hcalled := (calledOrder_eq_some (p := Order.ticketed)).2
      ⟨b, hb, ho, by simpa [Order.ticketed, hd] using hstate, hk⟩
    simp only [deliverTicket, hcalled, hk, if_true]
  | false =>
    have hcalled := (calledOrder_eq_some (p := fun o => o.state == .dispatched)).2
      ⟨b, hb, ho, by simpa [hd] using hstate, hk⟩
    simp [acceptTicket, hcalled, hk]

/-- Any other call is answered UNKNOWN_TICKET, with nothing changed. -/
theorem judgePantryCall_refused {c : PantryCall} {s : State}
    (h : ¬ ∃ b o, s.record? c.booking = some b ∧ b.order = some o ∧ c.MayServe o) :
    judgePantryCall c s = answerCall c.place (.refused .unknownTicket (some c.booking)) s := by
  have hnone : ∀ p : Order → Bool,
      (∀ o, p o = true → o.state = .dispatched ∨ (c.delivered = true ∧ o.state = .accepted)) →
      calledOrder s c.kitchen c.booking p = none := fun p hp => by
    rw [Option.eq_none_iff_forall_ne_some]
    intro o ho
    obtain ⟨b, hb, hbo, hpo, hk⟩ := calledOrder_eq_some.1 ho
    exact h ⟨b, o, hb, hbo, hk, hp o hpo⟩
  unfold judgePantryCall
  cases hd : c.delivered with
  | true =>
    have hcalled := hnone Order.ticketed fun o ho => by simpa [Order.ticketed, hd] using ho
    simp only [deliverTicket, hcalled, if_true]
  | false =>
    have hcalled := hnone (fun o => o.state == .dispatched) fun o ho => .inl (by simpa using ho)
    simp [acceptTicket, hcalled]

/-- A ticket served changes the ticket lists and the composer alone, and no room mark. -/
theorem serveTicket_eq (c : PantryCall) (s : State) : serveTicket c s = { s with
    catering := { s.catering with tickets := (serveTicket c s).catering.tickets }
    composer := { s.composer with faces := (serveTicket c s).composer.faces } } := by
  unfold serveTicket removeTicket
  split
  · split <;> rfl
  · rfl

theorem serveTicket_get (c : PantryCall) (s : State) (j : KitchenNo) : (serveTicket c s).catering.tickets.get j =
    if j ≠ c.kitchen then s.catering.tickets.get j
    else if c.delivered then (s.catering.tickets.get j).filter fun u => u.booking != c.booking
    else (s.catering.tickets.get j).map fun u => if u.booking = c.booking then { u with accepted := true } else u := by
  unfold serveTicket
  by_cases hj : j = c.kitchen
  · subst hj
    cases c.delivered <;> simp [removeTicket_catering, changeTickets_get]
  · cases c.delivered <;> simp [removeTicket_catering, changeTickets_get, hj]

/-- The pantry faces of the kitchen are composed anew, from the tickets then standing, by an ACCEPT, and by a DELIVERED
where the ticket stood. -/
theorem serveTicket_face {c : PantryCall} {s t : State}
    (h : c.delivered = false ∨ ∃ u, u ∈ s.catering.tickets.get c.kitchen ∧ u.booking = c.booking)
    (hk : t.kitchens = s.kitchens) (ht : t.catering.tickets = (serveTicket c s).catering.tickets) (a : Addr) :
    (serveTicket c s).composer.faces.get a =
      if (s.panels.get a).kitchen? = some c.kitchen then
        (s.composer.faces.get a).withOwn (pantryRows t c.kitchen)
      else s.composer.faces.get a := by
  have hrows : pantryRows t c.kitchen = pantryRows (serveTicket c s) c.kitchen :=
    pantryRows_congr (hk.trans (congrArg State.kitchens (serveTicket_eq c s)).symm) ht c.kitchen
  rw [hrows]
  unfold serveTicket
  cases hd : c.delivered with
  | true =>
    have hticket := (hasTicket_iff s c.kitchen c.booking).2 (h.resolve_left (by simp [hd]))
    simp [removeTicket_face, hticket]
  | false => exact changeTickets_face ..

/-- A call that is made of its order leaves everything but the store, the ticket lists, the faces and the panels. -/
theorem servedCall_eq (c : PantryCall) (a : CallAnswer) (s : State) :
    answerCall c.place a (serveTicket c (serveOrder c s)) = { s with
      store := (serveOrder c s).store
      catering := { s.catering with tickets := (serveTicket c (serveOrder c s)).catering.tickets }
      composer := { s.composer with faces := (serveTicket c (serveOrder c s)).composer.faces }
      panels := (answerCall c.place a s).panels } := by
  unfold answerCall
  rw [serveTicket_eq]
  rfl

/-- Settles O49: a call is made of the order it names, or refused. -/
theorem pantryCallsAcceptAndDeliverTickets : Obligations.PantryCallsAcceptAndDeliverTickets := by
  intro c rest s hp hc i taken
  have hexec := exec_pantryCall hp hc
  refine ⟨fun b o hb ho htaken => ?_, fun hnone => ?_⟩
  · rw [judgePantryCall_served (s := s.withPantryCalls rest) hb ho htaken, servedCall_eq] at hexec
    have hid : b.id = c.booking := record?_id hb
    refine ⟨_, hexec, rfl, ?_, fun x hx => updOrder_of_ne (hid ▸ hx) _ s, rfl, rfl, fun j => serveTicket_get c _ j, rfl,
      fun hticket a => ?_, rfl⟩
    · exact (congrArg (State.record? _) hid).trans (serveOrder_own (s := s.withPantryCalls rest) hb ho)
    · refine serveTicket_face (s := serveOrder c (s.withPantryCalls rest)) hticket ?_ ?_ a <;> rfl
  · exact hexec.trans (congrArg Host.Outcome.next (judgePantryCall_refused hnone))

end Sys2Proof.Machine
end

section
/-!
SUPPORT. A dispatch pass over one kitchen: what each of its steps makes of the orders, the tickets and the panels, and
what they make together (R111 to R113).
-/

namespace Sys2Proof.Machine

/-! ## What the steps of a pass leave alone -/

/-- Between the two states a pass has worked on a kitchen: the load pages and the other kitchens' tickets stand, and
each ticket of its own stands, but for its unaccepted mark. -/
structure PassWork (k : KitchenNo) (s t : State) : Prop where
  frame : t = { s with store := t.store, catering := t.catering, composer := t.composer, panels := t.panels,
                       exceptions := t.exceptions }
  pages : t.catering.pages = s.catering.pages
  others : ∀ j, j ≠ k → t.catering.tickets.get j = s.catering.tickets.get j
  stands : ∀ u, u ∈ s.catering.tickets.get k → ∃ m, { u with unacceptedMark := m } ∈ t.catering.tickets.get k
  length : (s.catering.tickets.get k).length ≤ (t.catering.tickets.get k).length

theorem PassWork.refl (k : KitchenNo) (s : State) : PassWork k s s :=
  ⟨rfl, rfl, fun _ _ => rfl, fun u hu => ⟨u.unacceptedMark, hu⟩, le_rfl⟩

theorem PassWork.trans {k : KitchenNo} {s u t : State} (h : PassWork k s u) (h' : PassWork k u t) : PassWork k s t where
  frame := h'.frame.trans (by rw [h.frame])
  pages := h'.pages.trans h.pages
  others j hj := (h'.others j hj).trans (h.others j hj)
  stands v hv := by
    obtain ⟨m, hm⟩ := h.stands v hv
    obtain ⟨m', hm'⟩ := h'.stands _ hm
    exact ⟨m', hm'⟩
  length := h.length.trans h'.length

theorem PassWork.foldl {α : Type} {k : KitchenNo} {f : State → α → State} (h : ∀ s a, PassWork k s (f s a)) (l : List α)
    (s : State) : PassWork k s (l.foldl f s) := by
  induction l generalizing s with
  | nil => exact .refl k s
  | cons a l ih => exact (h s a).trans (ih _)

theorem PassWork.rooms {k : KitchenNo} {s t : State} (h : PassWork k s t) : t.rooms = s.rooms := by rw [h.frame]

/-- A change of the store, the faces, the panels and the Exception Unit is such work. -/
theorem PassWork.update (k : KitchenNo) (s : State) (st : Store) (c : Composer) (p : Tab Panel 112) (e : Exceptions) :
    PassWork k s { s with store := st, composer := c, panels := p, exceptions := e } :=
  ⟨rfl, rfl, fun _ _ => rfl, fun u hu => ⟨u.unacceptedMark, hu⟩, le_rfl⟩

/-- A change of the kitchen's ticket list that keeps its tickets is such work. -/
theorem PassWork.changeTickets {k : KitchenNo} {s : State} {f : List Ticket → List Ticket}
    (hs : ∀ u, u ∈ s.catering.tickets.get k → ∃ m, { u with unacceptedMark := m } ∈ f (s.catering.tickets.get k))
    (hl : (s.catering.tickets.get k).length ≤ (f (s.catering.tickets.get k)).length) :
    PassWork k s (changeTickets k f s) where
  frame := rfl
  pages := rfl
  others j hj := (changeTickets_get k f s j).trans (if_neg hj)
  stands := by rwa [changeTickets_get, if_pos rfl]
  length := by rwa [changeTickets_get, if_pos rfl]

theorem PassWork.handTicket (k j : KitchenNo) (u : Ticket) (s : State) : PassWork k s (handTicket j u s) := by
  rw [handTicket_eq]
  exact .update ..

/-! ## A dispatch (R112) -/

/-- The ticket that a dispatch makes. -/
def newTicket (g : Nat) (b : Record) (o : Order) (s : State) : Ticket :=
  { booking := b.id, roomName := (s.rooms.get b.room).name, qd := o.qd, load := o.load, accepted := false,
    madeGrain := g, unacceptedMark := false }

theorem dispatchOrder_eq (k : KitchenNo) (g : Nat) (b : Record) (o : Order) (s : State) : dispatchOrder k g b o s =
    handTicket k (newTicket g b o s) (changeTickets k
      (insertWhere (fun u => decide (o.qd < u.qd)) (newTicket g b o s))
      (updOrder b.id (fun o => { o with state := .dispatched, dispatchPending := false }) s)) := rfl

theorem dispatchOrder_work (k : KitchenNo) (g : Nat) (b : Record) (o : Order) (s : State) :
    PassWork k s (dispatchOrder k g b o s) := by
  rw [dispatchOrder_eq]
  refine (PassWork.update k s _ _ _ _).trans ((PassWork.changeTickets (fun u hu => ⟨u.unacceptedMark, ?_⟩) ?_).trans
    (.handTicket ..))
  · exact mem_insertWhere.2 (.inr hu)
  · rw [(insertWhere_perm ..).length_eq]
    exact Nat.le_succ _

theorem dispatchOrder_record? (k : KitchenNo) (g : Nat) (b : Record) (o : Order) (s : State) (x : BookingId) :
    (dispatchOrder k g b o s).record? x =
      (updOrder b.id (fun o => { o with state := .dispatched, dispatchPending := false }) s).record? x := by
  rw [dispatchOrder_eq, handTicket_eq]
  rfl

theorem newTicket_mem_dispatchOrder (k : KitchenNo) (g : Nat) (b : Record) (o : Order) (s : State) :
    newTicket g b o s ∈ (dispatchOrder k g b o s).catering.tickets.get k := by
  have htickets : (dispatchOrder k g b o s).catering = (changeTickets k
      (insertWhere (fun u => decide (o.qd < u.qd)) (newTicket g b o s)) s).catering := by
    rw [dispatchOrder_eq, handTicket_eq]
    rfl
  rw [htickets, changeTickets_get, if_pos rfl]
  exact mem_insertWhere.2 (.inl rfl)

/-! ## One order of a pass (R111, R113) -/

/-- The order judged for lateness: TICKET_LATE is raised, and its late mark set, at its delivery grain. -/
def judgeLate (k : KitchenNo) (g : Nat) (b : Record) (o : Order) (s : State) : State :=
  if o.qd ≤ g ∧ ¬ o.lateMark then
    updOrder b.id (fun o => { o with lateMark := true }) (raiseFor .ticketLate b k.val s)
  else s

theorem judgeLate_eq (k : KitchenNo) (g : Nat) (b : Record) (o : Order) (s : State) : judgeLate k g b o s =
    { s with store := (judgeLate k g b o s).store, exceptions := (judgeLate k g b o s).exceptions } := by
  unfold judgeLate
  split <;> rfl

@[simp] theorem judgeLate_rooms (k : KitchenNo) (g : Nat) (b : Record) (o : Order) (s : State) :
    (judgeLate k g b o s).rooms = s.rooms := by rw [judgeLate_eq]

@[simp] theorem judgeLate_catering (k : KitchenNo) (g : Nat) (b : Record) (o : Order) (s : State) :
    (judgeLate k g b o s).catering = s.catering := by rw [judgeLate_eq]

theorem judgeLate_becomes {k : KitchenNo} {g : Nat} {b : Record} {o : Order} {s : State} (hb : s.record? b.id = some b)
    (ho : b.order = some o) :
    Becomes b.id { b with order := some { o with lateMark := o.lateMark || decide (o.qd ≤ g) } } s
      (judgeLate k g b o s) := by
  unfold judgeLate
  split
  next h =>
    refine ⟨(updOrder_self (s := raiseFor .ticketLate b k.val s) hb _).trans ?_, fun x hx => updOrder_of_ne hx _ _⟩
    simp [ho, h.1]
  next h =>
    have hmark : (o.lateMark || decide (o.qd ≤ g)) = o.lateMark := by
      cases hm : o.lateMark <;> simp_all
    rw [hmark, ← ho]
    exact ⟨hb, fun _ _ => rfl⟩

/-- What a pass has made of an order due: DISPATCHED with its ticket made at the grain, or, with the ticket list full,
left with its dispatch-pending flag; and its late mark is set where its delivery grain has come. -/
def Considered (k : KitchenNo) (g : Nat) (name : Bytes) (b : Record) (o : Order) (t : State) : Prop :=
  ∃ o', t.record? b.id = some { b with order := some o' } ∧ (o.qd ≤ g → o'.lateMark = true) ∧
    ((o' = { o with state := .dispatched, dispatchPending := false, lateMark := o'.lateMark } ∧
        ∃ u, u ∈ t.catering.tickets.get k ∧ u.booking = b.id ∧ u.qd = o.qd ∧ u.load = o.load ∧
          u.roomName = name ∧ u.madeGrain = g) ∨
      (o' = { o with dispatchPending := true, lateMark := o'.lateMark } ∧ 12 ≤ (t.catering.tickets.get k).length))

/-- Further work of the pass that keeps the record keeps that. -/
theorem Considered.work {k : KitchenNo} {g : Nat} {name : Bytes} {b : Record} {o : Order} {u t : State}
    (h : Considered k g name b o u) (hw : PassWork k u t) (hr : t.record? b.id = u.record? b.id) :
    Considered k g name b o t := by
  obtain ⟨o', hrec, hlate, hout⟩ := h
  refine ⟨o', hr.trans hrec, hlate, ?_⟩
  obtain ⟨ho', v, hv, hmade⟩ | ⟨ho', hfull⟩ := hout
  · obtain ⟨m, hm⟩ := hw.stands v hv
    exact .inl ⟨ho', _, hm, hmade⟩
  · exact .inr ⟨ho', hfull.trans hw.length⟩

theorem considerOrder_eq {k : KitchenNo} {g : Nat} {b : Record} {o : Order} {s : State} (hb : s.record? b.id = some b)
    (ho : b.order = some o) : considerOrder k g s b.id =
      if (s.catering.tickets.get k).length < 12 then dispatchOrder k g b o (judgeLate k g b o s)
      else updOrder b.id (fun o => { o with dispatchPending := true }) (judgeLate k g b o s) := by
  rw [← judgeLate_catering k g b o s]
  unfold considerOrder
  simp only [hb, ho]
  rfl

/-- A pass considers an order that is due. -/
theorem considerOrder_considered {k : KitchenNo} {g : Nat} {b : Record} {o : Order} {s : State}
    (hb : s.record? b.id = some b) (ho : b.order = some o) :
    Considered k g (s.rooms.get b.room).name b o (considerOrder k g s b.id) := by
  obtain ⟨hown, -⟩ := judgeLate_becomes (k := k) (g := g) hb ho
  have hlate : o.qd ≤ g → (o.lateMark || decide (o.qd ≤ g)) = true := fun h => by simp [h]
  rw [considerOrder_eq hb ho, ← judgeLate_rooms k g b o s]
  split
  next hroom =>
    refine ⟨_, (dispatchOrder_record? ..).trans (updOrder_self hown _), hlate, .inl ⟨rfl, ?_⟩⟩
    exact ⟨_, newTicket_mem_dispatchOrder .., rfl, rfl, rfl, rfl, rfl⟩
  next hfull =>
    refine ⟨_, updOrder_self hown _, hlate, .inr ⟨rfl, ?_⟩⟩
    exact judgeLate_catering k g b o s ▸ Nat.le_of_not_lt hfull

/-- It leaves every other record. -/
theorem considerOrder_of_ne {k : KitchenNo} {g : Nat} {id x : BookingId} (hx : x ≠ id) (s : State) :
    (considerOrder k g s id).record? x = s.record? x := by
  cases hb : s.record? id with
  | none => rw [considerOrder, hb]
  | some b =>
    obtain rfl := record?_id hb
    cases ho : b.order with
    | none => simp only [considerOrder, hb, ho]
    | some o =>
      obtain ⟨-, hothers⟩ := judgeLate_becomes (k := k) (g := g) hb ho
      rw [considerOrder_eq hb ho]
      split
      · exact ((dispatchOrder_record? ..).trans (updOrder_of_ne hx _ _)).trans (hothers x hx)
      · exact (updOrder_of_ne hx _ _).trans (hothers x hx)

theorem considerOrder_work (k : KitchenNo) (g : Nat) (s : State) (id : BookingId) :
    PassWork k s (considerOrder k g s id) := by
  cases hb : s.record? id with
  | none =>
    rw [considerOrder, hb]
    exact .refl k s
  | some b =>
    obtain rfl := record?_id hb
    cases ho : b.order with
    | none =>
      simp only [considerOrder, hb, ho]
      exact .refl k s
    | some o =>
      have hlate : PassWork k s (judgeLate k g b o s) := by
        rw [judgeLate_eq]
        exact .update ..
      rw [considerOrder_eq hb ho]
      split
      · exact hlate.trans (dispatchOrder_work ..)
      · exact hlate.trans (.update ..)

/-! ## The orders of a pass (R111) -/

/-- The orders considered in turn, each once: every one of them is dealt with, and every other record stands. -/
theorem considerOrders_spec {k : KitchenNo} {g : Nat} {ids : List BookingId} (hn : ids.Nodup) (s : State) :
    (∀ x, x ∉ ids → (ids.foldl (considerOrder k g) s).record? x = s.record? x) ∧
      ∀ b o, b.id ∈ ids → s.record? b.id = some b → b.order = some o →
        Considered k g (s.rooms.get b.room).name b o (ids.foldl (considerOrder k g) s) := by
  induction ids generalizing s with
  | nil => exact ⟨fun _ _ => rfl, fun _ _ h => absurd h (by simp)⟩
  | cons id ids ih =>
    obtain ⟨hid, hn⟩ := List.nodup_cons.1 hn
    obtain ⟨hstands, hdone⟩ := ih hn (considerOrder k g s id)
    have hwork := considerOrder_work k g s id
    refine ⟨fun x hx => ?_, fun b o hmem hb ho => ?_⟩
    · obtain ⟨hx, hx'⟩ := not_or.1 fun h => hx (List.mem_cons.2 h)
      exact (hstands x hx').trans (considerOrder_of_ne hx s)
    · by_cases heq : b.id = id
      · subst heq
        exact (considerOrder_considered hb ho).work (.foldl (considerOrder_work k g) ids _) (hstands _ hid)
      · have hb' := (considerOrder_of_ne (k := k) (g := g) heq s).trans hb
        exact hwork.rooms ▸ hdone b o ((List.mem_cons.1 hmem).resolve_left heq) hb' ho

/-- A booking with a PLACED order of the kitchen that is due, which is not MOVING. -/
def isDue (k : KitchenNo) (g : Nat) (b : Record) : Bool :=
  b.order.any fun o => decide (o.state = .placed ∧ o.kitchen = k ∧ o.qx ≤ g ∧ b.state ≠ .moving)

/-- A pass considers the orders due, each once. -/
theorem dueOrders_perm (s : State) (k : KitchenNo) (g : Nat) :
    (dueOrders s k g).Perm ((s.store.records.filter (isDue k g)).map (·.id)) := by
  refine ((sortBy_perm ..).map _).trans (.of_eq ?_)
  induction s.store.records with
  | nil => rfl
  | cons b l ih =>
    cases ho : b.order with
    | none => simpa [isDue, ho] using ih
    | some o =>
      by_cases hd : o.state = .placed ∧ o.kitchen = k ∧ o.qx ≤ g ∧ b.state ≠ .moving
      · simpa [isDue, ho, hd] using ih
      · simp only [List.filterMap_cons, List.filter_cons, isDue, ho, hd, if_false, Option.any_some, decide_false]
        exact ih

theorem dueOrders_nodup {s : State} (hn : (s.store.records.map (·.id)).Nodup) (k : KitchenNo) (g : Nat) :
    (dueOrders s k g).Nodup :=
  (dueOrders_perm s k g).nodup_iff.2 (hn.sublist (List.filter_sublist.map _))

theorem record?_of_mem {s : State} (hn : (s.store.records.map (·.id)).Nodup) {b : Record} (hb : b ∈ s.store.records) :
    s.record? b.id = some b := by
  cases hf : s.record? b.id with
  | none => exact absurd (List.find?_eq_none.1 hf b hb) (by simp)
  | some c => exact congrArg some (eq_of_id_eq hn (record?_mem hf) hb (record?_id hf))

theorem mem_dueOrders {s : State} (hn : (s.store.records.map (·.id)).Nodup) {k : KitchenNo} {g : Nat} {b : Record}
    {o : Order} (hb : b ∈ s.store.records) (ho : b.order = some o) : b.id ∈ dueOrders s k g ↔
      o.state = .placed ∧ o.kitchen = k ∧ o.qx ≤ g ∧ b.state ≠ .moving := by
  have hdue : isDue k g b = true ↔ o.state = .placed ∧ o.kitchen = k ∧ o.qx ≤ g ∧ b.state ≠ .moving := by
    simp [isDue, ho]
  rw [(dueOrders_perm s k g).mem_iff, ← hdue, List.mem_map]
  constructor
  · rintro ⟨c, hc, hid⟩
    obtain ⟨hc, hcdue⟩ := List.mem_filter.1 hc
    rwa [eq_of_id_eq hn hc hb hid] at hcdue
  · exact fun h => ⟨b, List.mem_filter.2 ⟨hb, h⟩, rfl⟩

/-! ## The tickets of a pass (R113) -/

/-- A ticket judged for acceptance changes no record. -/
theorem judgeTicket_store (k : KitchenNo) (g : Nat) (s : State) (u : Ticket) :
    (judgeTicket k g s u).store = s.store := by
  unfold judgeTicket
  split
  · dsimp only
    split <;> rfl
  · rfl

theorem judgeTicket_work (k : KitchenNo) (g : Nat) (s : State) (u : Ticket) : PassWork k s (judgeTicket k g s u) := by
  have hmarked : PassWork k s (changeTickets k
      (fun l => l.map fun v => if v.booking == u.booking then { v with unacceptedMark := true } else v) s) := by
    refine .changeTickets (fun v hv => ?_) (by rw [List.length_map])
    refine ⟨if v.booking == u.booking then true else v.unacceptedMark, List.mem_map.2 ⟨v, hv, ?_⟩⟩
    split <;> rfl
  unfold judgeTicket
  split
  · dsimp only
    split
    · exact hmarked.trans (.update ..)
    · exact hmarked
  · exact .refl k s

theorem judgeTickets_store (k : KitchenNo) (g : Nat) (l : List Ticket) (s : State) :
    (l.foldl (judgeTicket k g) s).store = s.store := by
  induction l generalizing s with
  | nil => rfl
  | cons u l ih => exact (ih _).trans (judgeTicket_store k g s u)

/-! ## One kitchen of a pass -/

theorem passKitchen_work (k : KitchenNo) (g : Nat) (s : State) : PassWork k s (passKitchen k g s) :=
  (PassWork.foldl (considerOrder_work k g) (dueOrders s k g) s).trans (.foldl (judgeTicket_work k g) ..)

/-- A pass deals with each order due, and leaves every record that has none. -/
theorem passKitchen_orders {k : KitchenNo} {g : Nat} {s : State} (hn : (s.store.records.map (·.id)).Nodup) {b : Record}
    {o : Order} (hb : b ∈ s.store.records) (ho : b.order = some o) :
    (¬ (o.state = .placed ∧ o.kitchen = k ∧ o.qx ≤ g ∧ b.state ≠ .moving) →
        (passKitchen k g s).record? b.id = some b) ∧
      (o.state = .placed ∧ o.kitchen = k ∧ o.qx ≤ g ∧ b.state ≠ .moving →
        Considered k g (s.rooms.get b.room).name b o (passKitchen k g s)) := by
  have hrec := record?_of_mem hn hb
  have hstore : ∀ x, (passKitchen k g s).record? x =
      ((dueOrders s k g).foldl (considerOrder k g) s).record? x := fun x => congrArg (fun st => Store.find st x) (judgeTickets_store ..)
  obtain ⟨hstands, hdone⟩ := considerOrders_spec (k := k) (g := g) (dueOrders_nodup hn k g) s
  rw [← mem_dueOrders hn hb ho]
  exact ⟨fun hout => (hstore b.id).trans ((hstands b.id hout).trans hrec),
    fun hin => (hdone b o hin hrec ho).work (.foldl (judgeTicket_work k g) ..) (hstore b.id)⟩

/-! ## DISPATCH_PASS (R111) -/

@[simp] theorem kitchenNo?_val (k : KitchenNo) : kitchenNo? k.val = some k := dif_pos k.isLt

/-- The pass of boundary `g` is at kitchen `k`, with the boundaries `rest` still waiting. -/
def State.inPass (s : State) (g : Nat) (k : KitchenNo) (rest : List Nat) : State :=
  { s with deliveries := { s.deliveries with pass := some ⟨g, k.val⟩, cateringBoundaries := rest } }

/-- The pass in hand is at a kitchen, or the oldest boundary begins one at the first. -/
theorem passPiece_eq {s : State} {k : KitchenNo} {g : Nat} {rest : List Nat}
    (h : (s.deliveries.pass = some ⟨g, k.val⟩ ∧ rest = s.deliveries.cateringBoundaries) ∨
      (k.val = 0 ∧ s.deliveries.pass = none ∧ s.deliveries.cateringBoundaries = g :: rest)) :
    passPiece s = setPass (if k.val < 7 then some ⟨g, k.val + 1⟩ else none) (passKitchen k g (s.inPass g k rest)) := by
  have hbegun : beginPass s = s.inPass g k rest := by
    obtain ⟨hp, rfl⟩ | ⟨hk, hp, hb⟩ := h
    · have hstands : beginPass s = s := by simp only [beginPass, hp]
      rw [hstands, State.inPass, ← hp]
    · simp only [beginPass, State.inPass, hp, hb, hk]
  unfold passPiece
  simp only [hbegun, State.inPass, kitchenNo?_val]

/-- With no pass in hand and no boundary waiting, a pass does nothing. -/
theorem passPieces_idle {s : State} (hp : s.deliveries.pass = none) (hb : s.deliveries.cateringBoundaries = [])
    (n : Nat) : passPieces n s = s := by
  have hpiece : passPiece s = s := by simp only [passPiece, beginPass, hp, hb]
  cases n with
  | zero => rfl
  | succ n =>
    rw [passPieces, hpiece]
    exact if_pos hp

theorem passPieces_one (s : State) : passPieces 1 s = passPiece s := by
  rw [passPieces]
  exact ite_self _

/-- Settles O48: the pass considers each order due, once. -/
theorem dispatchPassDispatchesWhatIsDue : Obligations.DispatchPassDispatchesWhatIsDue := by
  intro s hp hn
  refine ⟨fun k g rest h => ?_, fun hpass hb n =>
    congrArg Host.Outcome.next ((whenPowered_of_power hp _).trans (passPieces_idle hpass hb n))⟩
  have hwork := passKitchen_work k g (s.inPass g k rest)
  refine ⟨_, congrArg Host.Outcome.next ((whenPowered_of_power hp _).trans ((passPieces_one s).trans (passPiece_eq h))),
    ?_, hwork.pages, hwork.others, fun b o hb ho => ?_⟩
  · unfold setPass
    rw [hwork.frame]
    rfl
  · exact passKitchen_orders (s := s.inPass g k rest) hn hb ho

end Sys2Proof.Machine
end

section
/-!
SUPPORT. What the rows of a pantry face show: texts, numbers, ids and times written into a row one after another
(R121, R124, R127).
-/

namespace Sys2Proof.Machine

/-! ## Texts in a row (R121) -/

/-- A row holds the texts given, which end before cell `i`. -/
structure FilledTo (i : Nat) (row : Row) (texts : List (Nat × Attr × Bytes)) : Prop where
  shows : RowShows row texts
  ends : ∀ x, x ∈ texts → x.1 + x.2.2.length ≤ i

theorem blankRow_filled : FilledTo 0 blankRow [] where
  shows j := ⟨fun x i g hx => absurd hx (by simp), fun _ => Tab.get_fill ..⟩
  ends x hx := absurd hx (by simp)

theorem FilledTo.mono {i p : Nat} {row : Row} {texts : List (Nat × Attr × Bytes)} (h : FilledTo i row texts)
    (hp : i ≤ p) : FilledTo p row texts := ⟨h.shows, fun x hx => (h.ends x hx).trans hp⟩

/-- A text written where no text stands yet is held besides the others. -/
theorem FilledTo.text {i p : Nat} {row : Row} {texts : List (Nat × Attr × Bytes)} (h : FilledTo i row texts)
    (hp : i ≤ p) (a : Attr) (gs : Bytes) : FilledTo (p + gs.length) (rowText row p a gs) ((p, a, gs) :: texts) where
  shows j := by
    rw [rowText_get]
    refine ⟨fun x n g hx hg hj => ?_, fun hfree => ?_⟩
    · rcases List.mem_cons.1 hx with rfl | hx
      · rw [if_pos (by omega), show j.val - p = n by omega, hg]
      · have hn : n < x.2.2.length := (List.getElem?_eq_some_iff.1 hg).1
        have hx' := h.ends x hx
        rw [if_neg (by omega)]
        exact (h.shows j).1 x n g hx hg hj
    · have hout : (if p ≤ j.val then gs[j.val - p]? else none) = none := by
        split
        next hle =>
          refine List.getElem?_eq_none (Nat.le_of_not_lt fun hlt => ?_)
          exact hfree _ (j.val - p) List.mem_cons_self hlt (by dsimp only; omega)
        next => rfl
      rw [hout]
      exact (h.shows j).2 fun x n hx => hfree x n (List.mem_cons_of_mem _ hx)
  ends x hx := by
    rcases List.mem_cons.1 hx with rfl | hx
    · exact le_rfl
    · have := h.ends x hx
      omega

/-- What a row holds is the texts, in whatever order they are named. -/
theorem RowShows.of_perm {row : Row} {texts texts' : List (Nat × Attr × Bytes)} (h : RowShows row texts)
    (hp : texts.Perm texts') : RowShows row texts' := by
  unfold RowShows at *
  simpa only [hp.mem_iff] using h

/-! ## Numbers, ids and times in a row (R124, R127) -/

/-- The glyphs of a text as texts of one glyph each, the last first. -/
def glyphTexts (p : Nat) (a : Attr) : Bytes → List (Nat × Attr × Bytes)
  | [] => []
  | g :: gs => glyphTexts (p + 1) a gs ++ [(p, a, [g])]

theorem FilledTo.glyphs {i p : Nat} {row : Row} {texts : List (Nat × Attr × Bytes)} (h : FilledTo i row texts)
    (hp : i ≤ p) (a : Attr) (gs : Bytes) :
    FilledTo (p + gs.length) (rowText row p a gs) (glyphTexts p a gs ++ texts) := by
  induction gs generalizing i p row texts with
  | nil => exact h.mono hp
  | cons g gs ih =>
    have hrest := ih (h.text hp a [g]) (Nat.le_refl (p + 1))
    rw [glyphTexts, List.append_assoc, List.length_cons, Nat.add_comm gs.length 1, ← Nat.add_assoc]
    exact hrest

/-- A number below 10000 ends at cell 23. -/
theorem numberAt_eq (a : Attr) (n : Nat) : numberAt 23 a 4 n =
    glyphTexts (24 - (decimalText n).length) a (decimalText n) := by
  have hplaces : List.range 4 = [0, 1, 2, 3] := rfl
  unfold numberAt decimalText
  rw [hplaces]
  by_cases h1 : n < 10
  · simp [h1, show ¬ 10 ≤ n by omega, show ¬ 100 ≤ n by omega, show ¬ 1000 ≤ n by omega, glyphTexts, digit, byte]
  by_cases h2 : n < 100
  · simp [h1, h2, show 10 ≤ n by omega, show ¬ 100 ≤ n by omega, show ¬ 1000 ≤ n by omega, glyphTexts, digit, byte]
  by_cases h3 : n < 1000
  · simp [h1, h2, h3, show 10 ≤ n by omega, show 100 ≤ n by omega, show ¬ 1000 ≤ n by omega, glyphTexts, digit, byte]
  · simp [h1, h2, h3, show 10 ≤ n by omega, show 100 ≤ n by omega, show 1000 ≤ n by omega, glyphTexts, digit, byte]

theorem decimalText_length (n : Nat) : (decimalText n).length ≤ 4 := by
  unfold decimalText
  split_ifs <;> simp

/-- An id ends at cell 9. -/
theorem idAt_eq (a : Attr) (id : BookingId) : idAt 9 a id = glyphTexts 6 a (idText id) := by
  have hdigit : ∀ n, hexDigit n = BitVec.ofNat 8 (if n % 16 < 10 then 48 + n % 16 else 55 + n % 16) := fun n =>
    (apply_ite (BitVec.ofNat 8) ..).symm
  have hplaces : List.range 4 = [0, 1, 2, 3] := rfl
  simp [idAt, hplaces, idText, glyphTexts, hdigit]

theorem clockText_eq (q : Nat) : clockText q = timeGlyphs q := by
  have hday : q % 288 < 288 := Nat.mod_lt _ (by omega)
  have htens : 5 * (q % 288) / 60 / 10 % 10 = 5 * (q % 288) / 600 := by omega
  have hminutes : 5 * (q % 288) % 60 / 10 % 10 = 5 * (q % 288) % 60 / 10 := by omega
  have hones : 5 * (q % 288) % 60 % 10 = 5 * (q % 288) % 10 := by omega
  simp [clockText, timeGlyphs, digit, byte, Config.dayGrains, htens, hminutes, hones]

/-! ## The rows of a pantry face (R127) -/

/-- Two places suffice for the count of a full ticket list. -/
theorem numberAt_two {n : Nat} (h : n ≤ 12) (a : Attr) :
    numberAt 23 a 2 n = glyphTexts (24 - (decimalText n).length) a (decimalText n) := by
  rw [← numberAt_eq]
  simp [numberAt, List.range_succ, List.filter_cons, show ¬ 100 ≤ n by omega, show ¬ 1000 ≤ n by omega]

theorem countText_eq {n : Nat} (h : n ≤ 12) (row : Row) (a : Attr) :
    (if n < 10 then rowText row 23 a [digit n] else rowText row 22 a [digit (n / 10), digit n]) =
      rowText row (24 - (decimalText n).length) a (decimalText n) := by
  unfold decimalText
  split
  · rfl
  · rw [if_pos (by omega)]
    rfl

/-- Row 0 names the kitchen, whether it is PAUSED, and its tickets' number. -/
theorem pantryRow0_shows {s : State} {k : KitchenNo} (h : (s.catering.tickets.get k).length ≤ 12) :
    RowShows (pantryRow0 s k) ((0, .normal, (s.kitchens.get k).name.take 16) ::
      ((if (s.kitchens.get k).state = .paused then [(16, .accent, glyphsOfText "PAUSED")] else []) ++
        numberAt 23 .normal 2 (s.catering.tickets.get k).length)) := by
  unfold pantryRow0
  dsimp only
  generalize s.kitchens.get k = e
  generalize (s.catering.tickets.get k).length = n at h ⊢
  have hname : (e.name.take 16).length ≤ 16 := List.length_take_le ..
  have hnamed := blankRow_filled.text (Nat.zero_le 0) .normal (e.name.take 16)
  have hpaused : FilledTo 22
      (if e.state == .paused then rowText (rowText blankRow 0 .normal (e.name.take 16)) 16 .accent wordPaused
        else rowText blankRow 0 .normal (e.name.take 16))
      ((if e.state = .paused then [(16, .accent, glyphsOfText "PAUSED")] else []) ++
        [(0, .normal, e.name.take 16)]) := by
    cases e.state with
    | opened => exact hnamed.mono (by omega)
    | paused => exact hnamed.text (p := 16) (by omega) .accent wordPaused
  have hcount : 22 ≤ 24 - (decimalText n).length := by
    rw [decimalText]
    split_ifs <;> simp <;> omega
  have hrow := (hpaused.glyphs hcount .normal (decimalText n)).shows
  rw [← countText_eq h] at hrow
  rw [numberAt_two h]
  refine hrow.of_perm (List.perm_append_comm.trans ?_)
  exact ((List.perm_append_singleton _ _).append_right _)

/-- A ticket's row gives its time, its id, its room's name and its load, all marked by its state. -/
theorem ticketRow_shows (u : Ticket) :
    RowShows (ticketRow u) ([(0, ticketAttr u, timeGlyphs u.qd), (11, ticketAttr u, u.roomName.take 8)] ++
      idAt 9 (ticketAttr u) u.booking ++ numberAt 23 (ticketAttr u) 4 u.load) := by
  have hname : (u.roomName.take 8).length ≤ 8 := List.length_take_le ..
  have hload := decimalText_length u.load
  have htime := blankRow_filled.text (Nat.zero_le 0) (ticketAttr u) (clockText u.qd)
  have hid := htime.glyphs (p := 6) (by simp [clockText]) (ticketAttr u) (idText u.booking)
  have hroom := hid.text (p := 11) (by simp [idText]) (ticketAttr u) (u.roomName.take 8)
  have hrow := hroom.glyphs (p := 24 - (decimalText u.load).length) (by omega) (ticketAttr u) (decimalText u.load)
  rw [← clockText_eq, idAt_eq, numberAt_eq]
  have hshows : RowShows (ticketRow u) _ := hrow.shows
  exact hshows.of_perm (List.perm_append_comm.trans ((List.perm_append_singleton _ (_ :: _)).append_right _))

end Sys2Proof.Machine
end

section
/-!
SUPPORT. The rows that write a kitchen's entry and its capacity profile, and what each tells the faces and the Exception
Unit (R103, R104, R127, R167).
-/

namespace Sys2Proof.Machine

/-! ## T4, kitchens (R103, R127) -/

/-- What a write that leaves the kitchen's entry as `e` does: a changed state or name composes the pantry faces of the
kitchen anew. -/
def KitchenTold (k : KitchenNo) (e : Kitchen) (s t : State) : Prop :=
  t = { s with kitchens := s.kitchens.set k e, composer := t.composer, ports := t.ports } ∧
    t.composer = (if e.state = (s.kitchens.get k).state ∧ e.name = (s.kitchens.get k).name then s.composer else
      { s.composer with faces := Tab.gen fun a =>
          let f := s.composer.faces.get a
          if (s.panels.get a).kitchen? = some k then f.withOwn (pantryRows t k) else f })

theorem writeKitchen_kitchen (k : KitchenNo) (w : KitchenWrite) (s : State) :
    (writeKitchen k.val w s).state =
      if ((s.kitchens.get k).written w).state ≠ (s.kitchens.get k).state ∨
          ((s.kitchens.get k).written w).name ≠ (s.kitchens.get k).name then
        kitchenChanged k { s with kitchens := s.kitchens.set k ((s.kitchens.get k).written w) }
      else { s with kitchens := s.kitchens.set k ((s.kitchens.get k).written w) } := by
  rw [writeKitchen, kitchenNo?_val]

theorem writeKitchen_clamped (k : KitchenNo) (w : KitchenWrite) (s : State) : (writeKitchen k.val w s).clamped =
    bits [tooLong 16 w.name, outside 1 12 w.acceptLimit,
      namedWith w.pantry fun n => n != absentCode && (addr? n).isNone] := by rw [writeKitchen, kitchenNo?_val]

theorem writeKitchen_ignored (k : KitchenNo) (w : KitchenWrite) (s : State) : (writeKitchen k.val w s).ignored =
    bits [false, false, false, namedWith w.state fun n => (kitchenState? n).isNone] := by
  rw [writeKitchen, kitchenNo?_val]

/-- The write is told, whatever leaves the port after it. -/
theorem writeKitchen_told (k : KitchenNo) (w : KitchenWrite) (s : State) (p : Ports) :
    KitchenTold k ((s.kitchens.get k).written w) s { (writeKitchen k.val w s).state with ports := p } := by
  rw [writeKitchen_kitchen]
  split
  next h => exact ⟨rfl, (if_neg fun hsame => h.elim (· hsame.1) (· hsame.2)).symm⟩
  next h =>
    obtain ⟨hstate, hname⟩ := not_or.1 h
    exact ⟨rfl, (if_pos ⟨not_not.1 hstate, not_not.1 hname⟩).symm⟩

/-- A row that writes a kitchen tells its faces, and is answered with its masks and the entry as it now stands
(R167). -/
theorem kitchenRow_told {s : State} {w : KitchenWrite} {e : Kitchen} {c i : Byte} (via : Via) (k : KitchenNo)
    (hs : s.taking = true) (he : (s.kitchens.get k).written w = e) (hc : byte (writeKitchen k.val w s).clamped = c)
    (hi : byte (writeKitchen k.val w s).ignored = i) :
    ∃ t, whenTaking s (fun s => answerWrite via 4 k.val 1 (writeKitchen k.val w s)) = t ∧ KitchenTold k e s t ∧
      Answered via .tableWrite (.done ([1#8, c, i] ++ kitchenImage (t.kitchens.get k))) s t := by
  subst he hc hi
  have himage : tableImage (writeKitchen k.val w s).state 4 k.val =
      kitchenImage ((writeKitchen k.val w s).state.kitchens.get k) := by rw [tableImage, kitchenNo?_val]
  have hports : (writeKitchen k.val w s).state.ports = s.ports := by
    rw [writeKitchen_kitchen]
    split <;> rfl
  refine ⟨_, whenTaking_of_taking hs _, ?_, ?_⟩
  · rw [answerWrite, respond_eq]
    exact writeKitchen_told ..
  · have hkitchens : (answerWrite via 4 k.val 1 (writeKitchen k.val w s)).kitchens =
        (writeKitchen k.val w s).state.kitchens := by rw [answerWrite, respond_eq]
    rw [hkitchens, ← himage]
    exact respond_answered_of _ _ _ hports

theorem kitchenState?_code (st : KitchenState) : ∀ code : Nat,
    (kitchenState? code).getD st = if code = 0 then .opened else if code = 1 then .paused else st
  | 0 => rfl
  | 1 => rfl
  | _ + 2 => rfl

theorem kitchenState?_isNone : ∀ code : Nat, (kitchenState? code).isNone = !decide (code < 2)
  | 0 => rfl
  | 1 => rfl
  | n + 2 => by simp [kitchenState?]

/-- The rows of a pantry face below the first are those of its tickets, and blank where there is none. -/
theorem pantryRows_ticket {s : State} {k : KitchenNo} {i : Fin 8} (hi : i ≠ 0) : (pantryRows s k).get i =
    (((s.catering.tickets.get k)[i.val - 1]?).map ticketRow).getD blankRow := by
  have hne : i.val ≠ 0 := fun h => hi (Fin.ext h)
  unfold pantryRows
  rw [Tab.get_gen, if_neg hne]
  cases (s.catering.tickets.get k)[i.val - 1]? <;> rfl

/-- Settles O26, by the row of each write and the texts of each row. -/
theorem kitchenWritesRecomposeItsPantryFaces : Obligations.KitchenWritesRecomposeItsPantryFaces := by
  intro via k code name s hs e told
  refine ⟨?_, ?_, fun hlen => ?_, fun i hi => ⟨fun hnone => ?_, fun u hu _ => ?_⟩⟩
  · have hwritten : e.written { state := some code } =
        { e with state := if code = 0 then .opened else if code = 1 then .paused else e.state } :=
      congrArg (fun st => { e with state := st }) (kitchenState?_code e.state code)
    have hignored : byte (writeKitchen k.val { state := some code } s).ignored = if code < 2 then 0#8 else 8#8 := by
      rw [writeKitchen_ignored, namedWith, Option.any_some, kitchenState?_isNone]
      by_cases hc : code < 2
      · rw [if_pos hc, decide_eq_true hc]
        rfl
      · rw [if_neg hc, decide_eq_false hc]
        rfl
    obtain ⟨t, hexec, htold, hans⟩ := kitchenRow_told via k hs hwritten (by rw [writeKitchen_clamped]) hignored
    exact ⟨t, congrArg Host.Outcome.next hexec, htold, hans⟩
  · have hclamped : byte (writeKitchen k.val { name := some name } s).clamped =
        if 16 < name.length then 1#8 else 0#8 := by
      rw [writeKitchen_clamped]
      by_cases hc : 16 < name.length <;> simp [bits, byte, tooLong, outside, namedWith, hc]
    obtain ⟨t, hexec, htold, hans⟩ := kitchenRow_told via k hs rfl hclamped (by rw [writeKitchen_ignored])
    exact ⟨t, congrArg Host.Outcome.next hexec, htold, hans⟩
  · have hrow : (pantryRows s k).get 0 = pantryRow0 s k := Tab.get_gen ..
    rw [hrow]
    exact pantryRow0_shows hlen
  · rw [pantryRows_ticket hi, hnone]
    exact blankRow_filled.shows
  · rw [pantryRows_ticket hi, hu]
    exact ticketRow_shows u

/-! ## T5, the capacity profile (R104) -/

/-- One pair writes its slot-of-day. -/
theorem profileWritten_pair (row : Tab Nat 96) (p : Nat × Nat) (i : Fin 96) :
    (profileWritten row [p]).get i = if p.1 = i.val then min p.2 4095 else row.get i := by
  unfold profileWritten slotNo? roomNo?
  by_cases hp : p.1 < 96
  · simp only [List.foldl_cons, List.foldl_nil, hp, dif_pos, Tab.get_set, Fin.ext_iff, eq_comm (a := i.val)]
    rfl
  · have hne : p.1 ≠ i.val := by omega
    simp [hp, hne]

/-- A slot-of-day takes the last capacity written for it, 4095 at most, and else stands. -/
theorem profileWritten_get (w : List (Nat × Nat)) (row : Tab Nat 96) (i : Fin 96) : (profileWritten row w).get i =
    ((w.reverse.find? fun p => p.1 == i.val).map fun p => min p.2 4095).getD (row.get i) := by
  induction w generalizing row with
  | nil => rfl
  | cons p w ih =>
    have hsplit : profileWritten row (p :: w) = profileWritten (profileWritten row [p]) w := rfl
    rw [hsplit, ih, profileWritten_pair, List.reverse_cons, List.find?_append, List.find?_singleton]
    cases w.reverse.find? fun p => p.1 == i.val with
    | some q => rfl
    | none => by_cases hp : p.1 = i.val <;> simp [hp]

/-- A mask of fields has the bits of their numbers. -/
theorem testBit_maskOf (l : List Nat) (i : Nat) : (maskOf l).testBit i = decide (i ∈ l) := by
  suffices h : ∀ m : Nat, (l.foldl (fun m i => m ||| 1 <<< i) m).testBit i = (m.testBit i || decide (i ∈ l)) by
    simpa [maskOf] using h 0
  induction l with
  | nil => simp
  | cons j l ih =>
    intro m
    rw [List.foldl_cons, ih, Nat.testBit_or, Nat.one_shiftLeft, Nat.testBit_two_pow]
    by_cases h : i = j <;> simp [h, eq_comm]

/-- The written slots-of-day with a future slot below its load. -/
def slotsBelow (k : KitchenNo) (w : List (Nat × Nat)) (s : State) : List (Fin 96) :=
  (List.finRange 96).filter fun i => (w.any fun p => p.1 == i.val) && belowLoad s k i

theorem mem_slotsBelow {k : KitchenNo} {w : List (Nat × Nat)} {s : State} {i : Fin 96} : i ∈ slotsBelow k w s ↔
    (∃ p, p ∈ w ∧ p.1 = i.val) ∧ ∃ j : Fin 14, s.grain < (s.catering.pages.get j).tag * 288 + 3 * i.val + 3 ∧
      (s.profile.get k).get i < ((s.catering.pages.get j).loads.get k).get i := by
  have hpages : ∀ p : Page, p ∈ s.catering.pages.cells ↔ ∃ j, s.catering.pages.get j = p := fun p => by
    rw [List.mem_iff_get]
    exact ⟨fun ⟨n, hn⟩ => ⟨n.cast s.catering.pages.size, hn⟩, fun ⟨j, hj⟩ => ⟨j.cast s.catering.pages.size.symm, hj⟩⟩
  simp only [slotsBelow, belowLoad, List.mem_filter, List.mem_finRange, true_and, Bool.and_eq_true, List.any_eq_true,
    beq_iff_eq, decide_eq_true_eq, hpages, exists_exists_eq_and]
  rfl

theorem slotsBelow_pairwise (k : KitchenNo) (w : List (Nat × Nat)) (s : State) :
    (slotsBelow k w s).Pairwise (· < ·) :=
  (List.sortedLT_finRange 96).pairwise.filter _

/-- CAPACITY_BELOW_LOAD raised once of some slots-of-day, with the first of them and their number. -/
def raisedBelow (k : KitchenNo) (below : List (Fin 96)) (s : State) : State :=
  match below with
  | [] => s
  | i :: _ => raise .capacityBelowLoad (.kitchen k) none (BitVec.ofNat 32 (i.val + 256 * below.length)) s

theorem judgeProfile_eq (k : KitchenNo) (w : List (Nat × Nat)) (s : State) :
    judgeProfile k w s = raisedBelow k (slotsBelow k w s) s := by
  unfold judgeProfile
  cases h : slotsBelow k w s <;>
    · rw [slotsBelow] at h
      rw [h]
      rfl

theorem raisedBelow_frame (k : KitchenNo) (below : List (Fin 96)) (s : State) :
    raisedBelow k below s = { s with exceptions := (raisedBelow k below s).exceptions } := by
  cases below <;> rfl

/-- The profiles with the slots-of-day of a kitchen written. -/
def withProfile (k : KitchenNo) (w : List (Nat × Nat)) (s : State) : State :=
  { s with profile := s.profile.set k (profileWritten (s.profile.get k) w) }

/-- The state that a write of a profile leaves, which raises the occurrence of the slots below. -/
def profileTold (k : KitchenNo) (w : List (Nat × Nat)) (s : State) : State :=
  raisedBelow k (slotsBelow k w (withProfile k w s)) (withProfile k w s)

theorem profileTold_eq (k : KitchenNo) (w : List (Nat × Nat)) (s : State) : profileTold k w s = { s with
    profile := s.profile.set k (profileWritten (s.profile.get k) w)
    exceptions := (profileTold k w s).exceptions } := raisedBelow_frame ..

/-- Whatever list holds the slots-of-day below their load, in ascending order, the occurrence is raised of it. -/
theorem profileTold_exceptions {k : KitchenNo} {w : List (Nat × Nat)} {s : State} {below : List (Fin 96)}
    (hsorted : below.Pairwise (· < ·)) (hmem : ∀ i, i ∈ below ↔ i ∈ slotsBelow k w (withProfile k w s)) :
    (profileTold k w s).exceptions = (raisedBelow k below s).exceptions := by
  rw [profileTold, ← hsorted.eq_of_mem_iff (slotsBelow_pairwise k w (withProfile k w s)) hmem]
  cases below <;> rfl

theorem writeProfile_kitchen (k : KitchenNo) (w : List (Nat × Nat)) (s : State) : writeProfile k.val w s =
    { state := profileTold k w s
      clamped := maskOf ((w.filter fun p => decide (4095 < p.2)).map (·.1))
      ignored := 0 } := by
  rw [writeProfile, kitchenNo?_val, profileTold, ← judgeProfile_eq]
  rfl

/-- The row that writes a profile is answered with its masks, of 12 bytes, and the entry as it now stands (R167). -/
theorem answerProfile_eq (via : Via) (k : KitchenNo) (w : List (Nat × Nat)) (s : State) :
    answerWrite via 5 k.val 12 (writeProfile k.val w s) = respond via .tableWrite (.done (12#8 ::
      (maskBytes 12 (maskOf ((w.filter fun p => decide (4095 < p.2)).map (·.1))) ++ List.replicate 12 0#8 ++
        profileImage (profileWritten (s.profile.get k) w)))) (profileTold k w s) := by
  have himage : tableImage (profileTold k w s) 5 k.val = profileImage (profileWritten (s.profile.get k) w) := by
    rw [tableImage, kitchenNo?_val, profileTold_eq]
    exact congrArg profileImage (Tab.get_set_self ..)
  have hignored : maskBytes 12 0 = List.replicate 12 0#8 := rfl
  rw [writeProfile_kitchen, answerWrite, himage, hignored]
  rfl

/-- Settles O27, by the slots-of-day as the write leaves them. -/
theorem capacityProfileWriteReportsSlotsBelowLoad : Obligations.CapacityProfileWriteReportsSlotsBelowLoad := by
  intro via k slots s hs _
  have hexec : exec (.capacityProfileWrite via k.val slots) s =
      .next (answerWrite via 5 k.val 12 (writeProfile k.val slots s)) :=
    congrArg Host.Outcome.next (whenTaking_of_taking hs _)
  rw [answerProfile_eq] at hexec
  have hmask : ∀ i, (maskOf ((slots.filter fun p => decide (4095 < p.2)).map (·.1))).testBit i = true ↔
      ∃ p, p ∈ slots ∧ p.1 = i ∧ 4095 < p.2 := fun i => by
    rw [testBit_maskOf]
    simp [and_assoc, and_comm]
  refine ⟨_, profileWritten (s.profile.get k) slots,
    maskOf ((slots.filter fun p => decide (4095 < p.2)).map (·.1)), hexec, ?_, profileWritten_get slots _,
    fun below hsorted hbelow => ?_, hmask, ?_⟩
  · rw [respond_eq, profileTold_eq]
  · have hmem : ∀ i, i ∈ below ↔ i ∈ slotsBelow k slots (withProfile k slots s) := fun i => by
      have hrow : (withProfile k slots s).profile.get k = profileWritten (s.profile.get k) slots := Tab.get_set_self ..
      rw [hbelow, mem_slotsBelow, hrow]
      rfl
    rw [respond_eq]
    exact (profileTold_exceptions hsorted hmem).trans (by cases below <;> rfl)
  · exact respond_answered_of via .tableWrite _ (by rw [profileTold_eq])

end Sys2Proof.Machine
end

section
/-!
SUPPORT. The row that writes overlay rows, and the marks it leaves on the faces that show the overlay (R131, R167).
-/

namespace Sys2Proof.Machine

/-! ## T6, overlays (R131) -/

/-- One pair writes its row. -/
theorem overlayWritten_pair (o : Rows) (p : Nat × Bytes) (i : Fin 8) :
    (overlayWritten o [p]).get i = if p.1 = i.val then rowOf p.2 else o.get i := by
  unfold overlayWritten kitchenNo?
  by_cases hp : p.1 < 8
  · simp only [List.foldl_cons, List.foldl_nil, hp, dif_pos, Tab.get_set, Fin.ext_iff, eq_comm (a := i.val)]
  · have hne : p.1 ≠ i.val := by omega
    simp [hp, hne]

/-- A row is the last written for it, and else stands. -/
theorem overlayWritten_get (w : List (Nat × Bytes)) (o : Rows) (i : Fin 8) : (overlayWritten o w).get i =
    ((w.reverse.find? fun p => p.1 == i.val).map fun p => rowOf p.2).getD (o.get i) := by
  induction w generalizing o with
  | nil => rfl
  | cons p w ih =>
    have hsplit : overlayWritten o (p :: w) = overlayWritten (overlayWritten o [p]) w := rfl
    rw [hsplit, ih, overlayWritten_pair, List.reverse_cons, List.find?_append, List.find?_singleton]
    cases w.reverse.find? fun p => p.1 == i.val with
    | some q => rfl
    | none => by_cases hp : p.1 = i.val <;> simp [hp]

theorem badAttr_iff (b : Bytes) : badAttr b = true ↔ ∃ j : Fin 24, 2 < byteAt b (2 * j.val + 1) := by
  simp [badAttr, Fin.exists_iff]

theorem shows_iff (f : Face) (k : OverlayNo) :
    f.shows k = true ↔ f.selection = .server k ∨ f.selection = .auto k := by
  unfold Face.shows
  cases f.selection <;> simp

/-- The part with an overlay replaced and its changed rows marked where it is shown. -/
def overlayTold (k : OverlayNo) (new : Rows) (s : State) : State :=
  markOverlay k (s.overlays.get k) new { s with overlays := s.overlays.set k new }

theorem overlayTold_face (k : OverlayNo) (new : Rows) (s : State) (a : Addr) :
    (overlayTold k new s).composer.faces.get a =
      (let f := s.composer.faces.get a
       if f.selection = .server k ∨ f.selection = .auto k then
         { f with dirty := Tab.gen fun i => f.dirty.get i || decide ((s.overlays.get k).get i ≠ new.get i) }
       else f) :=
  (Tab.get_gen ..).trans (if_congr (shows_iff ..) rfl rfl)

theorem writeOverlay_overlay (k : OverlayNo) (w : List (Nat × Bytes)) (s : State) : writeOverlay k.val w s =
    { state := overlayTold k (overlayWritten (s.overlays.get k) w) s
      clamped := maskOf ((w.filter fun p => badAttr p.2).map (·.1))
      ignored := 0 } := by
  rw [writeOverlay, kitchenNo?_val]
  rfl

/-- The row that writes an overlay is answered with its masks, of one byte, and the entry as it now stands (R167). -/
theorem answerOverlay_eq (via : Via) (k : OverlayNo) (w : List (Nat × Bytes)) (s : State) :
    answerWrite via 6 k.val 1 (writeOverlay k.val w s) = respond via .tableWrite
      (.done ([1#8, byte (maskOf ((w.filter fun p => badAttr p.2).map (·.1))), 0#8] ++
        overlayImage (overlayWritten (s.overlays.get k) w)))
      (overlayTold k (overlayWritten (s.overlays.get k) w) s) := by
  have himage (new : Rows) : tableImage (overlayTold k new s) 6 k.val = overlayImage new := by
    rw [tableImage, kitchenNo?_val]
    exact congrArg overlayImage (Tab.get_set_self ..)
  rw [writeOverlay_overlay, answerWrite, himage]
  rfl

/-- Settles O28, by the overlay as the write leaves it. -/
theorem overlayWriteMarksChangedRowsWhereShown : Obligations.OverlayWriteMarksChangedRowsWhereShown := by
  intro via k rows s hs _
  have hexec : exec (.overlayWrite via k.val rows) s =
      .next (answerWrite via 6 k.val 1 (writeOverlay k.val rows s)) :=
    congrArg Host.Outcome.next (whenTaking_of_taking hs _)
  rw [answerOverlay_eq] at hexec
  have hmask : ∀ i, (maskOf ((rows.filter fun p => badAttr p.2).map (·.1))).testBit i = true ↔
      ∃ p, p ∈ rows ∧ p.1 = i ∧ ∃ j : Fin 24, 2 < byteAt p.2 (2 * j.val + 1) := fun i => by
    simp only [testBit_maskOf, decide_eq_true_eq, List.mem_map, List.mem_filter, badAttr_iff, and_assoc,
      and_comm (a := _ = i)]
  refine ⟨_, overlayWritten (s.overlays.get k) rows, _, hexec, ?_, overlayWritten_get rows _, ?_, fun a => ?_, hmask,
    respond_answered_of via .tableWrite _ rfl⟩
  · rw [respond_eq]
    rfl
  · rw [respond_eq]
    rfl
  · rw [respond_eq]
    exact overlayTold_face ..

end Sys2Proof.Machine
end

section
/-!
SUPPORT. The recomposition at a boundary, and what the zone rows of a door face show (R121 to R126).
-/

namespace Sys2Proof.Machine

/-! ## The bookings named on a face (R122) -/

theorem currentBooking_eq {l : List Record} {c : Option Record} (h : CurrentIs l c) : currentBooking l = c := by
  unfold currentBooking
  cases c with
  | none =>
    have hin : l.find? (fun r => r.state == .checkedIn) = none := List.find?_eq_none.2 fun b hb => by simp [h b hb]
    rw [hin]
    exact List.find?_eq_none.2 fun b hb => by simp [h b hb]
  | some b =>
    obtain ⟨before, after, hl, ⟨hst, hbefore⟩ | ⟨hst, hnone, hbefore⟩⟩ := h
    · have hin : l.find? (fun r => r.state == .checkedIn) = some b :=
        List.find?_eq_some_iff_append.2 ⟨by simp [hst], before, after, hl, fun x hx => by simp [hbefore x hx]⟩
      rw [hin]
    · have hin : l.find? (fun r => r.state == .checkedIn) = none :=
        List.find?_eq_none.2 fun x hx => by simp [hnone x hx]
      rw [hin]
      exact List.find?_eq_some_iff_append.2 ⟨by simp [hst], before, after, hl, fun x hx => by simp [hbefore x hx]⟩

theorem nextBooking_eq {l : List Record} {c n : Option Record} (hc : CurrentIs l c) (hn : NextIs l c n) :
    nextBooking l = n := by
  have hcandidate (b : Record) : ((b.state == .booked || b.state == .armed) &&
      (currentBooking l).map (·.id) != some b.id) = true ↔
        (b.state = .booked ∨ b.state = .armed) ∧ ¬ ∃ d, c = some d ∧ b.id = d.id := by
    rw [currentBooking_eq hc]
    cases c <;> simp [eq_comm (a := b.id)]
  unfold nextBooking
  cases n with
  | none =>
    refine List.find?_eq_none.2 fun b hb => ?_
    rw [hcandidate]
    exact fun ⟨hst, hother⟩ => hother (hn b hb hst)
  | some b =>
    obtain ⟨before, after, hl, hst, hother, hbefore⟩ := hn
    refine List.find?_eq_some_iff_append.2
      ⟨(hcandidate b).2 ⟨hst, fun ⟨d, hd, hid⟩ => hother d hd hid⟩, before, after, hl, fun x hx => ?_⟩
    rw [Bool.not_eq_true', ← Bool.not_eq_true, hcandidate]
    exact fun ⟨hst, hother⟩ => hother (hbefore x hx hst)

/-! ## The zone rows (R123, R124) -/

/-- Two texts on end are one text and another that follows it. -/
theorem rowText_append (row : Row) (i : Nat) (a : Attr) (gs hs : Bytes) :
    rowText row i a (gs ++ hs) = rowText (rowText row i a gs) (i + gs.length) a hs := by
  induction gs generalizing row i with
  | nil => rfl
  | cons g gs ih =>
    rw [List.cons_append, rowText, rowText, ih, List.length_cons, Nat.add_comm gs.length, Nat.add_assoc]

theorem glyphsOfText_length (word : String) : (glyphsOfText word).length = word.length := by
  rw [glyphsOfText, List.length_map, String.length_toList]

/-- Row 0 gives the room's name and the status word, which ends at cell 23. -/
theorem zoneRow0_shows {s : State} {r : RoomNo} {g : Nat} (word : String) (a : Attr) (hlen : word.length ≤ 8)
    (hw : statusWord (s.rooms.get r).state r (s.listed r) g = (glyphsOfText word, a)) :
    RowShows (zoneRow0 s r g)
      [(0, .normal, (s.rooms.get r).name.take 15), (24 - word.length, a, glyphsOfText word)] := by
  have hname : ((s.rooms.get r).name.take 15).length ≤ 15 := List.length_take_le ..
  have hnamed := blankRow_filled.text (Nat.zero_le 0) .normal ((s.rooms.get r).name.take 15)
  have hrow := (hnamed.text (p := 24 - word.length) (by omega) a (glyphsOfText word)).shows
  rw [zoneRow0, hw, glyphsOfText_length]
  exact hrow.of_perm (List.Perm.swap ..)

/-- The status word of a room that is IN_SERVICE with a current booking. -/
theorem statusWord_current {r : RoomNo} {l : List Record} {g : Nat} {b : Record} (h : currentBooking l = some b) :
    statusWord .inService r l g =
      if b.joined = true ∧ b.room ≠ r then (wordJoined, .inverse)
      else if b.state = .checkedIn then (wordInUse, .inverse) else (wordCheckIn, .inverse) := by
  simp [statusWord, h]

/-- The status word of a room that is IN_SERVICE with no current booking. -/
theorem statusWord_idle {r : RoomNo} {l : List Record} {g : Nat} (h : currentBooking l = none) :
    statusWord .inService r l g =
      if ∃ b, nextBooking l = some b ∧ b.ss ≤ g + 2 then (wordSoon, .accent) else (wordFree, .normal) := by
  cases hn : nextBooking l <;> simp [statusWord, h, hn]

theorem zoneRow0_status {s : State} {r : RoomNo} (g : Nat) {current next : Option Record}
    (hc : CurrentIs (s.listed r) current) (hn : NextIs (s.listed r) current next) :
    StatusShown s r g current next (zoneRow0 s r g) := by
  have hcurrent := currentBooking_eq hc
  have hnext := nextBooking_eq hc hn
  unfold StatusShown
  dsimp only
  cases hst : (s.rooms.get r).state with
  | outOfService => exact zoneRow0_shows "CLOSED" .accent (by decide) (by rw [hst]; rfl)
  | unconfigured => exact zoneRow0_shows "CLOSED" .accent (by decide) (by rw [hst]; rfl)
  | held => exact zoneRow0_shows "HELD" .accent (by decide) (by rw [hst]; rfl)
  | inService =>
    refine ⟨fun b hb => ?_, fun hnone => ?_⟩
    · have hword := statusWord_current (r := r) (g := g) (hcurrent.trans hb)
      rw [← hst] at hword
      refine ⟨fun hj => ?_, fun hj hin => ?_, fun hj harmed => ?_⟩
      · exact zoneRow0_shows "JOINED" .inverse (by decide) (by rw [hword, if_pos hj]; rfl)
      · exact zoneRow0_shows "IN USE" .inverse (by decide) (by rw [hword, if_neg hj, if_pos hin]; rfl)
      · exact zoneRow0_shows "CHECK IN" .inverse (by decide)
          (by rw [hword, if_neg hj, if_neg (by simp [harmed])]; rfl)
    · have hword := statusWord_idle (r := r) (g := g) (hcurrent.trans hnone)
      rw [← hst, hnext] at hword
      refine ⟨fun b hb hsoon => ?_, fun hfree => ?_⟩
      · exact zoneRow0_shows "SOON" .accent (by decide) (by rw [hword, if_pos ⟨b, hb, hsoon⟩]; rfl)
      · exact zoneRow0_shows "FREE" .normal (by decide)
          (by rw [hword, if_neg fun ⟨b, hb, hsoon⟩ => absurd (hfree b hb) (by omega)]; rfl)

theorem zoneRow1_shows (s : State) (r : RoomNo) : RowShows (zoneRow1 s r)
    [(0, .normal, ((currentBooking (s.listed r)).bind fun b => b.title).getD [0x2D#8])] := by
  unfold zoneRow1
  cases (currentBooking (s.listed r)).bind fun b => b.title <;>
    exact (blankRow_filled.text (Nat.zero_le 0) .normal _).shows

theorem zoneRow2_shows (s : State) (r : RoomNo) : RowShows (zoneRow2 s r) (match currentBooking (s.listed r) with
    | some b => [(0, .normal, timeGlyphs b.qs), (5, .normal, [0x2D#8]), (6, .normal, timeGlyphs b.qe)]
    | none => []) := by
  unfold zoneRow2
  cases currentBooking (s.listed r) with
  | none => exact blankRow_filled.shows
  | some b =>
    have hbegin := blankRow_filled.text (Nat.zero_le 0) .normal (timeGlyphs b.qs)
    have hdash := hbegin.text (p := 5) (by simp [timeGlyphs]) .normal [0x2D#8]
    have hrow := (hdash.text (p := 6) (by simp) .normal (timeGlyphs b.qe)).shows
    dsimp only
    rw [clockText_eq, clockText_eq, rowText_append, rowText_append]
    exact hrow.of_perm (List.reverse_perm _).symm

theorem zoneRow3_shows (s : State) (r : RoomNo) : RowShows (zoneRow3 s r) (match nextBooking (s.listed r) with
    | some b => [(0, .accent, glyphsOfText "NEXT"), (5, .normal, timeGlyphs b.qs),
        (11, .normal, (b.title.getD []).take 13)]
    | none => []) := by
  unfold zoneRow3
  cases nextBooking (s.listed r) with
  | none => exact blankRow_filled.shows
  | some b =>
    have hword : wordNext = glyphsOfText "NEXT" := rfl
    have hnext := blankRow_filled.text (Nat.zero_le 0) .accent (glyphsOfText "NEXT")
    have hbegin := hnext.text (p := 5) (by decide) .normal (timeGlyphs b.qs)
    have hrow := (hbegin.text (p := 11) (by simp [timeGlyphs]) .normal ((b.title.getD []).take 13)).shows
    dsimp only
    rw [clockText_eq, hword]
    exact hrow.of_perm (List.reverse_perm _).symm

/-! ## One room's work (R125, R126) -/

/-- The own rows of a face bound to a room, as the composer's work for the room leaves them. -/
def workedRows (s : State) (r : RoomNo) (g : Nat) (own : Rows) : Rows :=
  if s.composer.roomMarks.get r then zoneRows s r g own else own.set 0 (zoneRow0 s r g)

theorem workedRows_get (s : State) (r : RoomNo) (g : Nat) (own : Rows) :
    (workedRows s r g own).get 0 = zoneRow0 s r g ∧
      (workedRows s r g own).get 1 = (if s.composer.roomMarks.get r then zoneRow1 s r else own.get 1) ∧
      (workedRows s r g own).get 2 = (if s.composer.roomMarks.get r then zoneRow2 s r else own.get 2) ∧
      (workedRows s r g own).get 3 = (if s.composer.roomMarks.get r then zoneRow3 s r else own.get 3) ∧
      ∀ i : Fin 8, 4 ≤ i.val → (workedRows s r g own).get i = own.get i := by
  have hfree (i : Fin 8) (hi : 4 ≤ i.val) (j : Fin 8) (hj : j.val < 4) : i ≠ j := fun h => by omega
  unfold workedRows zoneRows joinRows
  cases s.composer.roomMarks.get r with
  | false =>
    exact ⟨Tab.get_set_self .., by simp, by simp, by simp, fun i hi => Tab.get_set_ne _ _ (hfree i hi 0 (by decide))⟩
  | true =>
    refine ⟨by simp, by simp, by simp, by simp, fun i hi => ?_⟩
    simp [hfree i hi 0 (by decide), hfree i hi 1 (by decide), hfree i hi 2 (by decide), hfree i hi 3 (by decide)]

/-- New own rows mark each row whose shown content they change (R126). -/
theorem withOwn_dirty (f : Face) (rows : Rows) (i : Fin 8) : (f.withOwn rows).dirty.get i =
    (f.dirty.get i || (f.selection == .none && decide (f.own.get i ≠ rows.get i))) := Tab.get_gen ..

theorem recomposeRoom_face (r : RoomNo) (g : Nat) (s : State) (a : Addr) :
    (recomposeRoom r g s).composer.faces.get a =
      if (s.panels.get a).room? = some r then
        (s.composer.faces.get a).withOwn (workedRows s r g (s.composer.faces.get a).own)
      else s.composer.faces.get a := Tab.get_gen ..

/-! ## ZONE_ROW_RECOMPOSE (R125) -/

/-- The recomposition of boundary `g` is at room `r`, with the boundaries `rest` still waiting. -/
def State.inRecompose (s : State) (g : Nat) (r : RoomNo) (rest : List Nat) : State :=
  { s with deliveries := { s.deliveries with recompose := some ⟨g, r.val⟩, faceBoundaries := rest } }

/-- The recomposition in hand is at a room, or the oldest boundary begins one at the first. -/
theorem recomposePiece_eq {s : State} {r : RoomNo} {g : Nat} {rest : List Nat}
    (h : (s.deliveries.recompose = some ⟨g, r.val⟩ ∧ rest = s.deliveries.faceBoundaries) ∨
      (r.val = 0 ∧ s.deliveries.recompose = none ∧ s.deliveries.faceBoundaries = g :: rest)) :
    recomposePiece s = setRecompose (if r.val < 95 then some ⟨g, r.val + 1⟩ else none)
      (recomposeRoom r g (s.inRecompose g r rest)) := by
  have hbegun : beginRecompose s = s.inRecompose g r rest := by
    obtain ⟨hw, rfl⟩ | ⟨hr, hw, hb⟩ := h
    · have hstands : beginRecompose s = s := by simp only [beginRecompose, hw]
      rw [hstands, State.inRecompose, ← hw]
    · simp only [beginRecompose, State.inRecompose, hw, hb, hr]
  unfold recomposePiece
  simp only [hbegun, State.inRecompose, roomNo?_val]

/-- With no recomposition in hand and no boundary waiting, there is nothing to do. -/
theorem recomposePieces_idle {s : State} (hw : s.deliveries.recompose = none)
    (hb : s.deliveries.faceBoundaries = []) (n : Nat) : recomposePieces n s = s := by
  have hpiece : recomposePiece s = s := by simp only [recomposePiece, beginRecompose, hw, hb]
  cases n with
  | zero => rfl
  | succ n =>
    rw [recomposePieces, hpiece]
    exact if_pos hw

theorem recomposePieces_one (s : State) : recomposePieces 1 s = recomposePiece s := by
  rw [recomposePieces]
  exact ite_self _

/-- Settles O50: `recomposeRoom_face` gives the faces, `workedRows_get` their rows, and the rows' own lemmas what they
show. -/
theorem zoneRowRecomposeComposesOneRoom : Obligations.ZoneRowRecomposeComposesOneRoom := by
  intro s hp
  refine ⟨fun r g rest h hrun => ?_, fun r g current next hc hn => ?_, fun h n => ?_⟩
  · refine ⟨_, congrArg Host.Outcome.next ((whenPowered_of_power hp _).trans
      ((takeRecompose_of_running hrun 1).trans ((recomposePieces_one s).trans (recomposePiece_eq h)))), rfl, rfl,
      fun a => ?_⟩
    generalize hf : (setRecompose _ _).composer.faces.get a = f'
    have hface : f' = if (s.panels.get a).room? = some r then
        (s.composer.faces.get a).withOwn (workedRows s r g (s.composer.faces.get a).own)
      else s.composer.faces.get a := hf.symm.trans (recomposeRoom_face r g (s.inRecompose g r rest) a)
    refine ⟨fun hother => hface.trans (if_neg hother), fun hbound => ?_⟩
    rw [if_pos hbound] at hface
    rw [hface]
    exact ⟨rfl, withOwn_dirty _ _, workedRows_get ..⟩
  · refine ⟨zoneRow0_status g hc hn, ?_, ?_, ?_⟩
    · rw [← currentBooking_eq hc]
      exact zoneRow1_shows s r
    · rw [← currentBooking_eq hc]
      exact zoneRow2_shows s r
    · rw [← nextBooking_eq hc hn]
      exact zoneRow3_shows s r
  · refine congrArg Host.Outcome.next ((whenPowered_of_power hp _).trans ?_)
    obtain hhalted | ⟨hw, hb⟩ := h
    · exact takeRecompose_of_not hhalted n
    · by_cases hrun : s.clock.state = .running
      · exact (takeRecompose_of_running hrun n).trans (recomposePieces_idle hw hb n)
      · exact takeRecompose_of_not hrun n

end Sys2Proof.Machine
end

section
/-!
SUPPORT. The units of a PANEL_TEXT, one after another, and what a whole request makes of its face (R126, R128 to R130);
and the server's choice of overlay (R132).
-/

namespace Sys2Proof.Machine

/-! ## Glyphs at the cursor (R129) -/

/-- The cursor moves by its mode, within its window. -/
theorem advance_moves (a : FreeArea) : CursorMoves a a.advance := by
  unfold CursorMoves FreeArea.advance
  cases ha : a.mode <;> dsimp only
  case run => by_cases hc : a.cell < a.right <;> simp [hc]
  case stack => by_cases hr : a.row < a.bottom <;> simp [hr]

theorem advance_attr (a : FreeArea) : a.advance.attr = a.attr := by
  rw [(advance_moves a).1]

theorem putCell_get (own : Rows) (row cell : Nat) (c : FaceCell) (i : Fin 8) (j : Fin 24) :
    ((putCell own row cell c).get i).get j =
      if row = i.val ∧ cell = j.val then c else (own.get i).get j := by
  unfold putCell kitchenNo?
  by_cases hrow : row < 8
  · by_cases hi : i.val = row
    · obtain rfl : i = ⟨row, hrow⟩ := Fin.ext hi
      simp [hrow, rowPut_get, eq_comm]
    · have hne : i ≠ ⟨row, hrow⟩ := fun h => hi (congrArg Fin.val h)
      simp [hrow, hne, Ne.symm hi]
  · have hne : row ≠ i.val := by omega
    simp [hrow, hne]

/-- The cursor ends where it has advanced to once for each glyph. -/
theorem putGlyphs_area (gs : Bytes) (own : Rows) (a : FreeArea) :
    (putGlyphs gs own a).2 = FreeArea.advance^[gs.length] a := by
  induction gs generalizing own a with
  | nil => rfl
  | cons g gs ih => exact ih ..

/-- A cell holds the last of the glyphs written while the cursor stood there, and else stands. -/
theorem putGlyphs_get (gs : Bytes) (own : Rows) (a : FreeArea) (i : Fin 8) (j : Fin 24) :
    ((putGlyphs gs own a).1.get i).get j =
      match (List.range gs.length).reverse.find? fun n =>
        (FreeArea.advance^[n] a).row == i.val && (FreeArea.advance^[n] a).cell == j.val with
      | some n => ⟨gs.getD n 0x20#8, a.attr⟩
      | none => (own.get i).get j := by
  induction gs generalizing own a with
  | nil => rfl
  | cons g gs ih =>
    rw [putGlyphs, ih, putCell_get, advance_attr, List.length_cons, List.range_succ_eq_map, List.reverse_cons,
      ← List.map_reverse, List.find?_append, List.find?_map, List.find?_singleton]
    simp only [Function.comp_def, Function.iterate_succ_apply, Function.iterate_zero, id_eq, Bool.and_eq_true,
      beq_iff_eq]
    cases (List.range gs.length).reverse.find? fun n => (FreeArea.advance^[n] a.advance).row == i.val &&
        (FreeArea.advance^[n] a.advance).cell == j.val with
    | some n => simp
    | none => by_cases hat : a.row = i.val ∧ a.cell = j.val <;> simp [hat]

theorem clearWindow_get (own : Rows) (a : FreeArea) (i : Fin 8) (j : Fin 24) :
    ((clearWindow own a).get i).get j =
      if a.top ≤ i.val ∧ i.val ≤ a.bottom ∧ a.left ≤ j.val ∧ j.val ≤ a.right then ⟨0x20#8, .normal⟩
      else (own.get i).get j := by
  unfold clearWindow
  rw [Tab.get_gen]
  by_cases hi : a.top ≤ i.val ∧ i.val ≤ a.bottom
  · simp [hi, blankCell]
  · rw [if_neg hi, if_neg fun h => hi ⟨h.1, h.2.1⟩]

/-! ## One unit (R128 to R130) -/

theorem abandon_eq (r : TextRun) : r.abandon = { r with
    expected := false
    counts := { r.counts with abandoned := r.counts.abandoned + if r.expected then 1 else 0 } } := by
  unfold TextRun.abandon
  cases h : r.expected
  · rw [if_neg (by simp), if_neg (by simp), ← h]
    rfl
  · rfl

theorem runUnit_of_ended {r : TextRun} (h : r.ended = true) (u : TextUnit) : runUnit r u = r.ignored := if_pos h

theorem runUnit_levelValue {r : TextRun} (h : r.ended = false) (v : Nat) :
    runUnit r (.levelValue v) = if r.expected then applyLevel r v else r.ignored := by
  rw [runUnit, if_neg (by simp [h])]

theorem runUnit_of_ne {r : TextRun} (h : r.ended = false) {u : TextUnit} (hu : ∀ v, u ≠ .levelValue v) :
    runUnit r u = applyUnit r.abandon u := by
  rw [runUnit, if_neg (by simp [h])]
  exact hu

/-- Each unit is taken as R128 to R130 give. -/
theorem runUnit_taken (r : TextRun) (u : TextUnit) : UnitTaken r u (runUnit r u) := by
  refine ⟨fun hend => by rw [runUnit_of_ended hend]; rfl, fun hgo => ?_⟩
  cases u with
  | levelValue v =>
    rw [runUnit_levelValue hgo]
    exact ⟨fun h => by rw [if_neg (by simp [h])]; rfl, fun h => by rw [if_pos h]; simp [applyLevel, TextRun.applied]⟩
  | level =>
    rw [runUnit_of_ne hgo (by simp), abandon_eq]
    rfl
  | window t b l e =>
    rw [runUnit_of_ne hgo (by simp), abandon_eq]
    simp [applyUnit, FreeArea.windowed, FreeArea.home, FreeArea.moved, TextRun.applied, clamp, bne_iff_ne, or_assoc]
  | cursor row cell =>
    rw [runUnit_of_ne hgo (by simp), abandon_eq]
    refine ⟨fun h => ?_, fun h => ?_⟩
    · have hin : r.area.holds row cell = true := by simpa [FreeArea.holds, and_assoc] using h
      exact if_pos hin
    · have hout : ¬ r.area.holds row cell = true := by simpa [FreeArea.holds, and_assoc] using h
      exact if_neg hout
  | mode c =>
    rw [runUnit_of_ne hgo (by simp), abandon_eq]
    refine ⟨fun h => by subst h; rfl, fun h => by subst h; rfl, fun h => ?_⟩
    obtain ⟨c, rfl⟩ := Nat.exists_eq_add_of_le' h
    rfl
  | attr c =>
    rw [runUnit_of_ne hgo (by simp), abandon_eq]
    refine ⟨fun h => by subst h; rfl, fun h => by subst h; rfl, fun h => by subst h; rfl, fun h => ?_⟩
    obtain ⟨c, rfl⟩ := Nat.exists_eq_add_of_le' h
    rfl
  | glyphs g =>
    rw [runUnit_of_ne hgo (by simp), abandon_eq]
    refine ⟨rfl, fun n => FreeArea.advance^[n] r.area, rfl, (putGlyphs_area ..).symm, fun n _ => ?_,
      putGlyphs_get g r.own r.area⟩
    dsimp only
    rw [Function.iterate_succ_apply']
    exact advance_moves _
  | clear =>
    rw [runUnit_of_ne hgo (by simp), abandon_eq]
    exact ⟨rfl, clearWindow_get r.own r.area⟩
  | finish =>
    rw [runUnit_of_ne hgo (by simp), abandon_eq]
    rfl

/-! ## The counts of a request (R128) -/

/-- The units counted, the LEVEL that waits for its value among them. -/
def TextRun.total (r : TextRun) : Nat :=
  r.counts.applied + r.counts.abandoned + r.counts.ignored + if r.expected then 1 else 0

/-- `n` units have been taken, and no more of them clamped than applied. -/
def TextRun.Counted (n : Nat) (r : TextRun) : Prop := r.total = n ∧ r.counts.clamped ≤ r.counts.applied

theorem TextRun.Counted.applied {n : Nat} {r : TextRun} (h : r.Counted n) (c : Bool) :
    (r.applied c).Counted (n + 1) := by
  obtain ⟨htotal, hclamped⟩ := h
  unfold TextRun.total at htotal
  unfold TextRun.Counted TextRun.total TextRun.applied
  cases c <;> simp <;> omega

theorem TextRun.Counted.ignored {n : Nat} {r : TextRun} (h : r.Counted n) : r.ignored.Counted (n + 1) := by
  obtain ⟨htotal, hclamped⟩ := h
  refine ⟨?_, hclamped⟩
  rw [← htotal]
  cases h : r.expected <;> simp [TextRun.total, TextRun.ignored, h] <;> omega

theorem TextRun.Counted.abandon {n : Nat} {r : TextRun} (h : r.Counted n) : r.abandon.Counted n := by
  rw [abandon_eq]
  obtain ⟨htotal, hclamped⟩ := h
  refine ⟨?_, hclamped⟩
  rw [← htotal]
  cases h : r.expected <;> simp [TextRun.total, h]
  omega

/-- A LEVEL and its value are two units. -/
theorem TextRun.Counted.applyLevel {n : Nat} {r : TextRun} (h : r.Counted n) (hexp : r.expected = true) (v : Nat) :
    (applyLevel r v).Counted (n + 1) := by
  have hwait : TextRun.Counted (n - 1) { r with expected := false, area := { r.area with level := min v 15 } } := by
    obtain ⟨rfl, hclamped⟩ := h
    exact ⟨by simp [TextRun.total, hexp], hclamped⟩
  have hn : n - 1 + 1 = n := by
    obtain ⟨rfl, -⟩ := h
    simp [TextRun.total, hexp]
  exact hn ▸ (hwait.applied false).applied (decide (15 < v))

/-- Any other unit is counted at once, or waits for its value. -/
theorem TextRun.Counted.applyUnit {n : Nat} {r : TextRun} (h : r.Counted n) (hexp : r.expected = false)
    (u : TextUnit) : (applyUnit r u).Counted (n + 1) := by
  cases u with
  | window t b l e => exact TextRun.Counted.applied h _
  | cursor row cell =>
    rw [Machine.applyUnit]
    split
    · exact TextRun.Counted.applied h false
    · exact TextRun.Counted.applied h true
  | mode c =>
    rw [Machine.applyUnit]
    split
    · exact TextRun.Counted.applied h false
    · exact h.ignored
  | attr c =>
    rw [Machine.applyUnit]
    split
    · exact TextRun.Counted.applied h false
    · exact h.ignored
  | glyphs g => exact TextRun.Counted.applied h false
  | clear => exact TextRun.Counted.applied h false
  | level =>
    obtain ⟨rfl, hclamped⟩ := h
    exact ⟨by simp [TextRun.total, Machine.applyUnit, hexp], hclamped⟩
  | levelValue v => exact h.ignored
  | finish => exact TextRun.Counted.applied h false

/-- A unit is counted once: a LEVEL while it waits, and then with its value or as abandoned. -/
theorem TextRun.Counted.runUnit {n : Nat} {r : TextRun} (h : r.Counted n) (u : TextUnit) :
    (runUnit r u).Counted (n + 1) := by
  cases hend : r.ended with
  | true =>
    rw [runUnit_of_ended hend]
    exact h.ignored
  | false =>
    by_cases hu : ∃ v, u = .levelValue v
    · obtain ⟨v, rfl⟩ := hu
      rw [runUnit_levelValue hend]
      split
      next hexp => exact h.applyLevel hexp v
      next => exact h.ignored
    · rw [runUnit_of_ne hend fun v hv => hu ⟨v, hv⟩]
      exact h.abandon.applyUnit (by rw [abandon_eq]) u

/-! ## The free area (R128, R129) -/

/-- The window lies in rows 4 to 7, and the cursor in the window's rows. -/
def FreeArea.InRange (a : FreeArea) : Prop := 4 ≤ a.top ∧ a.top ≤ a.row ∧ a.row ≤ a.bottom ∧ a.bottom ≤ 7

theorem FreeArea.InRange.advance {a : FreeArea} (h : a.InRange) : a.advance.InRange := by
  obtain ⟨htop, hrow, hbottom, hlast⟩ := h
  obtain ⟨hframe, hrun, hstack⟩ := advance_moves a
  have htop' : a.advance.top = a.top := by rw [hframe]
  have hbottom' : a.advance.bottom = a.bottom := by rw [hframe]
  have hrow' : a.top ≤ a.advance.row ∧ a.advance.row ≤ a.bottom := by
    cases hmode : a.mode with
    | run =>
      rw [(hrun hmode).2]
      split_ifs <;> omega
    | stack =>
      rw [(hstack hmode).1]
      split_ifs <;> omega
  rw [FreeArea.InRange, htop', hbottom']
  exact ⟨htop, hrow'.1, hrow'.2, hlast⟩

theorem FreeArea.InRange.home {a : FreeArea} (h : a.InRange) : a.home.InRange := by
  obtain ⟨htop, hrow, hbottom, hlast⟩ := h
  exact ⟨htop, le_rfl, hrow.trans hbottom, hlast⟩

theorem windowed_inRange (a : FreeArea) (t b l e : Nat) : (a.windowed t b l e).InRange := by
  simp only [FreeArea.InRange, FreeArea.windowed, FreeArea.home, clamp]
  omega

/-- The free area lies in rows 4 to 7, and the zone rows are those given. -/
structure TextRun.Within (zone : Rows) (r : TextRun) : Prop where
  area : r.area.InRange
  rows : ∀ i : Fin 8, i.val < 4 → r.own.get i = zone.get i

theorem putCell_zone {row : Nat} (h : 4 ≤ row) (own : Rows) (cell : Nat) (c : FaceCell) {i : Fin 8} (hi : i.val < 4) :
    (putCell own row cell c).get i = own.get i :=
  Tab.ext_get fun j => by rw [putCell_get, if_neg (by omega)]

/-- The glyphs stay in the window's rows, and so does the cursor. -/
theorem putGlyphs_within (gs : Bytes) (own : Rows) {a : FreeArea} (h : a.InRange) :
    (putGlyphs gs own a).2.InRange ∧ ∀ i : Fin 8, i.val < 4 → (putGlyphs gs own a).1.get i = own.get i := by
  induction gs generalizing own a with
  | nil => exact ⟨h, fun _ _ => rfl⟩
  | cons g gs ih =>
    obtain ⟨harea, hrows⟩ := ih (putCell own a.row a.cell ⟨g, a.attr⟩) h.advance
    obtain ⟨htop, hrow, -, -⟩ := h
    exact ⟨harea, fun i hi => (hrows i hi).trans (putCell_zone (htop.trans hrow) own a.cell _ hi)⟩

theorem clearWindow_zone {a : FreeArea} (h : a.InRange) (own : Rows) {i : Fin 8} (hi : i.val < 4) :
    (clearWindow own a).get i = own.get i := by
  obtain ⟨htop, -⟩ := h
  exact Tab.ext_get fun j => by rw [clearWindow_get, if_neg (by omega)]

theorem TextRun.Within.applyUnit {zone : Rows} {r : TextRun} (h : r.Within zone) (u : TextUnit) :
    (applyUnit r u).Within zone := by
  obtain ⟨harea, hrows⟩ := h
  cases u with
  | window t b l e => exact ⟨windowed_inRange .., hrows⟩
  | cursor row cell =>
    rw [Machine.applyUnit]
    split
    next hin =>
      simp only [FreeArea.holds, Bool.and_eq_true, decide_eq_true_eq] at hin
      obtain ⟨⟨⟨hrow, hbottom⟩, -⟩, -⟩ := hin
      obtain ⟨htop, -, -, hlast⟩ := harea
      exact ⟨⟨htop, hrow, hbottom, hlast⟩, hrows⟩
    next => exact ⟨harea.home, hrows⟩
  | mode c =>
    rw [Machine.applyUnit]
    split <;> exact ⟨harea, hrows⟩
  | attr c =>
    rw [Machine.applyUnit]
    split <;> exact ⟨harea, hrows⟩
  | glyphs g =>
    obtain ⟨hafter, hstand⟩ := putGlyphs_within g r.own harea
    exact ⟨hafter, fun i hi => (hstand i hi).trans (hrows i hi)⟩
  | clear => exact ⟨harea.home, fun i hi => (clearWindow_zone harea r.own hi).trans (hrows i hi)⟩
  | level => exact ⟨harea, hrows⟩
  | levelValue v => exact ⟨harea, hrows⟩
  | finish => exact ⟨harea, hrows⟩

theorem TextRun.Within.runUnit {zone : Rows} {r : TextRun} (h : r.Within zone) (u : TextUnit) :
    (runUnit r u).Within zone := by
  cases hend : r.ended with
  | true =>
    rw [runUnit_of_ended hend]
    exact ⟨h.area, h.rows⟩
  | false =>
    by_cases hu : ∃ v, u = .levelValue v
    · obtain ⟨v, rfl⟩ := hu
      rw [runUnit_levelValue hend]
      split <;> exact ⟨h.area, h.rows⟩
    · have hgone : r.abandon.Within zone := by
        rw [abandon_eq]
        exact ⟨h.area, h.rows⟩
      rw [runUnit_of_ne hend fun v hv => hu ⟨v, hv⟩]
      exact hgone.applyUnit u

/-! ## A whole request (R128) -/

/-- A request begins with the face's own rows and its free area. -/
def Face.textStart (f : Face) : TextRun := ⟨f.own, f.area, ⟨0, 0, 0, 0⟩, false, false⟩

/-- The request after its first `i` units. -/
def textRun (f : Face) (us : List TextUnit) (i : Nat) : TextRun := (us.take i).foldl runUnit f.textStart

theorem textRun_next (f : Face) {us : List TextUnit} {i : Nat} {u : TextUnit} (h : us[i]? = some u) :
    textRun f us (i + 1) = runUnit (textRun f us i) u := by
  rw [textRun, List.take_add_one, h, List.foldl_append]
  rfl

/-- What holds at the start, and goes on to hold with one unit more, holds after the request. -/
theorem textRun_induct {f : Face} (us : List TextUnit) {P : Nat → TextRun → Prop} (hstart : P 0 f.textStart)
    (hunit : ∀ n r u, P n r → P (n + 1) (runUnit r u)) : P us.length (textRun f us us.length) := by
  have hrun (i : Nat) (hi : i ≤ us.length) : P i (textRun f us i) := by
    induction i with
    | zero => exact hstart
    | succ i ih =>
      rw [textRun_next f (List.getElem?_eq_getElem hi)]
      exact hunit _ _ _ (ih (by omega))
  exact hrun _ le_rfl

theorem textRun_counted (f : Face) (us : List TextUnit) : (textRun f us us.length).Counted us.length :=
  textRun_induct us ⟨rfl, le_rfl⟩ fun _ _ u h => h.runUnit u

theorem textRun_within {f : Face} (h : f.area.InRange) (us : List TextUnit) :
    (textRun f us us.length).Within f.own :=
  textRun_induct us (P := fun _ r => r.Within f.own) ⟨h, fun _ _ => rfl⟩ fun _ _ u h => h.runUnit u

/-- At the end a LEVEL that still waits is abandoned (R130). -/
theorem runUnits_eq (f : Face) (us : List TextUnit) : runUnits f us =
    let last := textRun f us us.length
    { last with
      expected := false
      counts := { last.counts with abandoned := last.counts.abandoned + if last.expected then 1 else 0 } } := by
  rw [textRun, List.take_length]
  exact abandon_eq _

/-- A request changes its face's own rows, its free area and its row marks alone. -/
theorem texted_eq (f : Face) (r : TextRun) :
    f.texted r = { f with own := r.own, dirty := (f.texted r).dirty, area := r.area } := by
  unfold Face.texted
  dsimp only
  split <;> rfl

theorem texted_dirty (f : Face) (r : TextRun) (i : Fin 8) : (f.texted r).dirty.get i =
    (f.dirty.get i || (f.selection == .none && decide (f.own.get i ≠ r.own.get i)) ||
      (i == 0 && decide (f.area.level ≠ r.area.level))) := by
  rw [← withOwn_dirty]
  unfold Face.texted
  dsimp only
  by_cases hlevel : r.area.level = f.area.level
  · simp [hlevel]
  · rw [if_neg hlevel]
    by_cases hi : i = 0
    · simp [hi, Ne.symm hlevel]
    · simp [hi]

/-! ## PANEL_TEXT (R128) -/

@[simp] theorem addr?_val_succ (a : Addr) : addr? (a.val + 1) = some a := dif_pos ⟨a.isLt, Nat.succ_pos _⟩

theorem addr?_eq_none {n : Nat} : addr? n = none ↔ n = 0 ∨ 112 < n := by
  simp only [addr?, dite_eq_right_iff, reduceCtorEq, imp_false]
  omega

theorem takeText_malformed {n : Nat} {units : Bytes} (via : Via) (s : State)
    (h : n = 0 ∨ 112 < n ∨ readText units = none ∨ readText units = some []) :
    takeText via n units s = respond via .panelText .malformed s := by
  unfold takeText
  split
  next ha ht =>
    rw [← or_assoc, ← addr?_eq_none, ha, ht] at h
    simp at h
  next => rfl

theorem takeText_units {units : Bytes} {us : List TextUnit} (via : Via) (a : Addr) (s : State)
    (hread : readText units = some us) (hne : us ≠ []) :
    takeText via (a.val + 1) units s = applyText via a us s := by
  obtain ⟨u, us, rfl⟩ := List.exists_cons_of_ne_nil hne
  rw [takeText, addr?_val_succ, hread]

/-- A change of the composer that is then answered changes the composer and the ports alone. -/
theorem respond_composed {s u : State} (h : u = { s with composer := u.composer }) (via : Via) (k : Kind)
    (ans : Answer) :
    respond via k ans u =
        { s with composer := (respond via k ans u).composer, ports := (respond via k ans u).ports } ∧
      (respond via k ans u).composer = u.composer ∧ Answered via k ans s (respond via k ans u) := by
  refine ⟨?_, ?_, respond_answered_of via k ans (by rw [h])⟩
  · rw [respond_eq, h]
  · rw [respond_eq]

theorem exec_panelText {s : State} (h : s.taking = true) (via : Via) (n : Nat) (units : Bytes) :
    exec (.panelText via n units) s = .next (takeText via n units s) :=
  congrArg Host.Outcome.next (whenTaking_of_taking h _)

/-- A request to a DOOR panel makes of its face what its units make, and is answered with their counts. -/
theorem exec_panelText_door {s : State} {a : Addr} {units : Bytes} {us : List TextUnit} (hs : s.taking = true)
    (via : Via) (hread : readText units = some us) (hne : us ≠ []) (hkind : (s.panels.get a).kind = .door) :
    ∃ t, exec (.panelText via (a.val + 1) units) s = .next t ∧ t = { s with composer := t.composer, ports := t.ports } ∧
      t.composer = { s.composer with
        faces := s.composer.faces.set a ((s.composer.faces.get a).texted (runUnits (s.composer.faces.get a) us)) } ∧
      Answered via .panelText (.done (textContents (runUnits (s.composer.faces.get a) us).counts)) s t := by
  refine ⟨_, ?_, respond_composed (u := updFace a (fun f => f.texted _) s) rfl via .panelText _⟩
  rw [exec_panelText hs, takeText_units via a s hread hne]
  exact congrArg Host.Outcome.next (if_pos hkind)

/-! ## PANEL_OVERLAY (R132) -/

/-- The faces that a target names: all of them, or one. -/
def namedFaces : Option Addr → List Addr
  | none => List.finRange 112
  | some a => [a]

theorem mem_namedFaces {target : Option Addr} {a : Addr} :
    a ∈ namedFaces target ↔ target = none ∨ target = some a := by
  cases target <;> simp [namedFaces, eq_comm]

theorem named_iff {target : Option Addr} {a : Addr} :
    (target.isNone || target == some a) = true ↔ target = none ∨ target = some a := by simp

theorem namedFaces_nodup (target : Option Addr) : (namedFaces target).Nodup := by
  cases target with
  | none => exact List.nodup_finRange 112
  | some a => exact List.nodup_singleton a

theorem targets?_code (target : Option Addr) :
    targets? ((target.map fun a => a.val + 1).getD 255) = some (namedFaces target) := by
  cases target with
  | none => rfl
  | some a =>
    have hne : a.val + 1 ≠ absentCode := by unfold absentCode; omega
    exact (if_neg hne).trans (congrArg (Option.map fun a => [a]) (addr?_val_succ a))

theorem choice?_code (choice : Option OverlayNo) :
    choice? ((choice.map fun k => k.val).getD 255) = some choice := by
  cases choice with
  | none => rfl
  | some k =>
    have hne : k.val ≠ absentCode := by unfold absentCode; omega
    exact (if_neg hne).trans (congrArg (Option.map some) (kitchenNo?_val k))

theorem takeOverlay_malformed {target choice : Nat} (via : Via) (s : State)
    (h : target = 0 ∨ (112 < target ∧ target ≠ 255) ∨ (7 < choice ∧ choice ≠ 255)) :
    takeOverlay via target choice s = respond via .panelOverlay .malformed s := by
  have hout : targets? target = none ∨ choice? choice = none := by
    rw [← or_assoc] at h
    refine h.imp (fun ht => ?_) fun ⟨hc, hne⟩ => ?_
    · have hnone : addr? target = none := addr?_eq_none.2 (by omega)
      exact (if_neg (by unfold absentCode; omega)).trans (by rw [hnone]; rfl)
    · have hnone : kitchenNo? choice = none := dif_neg (by omega)
      exact (if_neg hne).trans (by rw [hnone]; rfl)
  unfold takeOverlay
  split
  next ht hc => simp [ht, hc] at hout
  next => rfl

/-- A new server choice marks the whole face where the selection changes. -/
theorem withServer_eq (f : Face) (c : Option OverlayNo) : f.withChoices c f.auto = { f with
    server := c
    dirty := if (f.withChoices c f.auto).selection != f.selection then Tab.fill 8 true else f.dirty } := by
  have hselection : (f.withChoices c f.auto).selection = Face.selection { f with server := c } := by
    unfold Face.withChoices
    dsimp only
    split <;> rfl
  rw [hselection]
  unfold Face.withChoices
  by_cases h : Face.selection { f with server := c } = f.selection
  · simp [h]
  · simp [h, Face.wholeMark]

theorem chooseOverlay_face (target : Option Addr) (c : Option OverlayNo) (s : State) (a : Addr) :
    (chooseOverlay (namedFaces target) c s).composer.faces.get a =
      if target = none ∨ target = some a then
        (s.composer.faces.get a).withChoices c (s.composer.faces.get a).auto
      else s.composer.faces.get a :=
  (Tab.get_gen ..).trans (if_congr (List.contains_iff_mem.trans mem_namedFaces) rfl rfl)

/-- A face that a choice leaves with another selection is one named whose selection the choice changes. -/
theorem moved_eq {target : Option Addr} {c : Option OverlayNo} {s : State} {a : Addr} {f' : Face}
    (h : f' = if target = none ∨ target = some a then
        (s.composer.faces.get a).withChoices c (s.composer.faces.get a).auto else s.composer.faces.get a) :
    ((target.isNone || target == some a) && decide ((s.composer.faces.get a).selection ≠ f'.selection)) =
      ((target.isNone || target == some a) && changesSelection s c a) := by
  by_cases hnamed : target = none ∨ target = some a
  · dsimp only [changesSelection]
    rw [h, if_pos hnamed, bne_comm, decide_not]
    rfl
  · rw [Bool.eq_false_iff.2 (named_iff.not.2 hnamed), Bool.false_and, Bool.false_and]

/-- The faces counted are those named whose selection changes. -/
theorem changed_length (target : Option Addr) (p : Addr → Bool) : ((namedFaces target).filter p).length =
    ((List.finRange 112).filter fun a => (target.isNone || target == some a) && p a).length := by
  refine List.Perm.length_eq ((List.perm_ext_iff_of_nodup ((namedFaces_nodup target).filter _)
    ((List.nodup_finRange 112).filter _)).2 fun a => ?_)
  simp [mem_namedFaces]

/-- A choice in range is set on the faces named, and answered with the number of those whose selection it changes. -/
theorem exec_panelOverlay_named {s : State} (hs : s.taking = true) (via : Via) (target : Option Addr)
    (choice : Option OverlayNo) : ∃ t, exec (.panelOverlay via ((target.map fun a => a.val + 1).getD 255)
        ((choice.map fun k => k.val).getD 255)) s = .next t ∧ t = { s with composer := t.composer, ports := t.ports } ∧
      t.composer = (chooseOverlay (namedFaces target) choice s).composer ∧
      Answered via .panelOverlay
        (.done (word16 ((namedFaces target).filter (changesSelection s choice)).length)) s t := by
  refine ⟨_, ?_, respond_composed (u := chooseOverlay (namedFaces target) choice s) rfl via .panelOverlay _⟩
  refine congrArg Host.Outcome.next ((whenTaking_of_taking hs _).trans ?_)
  rw [takeOverlay, targets?_code, choice?_code]

/-- Settles O51: a request by `runUnit_taken` at each of its units, `textRun_counted` and `textRun_within`; a choice by
`chooseOverlay_face`. -/
theorem panelTextAndOverlayChangeTheFacesNamed : Obligations.PanelTextAndOverlayChangeTheFacesNamed := by
  intro via s hs
  refine ⟨fun n units h => ?_, fun a units us hread hne => ?_, fun target choice h => ?_, fun target choice => ?_⟩
  · rw [exec_panelText hs, takeText_malformed via s h]
    rfl
  · refine ⟨fun hkind => ?_, fun hkind => ?_⟩
    · rw [exec_panelText hs, takeText_units via a s hread hne]
      exact congrArg Host.Outcome.next (if_neg hkind)
    obtain ⟨t, hexec, hframe, hcomposer, hanswer⟩ := exec_panelText_door hs via hread hne hkind
    obtain ⟨htotal, hclamped⟩ := textRun_counted (s.composer.faces.get a) us
    have hface : t.composer.faces.get a = _ := (congrArg (fun c => c.faces.get a) hcomposer).trans (Tab.get_set_self ..)
    rw [← hface] at hcomposer
    have hafter := texted_eq (s.composer.faces.get a) (runUnits (s.composer.faces.get a) us)
    have hdirty := texted_dirty (s.composer.faces.get a) (runUnits (s.composer.faces.get a) us)
    rw [← hface] at hafter hdirty
    rw [runUnits_eq] at hafter hdirty hanswer
    refine ⟨t, textRun (s.composer.faces.get a) us, hexec, rfl, fun i u hu => ?_, hframe, hcomposer, hafter,
      fun i => ?_, fun h => ?_, ?_, hclamped, hanswer⟩
    · rw [textRun_next _ hu]
      exact runUnit_taken ..
    · rw [hdirty, hafter]
    · obtain ⟨harea, hrows⟩ := textRun_within h us
      rw [hafter]
      exact ⟨harea, hrows⟩
    · rw [TextRun.total] at htotal
      omega
  · exact congrArg Host.Outcome.next ((whenTaking_of_taking hs _).trans (takeOverlay_malformed via s h))
  · obtain ⟨t, hexec, hframe, hcomposer, hanswer⟩ := exec_panelOverlay_named hs via target choice
    have hface (a : Addr) : t.composer.faces.get a = _ :=
      (congrArg (fun c => c.faces.get a) hcomposer).trans (chooseOverlay_face target choice s a)
    have hmoves (a : Addr) := moved_eq (hface a)
    refine ⟨t, hexec, hframe, by rw [hcomposer]; rfl, fun a => ?_, ?_⟩
    · simp only [hmoves]
      refine (hface a).trans (if_ctx_congr Iff.rfl (fun hnamed => ?_) fun _ => rfl)
      rw [named_iff.2 hnamed, Bool.true_and]
      exact withServer_eq ..
    · simp only [hmoves]
      rw [← changed_length]
      exact hanswer

end Sys2Proof.Machine
end

section
/-!
SUPPORT. What the blocks beside the Loop Controller leave alone of it: the loop settings, its own state, and each panel
but for what its replies say and the TICKET frames that the Catering Scheduler hands to it. One equation per operation
that branches, for the simplifier, and one lemma per block for the updates that do not, in the order of the model's
files.
-/

namespace Sys2Proof.Machine

/-- A panel but for what its reply entries say: their number stands for them. -/
def Panel.counted (p : Panel) : Panel × Nat := ({ p with replies := [] }, p.replies.length)

/-- The loop settings, the Loop Controller's own state and the panels. -/
def State.loopSide (s : State) : LoopSettings × Loop × Tab (Panel × Nat) 112 :=
  (s.settings, s.loop, s.panels.map Panel.counted)

@[simp] theorem loopSide_eta (s : State) : (s.settings, s.loop, s.panels.map Panel.counted) = s.loopSide := rfl

@[simp] theorem loopSide_mk (clock rooms panels menu kitchens profile overlays dispositions settings store engine
    catering composer loop exceptions ports deliveries pending) :
    (State.mk clock rooms panels menu kitchens profile overlays dispositions settings store engine catering composer
      loop exceptions ports deliveries pending).loopSide = (settings, loop, panels.map Panel.counted) := rfl

@[simp] theorem loopSide_ite (p : Prop) [Decidable p] (s t : State) :
    (if p then s else t).loopSide = if p then s.loopSide else t.loopSide := apply_ite ..

@[simp] theorem foldl_loopSide {α : Type} {f : State → α → State} (h : ∀ s a, (f s a).loopSide = s.loopSide)
    (l : List α) (s : State) : (l.foldl f s).loopSide = s.loopSide := by
  induction l generalizing s with
  | nil => rfl
  | cons a l ih => rw [List.foldl_cons, ih, h]

/-- A panel's entry replaced by one that differs in what its replies say alone. -/
theorem counted_map_upd (t : Tab Panel 112) (a : Addr) {f : Panel → Panel} (h : ∀ p, (f p).counted = p.counted) :
    (t.upd a f).map Panel.counted = t.map Panel.counted := by
  refine Tab.ext_get fun b => ?_
  by_cases hb : b = a
  · simp [hb, h]
  · simp [hb]

/-! ## The shared operations -/

@[simp] theorem sharedOps_updates_loopSide :
    (∀ c subject room detail s, (raise c subject room detail s).loopSide = s.loopSide) ∧
    (∀ r s, (putRecord r s).loopSide = s.loopSide) ∧
    (∀ id f s, (updRecord id f s).loopSide = s.loopSide) ∧
    (∀ c r detail s, (raiseFor c r detail s).loopSide = s.loopSide) ∧
    (∀ r s, (markRoom r s).loopSide = s.loopSide) :=
  ⟨fun _ _ _ _ _ => rfl, fun _ _ => rfl, fun _ _ _ => rfl, fun _ _ _ _ => rfl, fun _ _ => rfl⟩

@[simp] theorem answerCall_loopSide (p a s) : (answerCall p a s).loopSide = s.loopSide :=
  congrArg (fun t => (s.settings, s.loop, t)) (counted_map_upd _ _ fun q => by simp [Panel.counted])

@[simp] theorem respondCode_loopSide (via kind a s) : (respondCode via kind a s).loopSide = s.loopSide :=
  by simp [respondCode]

@[simp] theorem respond_loopSide (via kind a s) : (respond via kind a s).loopSide = s.loopSide := by simp [respond]

@[simp] theorem markRooms_loopSide (rs s) : (markRooms rs s).loopSide = s.loopSide := by simp [markRooms]

@[simp] theorem markRecord_loopSide (r s) : (markRecord r s).loopSide = s.loopSide := by simp [markRecord]

@[simp] theorem whenTaking_loopSide {s : State} {f : State → State} (h : (f s).loopSide = s.loopSide) :
    (whenTaking s f).loopSide = s.loopSide := by simp [whenTaking, h]

@[simp] theorem whenPowered_loopSide {s : State} {f : State → State} (h : (f s).loopSide = s.loopSide) :
    (whenPowered s f).loopSide = s.loopSide := by simp [whenPowered, h]

@[simp] theorem whenLive_loopSide {s : State} {f : State → State} (h : (f s).loopSide = s.loopSide) :
    (whenLive s f).loopSide = s.loopSide := by simp [whenLive, h]

/-! ## The Face Composer -/

@[simp] theorem composer_updates_loopSide :
    (∀ a f s, (updFace a f s).loopSide = s.loopSide) ∧ (∀ f s, (updFaces f s).loopSide = s.loopSide) ∧
    (∀ r s, (evaluateOverlays r s).loopSide = s.loopSide) ∧ (∀ r s, (roomStateChanged r s).loopSide = s.loopSide) ∧
    (∀ k s, (kitchenChanged k s).loopSide = s.loopSide) ∧ (∀ r g s, (recomposeRoom r g s).loopSide = s.loopSide) ∧
    (∀ a s, (refreshFace a s).loopSide = s.loopSide) ∧ (∀ s, (resetComposer s).loopSide = s.loopSide) :=
  ⟨fun _ _ _ => rfl, fun _ _ => rfl, fun _ _ => rfl, fun _ _ => rfl, fun _ _ => rfl, fun _ _ _ => rfl,
    fun _ _ => rfl, fun _ => rfl⟩

/-! ## The Catering Scheduler -/

@[simp] theorem catering_updates_loopSide :
    (∀ k qd load s, (addLoad k qd load s).loopSide = s.loopSide) ∧
    (∀ k qd load s, (subtractLoad k qd load s).loopSide = s.loopSide) ∧
    (∀ k f s, (changeTickets k f s).loopSide = s.loopSide) ∧
    (∀ id f s, (updOrder id f s).loopSide = s.loopSide) :=
  ⟨fun _ _ _ _ => rfl, fun _ _ _ _ => rfl, fun _ _ _ => rfl, fun _ _ _ => rfl⟩

@[simp] theorem removeTicket_loopSide (k id s) : (removeTicket k id s).loopSide = s.loopSide := by simp [removeTicket]

@[simp] theorem judgeTicket_loopSide (k g s t) : (judgeTicket k g s t).loopSide = s.loopSide := by
  unfold judgeTicket
  dsimp only
  (repeat' split) <;> simp

@[simp] theorem releaseOrder_loopSide (id s) : (releaseOrder id s).loopSide = s.loopSide := by
  unfold releaseOrder
  (repeat' split) <;> simp

@[simp] theorem retireOrder_loopSide (id o s) : (retireOrder id o s).loopSide = s.loopSide := by simp [retireOrder]

@[simp] theorem placeOrder_loopSide (id j s) : (placeOrder id j s).loopSide = s.loopSide := by
  unfold placeOrder
  dsimp only
  (repeat' split) <;> simp

@[simp] theorem acceptTicket_loopSide (c s) : (acceptTicket c s).loopSide = s.loopSide := by
  unfold acceptTicket
  split <;> simp

@[simp] theorem deliverTicket_loopSide (c s) : (deliverTicket c s).loopSide = s.loopSide := by
  unfold deliverTicket
  split <;> simp

/-! ## The admission queue -/

@[simp] theorem queue_updates_loopSide :
    (∀ r s, (joinQueue r s).loopSide = s.loopSide) ∧ (∀ s, (endFlight s).loopSide = s.loopSide) ∧
    (∀ f s, (setFlight f s).loopSide = s.loopSide) :=
  ⟨fun _ _ => rfl, fun _ => rfl, fun _ _ => rfl⟩

@[simp] theorem setPending_loopSide (r b s) : (setPending r b s).loopSide = s.loopSide := rfl

@[simp] theorem triggerVacate_loopSide (r s) : (triggerVacate r s).loopSide = s.loopSide := by simp [triggerVacate]

@[simp] theorem queuePendingVacate_loopSide (s) : (queuePendingVacate s).loopSide = s.loopSide := by
  unfold queuePendingVacate
  split
  · simp
  · split <;> simp

/-! ## The Booking Store -/

@[simp] theorem store_updates_loopSide :
    (∀ cells s, (freeCells cells s).loopSide = s.loopSide) ∧ (∀ room r s, (insertInto room r s).loopSide = s.loopSide) ∧
    (∀ id s, (recomputeRetire id s).loopSide = s.loopSide) :=
  ⟨fun _ _ => rfl, fun _ _ _ => rfl, fun _ _ => rfl⟩

@[simp] theorem allocate_loopSide (n s) : (allocate n s).loopSide = s.loopSide := by simp [allocate]

@[simp] theorem removeFrom_loopSide (room id s) : (removeFrom room id s).loopSide = s.loopSide := by simp [removeFrom]

@[simp] theorem triggerOnInsert_loopSide (state room s) :
    (triggerOnInsert state room s).loopSide = s.loopSide := by simp [triggerOnInsert]

@[simp] theorem placeInto_loopSide (room r s) : (placeInto room r s).loopSide = s.loopSide := by simp [placeInto]

@[simp] theorem insertRecord_loopSide (r s) : (insertRecord r s).loopSide = s.loopSide := by simp [insertRecord]

@[simp] theorem insertBeside_loopSide (id s) : (insertBeside id s).loopSide = s.loopSide := by
  unfold insertBeside
  split
  · simp
  · split <;> simp

@[simp] theorem removeRecord_loopSide (r s) :
    (removeRecord r s).loopSide = s.loopSide := foldl_loopSide (fun s q => removeFrom_loopSide q r.id s) _ s

@[simp] theorem retire_loopSide (id s) : (retire id s).loopSide = s.loopSide := by
  unfold retire
  split
  · simp
  · split <;> simp

@[simp] theorem joinRetireList_loopSide (id s) : (joinRetireList id s).loopSide = s.loopSide := by
  unfold joinRetireList
  split <;> simp

@[simp] theorem releaseRecord_loopSide (id reason s) : (releaseRecord id reason s).loopSide = s.loopSide := by
  unfold releaseRecord
  split <;> simp

@[simp] theorem release_loopSide (id reason s) : (release id reason s).loopSide = s.loopSide := by simp [release]

@[simp] theorem editRecord_loopSide (r f s) : (editRecord r f s).loopSide = s.loopSide := by simp [editRecord]

/-! ## Attendance -/

@[simp] theorem setScan_loopSide (w s) : (setScan w s).loopSide = s.loopSide := rfl

@[simp] theorem armDue_loopSide (g id s) : (armDue g id s).loopSide = s.loopSide := by
  unfold armDue
  split <;> simp

@[simp] theorem absenceDue_loopSide (g id s) : (absenceDue g id s).loopSide = s.loopSide := by
  unfold absenceDue
  split <;> simp

@[simp] theorem endDue_loopSide (g id s) : (endDue g id s).loopSide = s.loopSide := by
  unfold endDue
  split <;> simp

@[simp] theorem retireDue_loopSide (g id s) : (retireDue g id s).loopSide = s.loopSide := by
  unfold retireDue
  split <;> simp

@[simp] theorem scanRecord_loopSide (g s id) : (scanRecord g s id).loopSide = s.loopSide := by simp [scanRecord]

@[simp] theorem scanList_loopSide (r g s) : (scanList r g s).loopSide = s.loopSide := by simp [scanList]

@[simp] theorem scanRetireList_loopSide (g s) : (scanRetireList g s).loopSide = s.loopSide := by simp [scanRetireList]

@[simp] theorem beginScan_loopSide (s) : (beginScan s).loopSide = s.loopSide := by
  unfold beginScan
  split <;> simp

@[simp] theorem scanPiece_loopSide (s) : (scanPiece s).loopSide = s.loopSide := by
  unfold scanPiece
  dsimp only
  (repeat' split) <;> simp

@[simp] theorem scanPieces_loopSide (n : Nat) (s : State) : (scanPieces n s).loopSide = s.loopSide := by
  induction n generalizing s with
  | zero => rfl
  | succ n ih => simp [scanPieces, ih]

@[simp] theorem checkIn_loopSide (target badge s) : (checkIn target badge s).loopSide = s.loopSide := by simp [checkIn]

@[simp] theorem judgeTap_loopSide (t s) : (judgeTap t s).loopSide = s.loopSide := by
  unfold judgeTap
  (repeat' split) <;> simp

@[simp] theorem takeTap_loopSide (s) : (takeTap s).loopSide = s.loopSide := by
  unfold takeTap
  split <;> simp

/-! ## The Admission Engine -/

@[simp] theorem engine_updates_loopSide :
    (∀ f step s, (advance f step s).loopSide = s.loopSide) ∧ (∀ r s, (addRecord r s).loopSide = s.loopSide) ∧
    (∀ f s, (placedThen f s).loopSide = s.loopSide) :=
  ⟨fun _ _ _ => rfl, fun _ _ => rfl, fun _ _ => rfl⟩

@[simp] theorem offerUplink_loopSide (via k r s) : (offerUplink via k r s).loopSide = s.loopSide :=
  by simp [offerUplink]

@[simp] theorem takeBook_loopSide (via ask s) : (takeBook via ask s).loopSide = s.loopSide := by simp [takeBook]

@[simp] theorem takeModify_loopSide (via ask s) : (takeModify via ask s).loopSide = s.loopSide := by simp [takeModify]

@[simp] theorem takeCancel_loopSide (via id s) : (takeCancel via id s).loopSide = s.loopSide := by simp [takeCancel]

@[simp] theorem complete_loopSide (f up panel s) : (complete f up panel s).loopSide = s.loopSide := by
  unfold complete
  split <;> simp

@[simp] theorem refuse_loopSide (f r named s) : (refuse f r named s).loopSide = s.loopSide := by simp [refuse]

@[simp] theorem refuseMalformed_loopSide (f s) : (refuseMalformed f s).loopSide = s.loopSide :=
  by simp [refuseMalformed]

@[simp] theorem checkOr_loopSide (ok f r next s) : (checkOr ok f r next s).loopSide = s.loopSide := by simp [checkOr]

@[simp] theorem actOnJudgement_loopSide (j required f s) : (actOnJudgement j required f s).loopSide = s.loopSide := by
  unfold actOnJudgement
  split <;> simp

@[simp] theorem bookConflict_loopSide (ask f s) : (bookConflict ask f s).loopSide = s.loopSide := by
  unfold bookConflict
  dsimp only
  (repeat' split) <;> simp

@[simp] theorem bookCheck_loopSide (ask f step s) : (bookCheck ask f step s).loopSide = s.loopSide := by
  unfold bookCheck
  (repeat' split) <;> simp

@[simp] theorem placeSettled_loopSide (id t s) : (placeSettled id t s).loopSide = s.loopSide := by
  unfold placeSettled
  split <;> simp

@[simp] theorem insertThen_loopSide (r : Record) (refused : Option BookingId) (f : Flight) {onward : State → State}
    (h : ∀ s, (onward s).loopSide = s.loopSide) (s : State) :
    (insertThen r refused f onward s).loopSide = s.loopSide := by
  unfold insertThen
  dsimp only
  split <;> simp [h]

@[simp] theorem completeIfServed_loopSide (s) : (completeIfServed s).loopSide = s.loopSide := by
  unfold completeIfServed
  split <;> simp

@[simp] theorem finishBook_loopSide (id f s) : (finishBook id f s).loopSide = s.loopSide := by simp [finishBook]

@[simp] theorem placeBook_loopSide (ask f s) : (placeBook ask f s).loopSide = s.loopSide := by simp [placeBook]

@[simp] theorem modifyOrder_loopSide (ask f r s) : (modifyOrder ask f r s).loopSide = s.loopSide := by
  unfold modifyOrder
  (repeat' split) <;> simp

@[simp] theorem restoreTaken_loopSide (t first f s) : (restoreTaken t first f s).loopSide = s.loopSide := by
  unfold restoreTaken
  dsimp only
  (repeat' split) <;> simp

@[simp] theorem refuseConflict_loopSide (first f s) : (refuseConflict first f s).loopSide = s.loopSide := by
  unfold refuseConflict
  split <;> simp

@[simp] theorem modifyConflict_loopSide (ask f r s) : (modifyConflict ask f r s).loopSide = s.loopSide := by
  unfold modifyConflict
  dsimp only
  (repeat' split) <;> simp

@[simp] theorem modifyTimes_loopSide (ask f r s) : (modifyTimes ask f r s).loopSide = s.loopSide := by
  unfold modifyTimes
  split <;> simp

@[simp] theorem modifyCheckRecord_loopSide (ask f r step s) :
    (modifyCheckRecord ask f r step s).loopSide = s.loopSide := by
  unfold modifyCheckRecord
  (repeat' split) <;> simp

@[simp] theorem modifyCheck_loopSide (ask f step s) : (modifyCheck ask f step s).loopSide = s.loopSide := by
  unfold modifyCheck
  (repeat' split) <;> simp

@[simp] theorem resizeRecord_loopSide (r n s) : (resizeRecord r n s).loopSide = s.loopSide := by simp [resizeRecord]

@[simp] theorem subtractOwn_loopSide (r s) : (subtractOwn r s).loopSide = s.loopSide := by
  unfold subtractOwn
  split <;> simp

@[simp] theorem settleOrder_loopSide (r t s) : (settleOrder r t s).loopSide = s.loopSide := by
  unfold settleOrder
  split <;> simp

@[simp] theorem applyFields_loopSide (ask f r s) : (applyFields ask f r s).loopSide = s.loopSide :=
  by simp [applyFields]

@[simp] theorem takeModified_loopSide (ask bookings f s) : (takeModified ask bookings f s).loopSide = s.loopSide := by
  unfold takeModified
  split <;> simp

@[simp] theorem finishModify_loopSide (id f s) : (finishModify id f s).loopSide = s.loopSide := by simp [finishModify]

@[simp] theorem placeModified_loopSide (ask f s) : (placeModified ask f s).loopSide = s.loopSide := by
  unfold placeModified
  dsimp only
  (repeat' split) <;> simp

@[simp] theorem partnerStep_loopSide (refused f s) : (partnerStep refused f s).loopSide = s.loopSide := by
  unfold partnerStep
  (repeat' split) <;> simp

@[simp] theorem cancelStep_loopSide (id f s) : (cancelStep id f s).loopSide = s.loopSide := by
  unfold cancelStep
  split
  · simp
  · split <;> simp

@[simp] theorem placeWalkIn_loopSide (room n sp f s) : (placeWalkIn room n sp f s).loopSide = s.loopSide :=
  by simp [placeWalkIn]

@[simp] theorem bookNowAtStore_loopSide (room f s) : (bookNowAtStore room f s).loopSide = s.loopSide := by
  unfold bookNowAtStore
  dsimp only
  (repeat' split) <;> simp

@[simp] theorem bookNowCheck_loopSide (room choice f step s) :
    (bookNowCheck room choice f step s).loopSide = s.loopSide := by
  unfold bookNowCheck
  split <;> simp

@[simp] theorem extendAtStore_loopSide (room f s) : (extendAtStore room f s).loopSide = s.loopSide := by
  unfold extendAtStore
  dsimp only
  (repeat' split) <;> simp

@[simp] theorem extendCheck_loopSide (room f step s) : (extendCheck room f step s).loopSide = s.loopSide := by
  unfold extendCheck
  split <;> simp

@[simp] theorem endNowAtStore_loopSide (room f s) : (endNowAtStore room f s).loopSide = s.loopSide := by
  unfold endNowAtStore
  split <;> simp

@[simp] theorem endNowCheck_loopSide (room f step s) : (endNowCheck room f step s).loopSide = s.loopSide := by
  unfold endNowCheck
  split <;> simp

@[simp] theorem checkStep_loopSide (f step s) : (checkStep f step s).loopSide = s.loopSide := by
  unfold checkStep
  split <;> simp

@[simp] theorem placeStep_loopSide (f s) : (placeStep f s).loopSide = s.loopSide := by
  unfold placeStep
  split <;> simp

@[simp] theorem admissionStep_loopSide (s) : (admissionStep s).loopSide = s.loopSide := by
  unfold admissionStep
  split
  · rfl
  · rename_i f _
    cases f.phase with
    | take bookings => cases f.request <;> simp
    | serve => cases f.request <;> simp
    | _ => simp

@[simp] theorem engineStep_loopSide {f : State → State} (h : ∀ s, (f s).loopSide = s.loopSide) (s : State) :
    (engineStep f s).loopSide = s.loopSide := by
  unfold engineStep whenPowered
  split <;> simp [h]

@[simp] theorem judgeWhole_loopSide (p : Request → Bool) (n : Nat) (s : State) :
    (judgeWhole p n s).loopSide = s.loopSide := by
  induction n generalizing s with
  | zero => rfl
  | succ n ih =>
    unfold judgeWhole
    (repeat' split) <;> simp [ih]

/-! ## Boundary work -/

@[simp] theorem boundary_updates_loopSide :
    (∀ w s, (setPass w s).loopSide = s.loopSide) ∧ (∀ w s, (setRecompose w s).loopSide = s.loopSide) :=
  ⟨fun _ _ => rfl, fun _ _ => rfl⟩

@[simp] theorem beginPass_loopSide (s) : (beginPass s).loopSide = s.loopSide := by
  unfold beginPass
  split <;> simp

@[simp] theorem beginRecompose_loopSide (s) : (beginRecompose s).loopSide = s.loopSide := by
  unfold beginRecompose
  split <;> simp

@[simp] theorem recomposePiece_loopSide (s) : (recomposePiece s).loopSide = s.loopSide := by
  unfold recomposePiece
  dsimp only
  (repeat' split) <;> simp

@[simp] theorem recomposePieces_loopSide (n : Nat) (s : State) : (recomposePieces n s).loopSide = s.loopSide := by
  induction n generalizing s with
  | zero => rfl
  | succ n ih => simp [recomposePieces, ih]

@[simp] theorem takeRecompose_loopSide (pieces s) : (takeRecompose pieces s).loopSide = s.loopSide :=
  by simp [takeRecompose]

@[simp] theorem takePantryCall_loopSide (delivered : Bool) {judge : PantryCall → State → State}
    (h : ∀ c s, (judge c s).loopSide = s.loopSide) (s : State) :
    (takePantryCall delivered judge s).loopSide = s.loopSide := by
  unfold takePantryCall
  split <;> simp [h]

/-! ## The load pages, and the answer to a set -/

@[simp] theorem pages_updates_loopSide :
    (∀ g s, (raiseBoundary g s).loopSide = s.loopSide) ∧
    (∀ old new s, (raiseRollover old new s).loopSide = s.loopSide) ∧
    (∀ f s, (updPages f s).loopSide = s.loopSide) ∧ (∀ r s, (applyRollover r s).loopSide = s.loopSide) ∧
    (∀ n s, (tagPages n s).loopSide = s.loopSide) :=
  ⟨fun _ _ => rfl, fun _ _ _ => rfl, fun _ _ => rfl, fun _ _ => rfl, fun _ _ => rfl⟩

@[simp] theorem takeRollover_loopSide (s) : (takeRollover s).loopSide = s.loopSide := by
  unfold takeRollover
  split <;> simp

@[simp] theorem drainRollovers_loopSide (s) : (drainRollovers s).loopSide = s.loopSide := by simp [drainRollovers]

@[simp] theorem cutOrder_loopSide (s id) : (cutOrder s id).loopSide = s.loopSide := by
  unfold cutOrder
  split
  · simp
  · split <;> simp

@[simp] theorem addLoads_loopSide (s os) : (addLoads s os).loopSide = s.loopSide := by simp [addLoads]

@[simp] theorem realignPage_loopSide (n s i) : (realignPage n s i).loopSide = s.loopSide := by simp [realignPage]

@[simp] theorem realign_loopSide (n s) : (realign n s).loopSide = s.loopSide := by simp [realign]

@[simp] theorem dayChanged_loopSide (old new s) : (dayChanged old new s).loopSide = s.loopSide := by simp [dayChanged]

@[simp] theorem answerSet_loopSide (via jump delta s) : (answerSet via jump delta s).loopSide = s.loopSide :=
  by simp [answerSet]

@[simp] theorem raiseJump_loopSide (jump delta s) : (raiseJump jump delta s).loopSide = s.loopSide :=
  by simp [raiseJump]

@[simp] theorem takeClockRead_loopSide (via s) : (takeClockRead via s).loopSide = s.loopSide := by simp [takeClockRead]

/-! ## Table access -/

@[simp] theorem markOverlay_loopSide (k old new s) : (markOverlay k old new s).loopSide = s.loopSide := rfl

@[simp] theorem answerWrite_loopSide (via : Via) (table index n : Nat) (w : Written) :
    (answerWrite via table index n w).loopSide = w.state.loopSide := respond_loopSide ..

@[simp] theorem roomStateTold_loopSide (r old s) : (roomStateTold r old s).loopSide = s.loopSide :=
  by simp [roomStateTold]

@[simp] theorem roomNameTold_loopSide (r old s) : (roomNameTold r old s).loopSide = s.loopSide := by simp [roomNameTold]

@[simp] theorem writeRoom_loopSide (index w s) : (writeRoom index w s).state.loopSide = s.loopSide := by
  unfold writeRoom
  split <;> simp

@[simp] theorem writeItem_loopSide (index w s) : (writeItem index w s).state.loopSide = s.loopSide := by
  unfold writeItem
  split <;> simp

@[simp] theorem writeKitchen_loopSide (index w s) : (writeKitchen index w s).state.loopSide = s.loopSide := by
  unfold writeKitchen
  split <;> simp

@[simp] theorem judgeProfile_loopSide (k w s) : (judgeProfile k w s).loopSide = s.loopSide := by
  unfold judgeProfile
  split <;> simp

@[simp] theorem writeProfile_loopSide (index w s) : (writeProfile index w s).state.loopSide = s.loopSide := by
  unfold writeProfile
  split <;> simp

@[simp] theorem writeOverlay_loopSide (index w s) : (writeOverlay index w s).state.loopSide = s.loopSide := by
  unfold writeOverlay
  split <;> simp

@[simp] theorem writeDisposition_loopSide (index action level s) :
    (writeDisposition index action level s).state.loopSide = s.loopSide := by
  unfold writeDisposition
  split <;> simp

@[simp] theorem takeTableRead_loopSide (via table index s) :
    (takeTableRead via table index s).loopSide = s.loopSide := by simp [takeTableRead]

/-! ## Panel text and overlays -/

@[simp] theorem chooseOverlay_loopSide (as c s) : (chooseOverlay as c s).loopSide = s.loopSide := rfl

@[simp] theorem applyText_loopSide (via a us s) : (applyText via a us s).loopSide = s.loopSide := by simp [applyText]

@[simp] theorem takeText_loopSide (via address units s) : (takeText via address units s).loopSide = s.loopSide := by
  unfold takeText
  split <;> simp

@[simp] theorem takeOverlay_loopSide (via target choice s) :
    (takeOverlay via target choice s).loopSide = s.loopSide := by
  unfold takeOverlay
  split <;> simp

/-! ## Moves -/

@[simp] theorem releaseFrame_loopSide (c m s) : (releaseFrame c m s).loopSide = s.loopSide := by
  unfold releaseFrame
  split <;> simp

@[simp] theorem pushFrame_loopSide (p m) : (pushFrame p m).2.loopSide = p.2.loopSide := by
  unfold pushFrame
  dsimp only
  (repeat' split) <;> simp

/-- The pushes of a displacement, in turn. -/
@[simp] theorem pushFrames_loopSide (l : List MoveFrame) (p : Flight × State) :
    (l.foldl pushFrame p).2.loopSide = p.2.loopSide := by
  induction l generalizing p with
  | nil => rfl
  | cons m l ih => rw [List.foldl_cons, ih, pushFrame_loopSide]

@[simp] theorem makeMoving_loopSide (s r) : (makeMoving s r).loopSide = s.loopSide := by simp [makeMoving]

@[simp] theorem displace_loopSide (ids depth next f s) : (displace ids depth next f s).loopSide = s.loopSide := by
  simp [displace]

@[simp] theorem judgeDisplacement_loopSide (ids depth granted refused f s) :
    (judgeDisplacement ids depth granted refused f s).loopSide = s.loopSide := by simp [judgeDisplacement]

@[simp] theorem displacementStep_loopSide (s) : (displacementStep s).loopSide = s.loopSide := by
  unfold displacementStep
  split
  · simp
  · split <;> simp

@[simp] theorem popFrame_loopSide (m rest f s) : (popFrame m rest f s).loopSide = s.loopSide := rfl

@[simp] theorem unplace_loopSide (t f s) : (unplace t f s).loopSide = s.loopSide := by simp [unplace]

@[simp] theorem endPass_loopSide (t f s) : (endPass t f s).loopSide = s.loopSide := by simp [endPass]

@[simp] theorem tryAlternate_loopSide (t f s) : (tryAlternate t f s).loopSide = s.loopSide := by
  unfold tryAlternate
  split
  · simp
  · split <;> simp

@[simp] theorem recheckAlternate_loopSide (t f s) : (recheckAlternate t f s).loopSide = s.loopSide := by
  unfold recheckAlternate
  split <;> simp

@[simp] theorem advancePointer_loopSide (t s) : (advancePointer t s).loopSide = s.loopSide := rfl

@[simp] theorem vacateLeft_loopSide (v s) : (vacateLeft v s).loopSide = s.loopSide := by
  unfold vacateLeft
  split <;> simp

@[simp] theorem readVacated_loopSide (v f s) : (readVacated v f s).loopSide = s.loopSide := by
  unfold readVacated
  (repeat' split) <;> simp

@[simp] theorem popEmpty_loopSide (f s) : (popEmpty f s).loopSide = s.loopSide := by
  unfold popEmpty
  split <;> simp

@[simp] theorem vacateStep_loopSide (s) : (vacateStep s).loopSide = s.loopSide := by
  unfold vacateStep
  split
  · simp
  · split <;> simp

/-! ## Notices -/

@[simp] theorem notices_updates_loopSide :
    (∀ q l s, (setNotices q l s).loopSide = s.loopSide) ∧ (∀ q s, (flushQueue q s).loopSide = s.loopSide) :=
  ⟨fun _ _ _ => rfl, fun _ _ => rfl⟩

@[simp] theorem takePeek_loopSide (via queue s) : (takePeek via queue s).loopSide = s.loopSide := by
  unfold takePeek
  split <;> simp

@[simp] theorem takeNotices_loopSide (via q count s) : (takeNotices via q count s).loopSide = s.loopSide :=
  by simp [takeNotices]

@[simp] theorem takeTake_loopSide (via queue count s) : (takeTake via queue count s).loopSide = s.loopSide := by
  unfold takeTake
  split <;> simp

@[simp] theorem takeFlush_loopSide (via queue s) : (takeFlush via queue s).loopSide = s.loopSide := by
  unfold takeFlush
  split <;> simp

@[simp] theorem takeAlertClear_loopSide (via mask s) :
    (takeAlertClear via mask s).loopSide = s.loopSide := by simp [takeAlertClear]

@[simp] theorem takeCounters_loopSide (via clear s) : (takeCounters via clear s).loopSide = s.loopSide :=
  by simp [takeCounters]

@[simp] theorem applyHold_loopSide (h s) : (applyHold h s).loopSide = s.loopSide := by
  unfold applyHold
  split
  · split <;> simp
  · simp

@[simp] theorem takeHold_loopSide (s) : (takeHold s).loopSide = s.loopSide := by
  unfold takeHold
  split <;> simp

@[simp] theorem takeQuery_loopSide (via id s) : (takeQuery via id s).loopSide = s.loopSide := by
  unfold takeQuery
  split <;> simp

@[simp] theorem takeList_loopSide (via room day start s) : (takeList via room day start s).loopSide = s.loopSide := by
  unfold takeList
  split <;> simp

/-! ## The ports -/

@[simp] theorem ports_updates_loopSide :
    (∀ s, (dropUplink s).loopSide = s.loopSide) ∧ (∀ s, (dropCascade s).loopSide = s.loopSide) ∧
    (∀ f s, (forwardDown f s).loopSide = s.loopSide) :=
  ⟨fun _ => rfl, fun _ => rfl, fun _ _ => rfl⟩

@[simp] theorem takePartReset_loopSide (via s) : (takePartReset via s).loopSide = s.loopSide := by simp [takePartReset]

@[simp] theorem forwardUp_loopSide (f s) : (forwardUp f s).loopSide = s.loopSide := by simp [forwardUp]

@[simp] theorem cascadeFrame_loopSide (f s) : (cascadeFrame f s).loopSide = s.loopSide := by
  unfold cascadeFrame
  split
  · simp
  · split <;> simp

@[simp] theorem setLink_loopSide (uplink up s) : (setLink uplink up s).loopSide = s.loopSide := by simp [setLink]

/-! ## Resets -/

@[simp] theorem resets_updates_loopSide :
    (∀ straps s, (readStraps straps s).loopSide = s.loopSide) ∧ (∀ s, (discardUnsent s).loopSide = s.loopSide) ∧
    (∀ b s, (setResetLine b s).loopSide = s.loopSide) :=
  ⟨fun _ _ => rfl, fun _ => rfl, fun _ _ => rfl⟩

@[simp] theorem settleHolds_loopSide (s) : (settleHolds s).loopSide = s.loopSide := by
  rw [settleHolds, foldl_loopSide fun s h => applyHold_loopSide h s]
  rfl

/-! ## The clock -/

@[simp] theorem clock_updates_loopSide :
    (∀ detail s, (haltClock detail s).loopSide = s.loopSide) ∧
    (∀ day minute second s, (loadClock day minute second s).loopSide = s.loopSide) :=
  ⟨fun _ _ => rfl, fun _ _ _ _ => rfl⟩

@[simp] theorem countSecond_loopSide (s) : (countSecond s).loopSide = s.loopSide := by simp [countSecond]

@[simp] theorem referenceEdge_loopSide (s) : (referenceEdge s).loopSide = s.loopSide :=
  by simp [referenceEdge, countEdge]

@[simp] theorem referenceLost_loopSide (s) : (referenceLost s).loopSide = s.loopSide := by simp [referenceLost]

@[simp] theorem takeClockSet_loopSide (via day minute second force s) :
    (takeClockSet via day minute second force s).loopSide = s.loopSide := by
  unfold takeClockSet
  (repeat' split) <;> simp [setUnset, setHalted, setRunning]


end Sys2Proof.Machine
end

section
/-!
SUPPORT. What the end of an own frame does (R126, R140 to R142, R144, R148 to R150): the content that comes back, the
panel that is judged, and the echo that is answered, each said once as the state it leaves.
-/

namespace Sys2Proof.Machine

/-! ## Occurrences about a panel -/

/-- A hold for a panel reads the panels' kinds and bindings alone (R154). -/
theorem holdTarget_congr {s t : State}
    (h : ∀ a, (t.panels.get a).kind = (s.panels.get a).kind ∧ (t.panels.get a).binding = (s.panels.get a).binding)
    (u : Subject) (r : Option RoomNo) : holdTarget t u r = holdTarget s u r := by
  cases u
  case panel n =>
    unfold holdTarget
    dsimp only
    split
    · rfl
    next a _ => simp only [Panel.room?, Panel.kitchen?, (h a).1, (h a).2]
  all_goals rfl

/-- What an occurrence does does not hang on a panel's state, counts or queues. -/
theorem raisePanel_updPanel (c : ExcClass) (n d : Nat) (a : Addr) {f : Panel → Panel} (s : State)
    (h : ∀ p, (f p).kind = p.kind ∧ (f p).binding = p.binding) :
    raisePanel c n d (updPanel a f s) = updPanel a f { s with exceptions := (raisePanel c n d s).exceptions } := by
  have hold : holdTarget (updPanel a f s) (.panel n) none = holdTarget s (.panel n) none := by
    refine holdTarget_congr (fun b => ?_) _ _
    simp only [updPanel, Tab.get_upd]
    split
    next hb => exact hb ▸ h _
    next => exact ⟨rfl, rfl⟩
  unfold raisePanel
  rw [raise_eq, raise_exceptions_congr (s := updPanel a f s) (u := s) c _ _ _ rfl rfl rfl hold]
  rfl

/-! ## The panel of an own frame (R144) -/

/-- A panel after a miss. -/
def Panel.missed (p : Panel) : Panel :=
  if p.state = .absent ∨ p.state = .muted then p
  else { p with misses := p.misses + 1, state := if 3 ≤ p.misses + 1 then .absent else p.state }

/-- A panel after a success. -/
def Panel.succeeded (p : Panel) : Panel := if p.state = .muted then p else { p with state := .present, misses := 0 }

/-- A panel that has shown itself. -/
def Panel.shown (p : Panel) : Panel :=
  if p.state = .unknown ∨ p.state = .absent then { p with state := .present, misses := 0 } else p

theorem panelMiss_eq (a : Addr) (d : Nat) (s : State) :
    panelMiss a d s = { s with
      panels := s.panels.set a (s.panels.get a).missed
      exceptions :=
        if (s.panels.get a).state = .present ∧ 2 ≤ (s.panels.get a).misses then
          (raisePanel .panelSilent (address a) d s).exceptions
        else s.exceptions } := by
  unfold panelMiss Panel.missed
  dsimp only
  split
  case h_1 h | h_2 h => simp [h]
  case h_3 h => simp [h, updPanel, Tab.upd_eq_set]
  case h_4 h =>
    rw [raisePanel_updPanel _ _ _ _ _ ?_]
    · by_cases h2 : 2 ≤ (s.panels.get a).misses <;> simp [updPanel, Tab.upd_eq_set, h, h2]
    · exact fun _ => ⟨rfl, rfl⟩

theorem panelSeen_eq (a : Addr) (s : State) :
    panelSeen a s = { s with
      panels := s.panels.set a (s.panels.get a).shown
      composer :=
        if (s.panels.get a).state = .absent then
          { s.composer with faces := s.composer.faces.set a (s.composer.faces.get a).wholeMark } else s.composer
      exceptions :=
        if (s.panels.get a).state = .absent then (raisePanel .panelReturned (address a) 0 s).exceptions
        else s.exceptions } := by
  unfold panelSeen Panel.shown panelReturned
  split
  case h_1 h => simp [h, updPanel, Tab.upd_eq_set]
  case h_2 h =>
    rw [raisePanel_updPanel _ _ _ _ _ ?_]
    · simp [h, updPanel, markFace, updFace, Tab.upd_eq_set]
    · exact fun _ => ⟨rfl, rfl⟩
  case h_3 h | h_4 h => simp [h]

theorem panelSuccess_eq (a : Addr) (s : State) :
    panelSuccess a s = { s with
      panels := s.panels.set a (s.panels.get a).succeeded
      composer :=
        if (s.panels.get a).state = .absent then
          { s.composer with faces := s.composer.faces.set a (s.composer.faces.get a).wholeMark } else s.composer
      exceptions :=
        if (s.panels.get a).state = .absent then (raisePanel .panelReturned (address a) 0 s).exceptions
        else s.exceptions } := by
  unfold panelSuccess Panel.succeeded
  split
  case h_1 h => simp [h, updPanel, Tab.upd_eq_set]
  case h_2 h | h_3 h | h_4 h => rw [panelSeen_eq]; simp [h, Panel.shown]

/-! ## The content of an own frame (R126, R148, R149) -/

/-- A panel's queues after the end of an own frame of its own. -/
def Awaited.queuesBack (w : Awaited) (taken : Bool) (p : Panel) : Panel :=
  match w.carried with
  | .reply _ serial => if w.stale then p else { p with replies := repliesBack serial taken p.replies }
  | .ticket _ id => if w.stale then p else { p with tickets := ticketsBack id taken p.tickets }
  | .face _ _ | .beacon | .echo _ => p

/-- A panel's face after it. -/
def Awaited.faceBack (w : Awaited) (taken : Bool) (f : Face) : Face :=
  match w.carried with
  | .face _ row => { f with inFlight := f.inFlight.set row false
                            dirty := if taken then f.dirty else f.dirty.set row true }
  | .reply _ _ | .ticket _ _ | .beacon | .echo _ => f

theorem Awaited.queuesBack_standing (w : Awaited) (taken : Bool) (p : Panel) :
    (w.queuesBack taken p).kind = p.kind ∧ (w.queuesBack taken p).binding = p.binding ∧
      (w.queuesBack taken p).state = p.state ∧ (w.queuesBack taken p).misses = p.misses := by
  unfold queuesBack
  (repeat' split) <;> exact ⟨rfl, rfl, rfl, rfl⟩

/-- An own frame that is for no panel has no content to come back. -/
theorem contentBack_of_none {w : Awaited} (h : w.carried.panel? = none) (taken : Bool) (s : State) :
    contentBack w taken s = s := by
  unfold contentBack
  cases hc : w.carried <;> simp_all [Carried.panel?]

theorem contentBack_of_panel {w : Awaited} {a : Addr} (h : w.carried.panel? = some a) (taken : Bool) (s : State) :
    contentBack w taken s = { s with
      panels := s.panels.set a (w.queuesBack taken (s.panels.get a))
      composer := { s.composer with
        faces := s.composer.faces.set a (w.faceBack taken (s.composer.faces.get a)) } } := by
  unfold contentBack Awaited.queuesBack Awaited.faceBack
  cases hc : w.carried <;> simp only [hc, Carried.panel?, Option.some.injEq, reduceCtorEq] at h <;> subst h
  case face => simp [rowBack, updFace, Tab.upd_eq_set]
  case reply => by_cases hs : w.stale <;> simp [hs, replyBack, updPanel, Tab.upd_eq_set]
  case ticket => by_cases hs : w.stale <;> simp [hs, ticketBack, updPanel, Tab.upd_eq_set]

/-- It changes the panels and the faces alone. -/
theorem contentBack_eq (w : Awaited) (taken : Bool) (s : State) :
    contentBack w taken s = { s with
      panels := (contentBack w taken s).panels
      composer := (contentBack w taken s).composer } := by
  unfold contentBack
  (repeat' split) <;> rfl

theorem applyToPanel_of_none {w : Awaited} (h : w.carried.panel? = none) (f : Addr → State → State) (s : State) :
    applyToPanel w f s = s := by simp [applyToPanel, h]

theorem applyToPanel_of_panel {w : Awaited} {a : Addr} (h : w.carried.panel? = some a) (f : Addr → State → State)
    (s : State) : applyToPanel w f s = if w.stale then s else f a s := by simp [applyToPanel, h]

/-! ## The echo (R150) -/

theorem echoLost_eq (c : Carried) (s : State) :
    echoLost c s = { s with
      loop := { s.loop with echo := (echoLost c s).loop.echo }
      ports := (echoLost c s).ports } := by
  unfold echoLost
  split
  · rw [respond_eq]; rfl
  · rfl

theorem echoLost_of_echo (via : Via) (s : State) :
    echoLost (.echo via) s = respond via .loopEcho (.done (echoContents true 0)) (setEcho .none s) := rfl

theorem echoLost_of_not {c : Carried} (h : ∀ via, c ≠ .echo via) (s : State) : echoLost c s = s := by
  cases c
  case echo via => exact absurd rfl (h via)
  all_goals rfl

theorem echoRefused_eq (s : State) :
    echoRefused s = { s with
      loop := { s.loop with echo := (echoRefused s).loop.echo }
      ports := (echoRefused s).ports } := by
  unfold echoRefused
  split
  · rw [respond_eq]; rfl
  · rfl

theorem echoRefused_of_waiting {s : State} {via : Via} (h : s.loop.echo = .waiting via) :
    echoRefused s = respond via .loopEcho (.refused .loopNotUp) (setEcho .none s) := by simp [echoRefused, h]

theorem echoRefused_of_not {s : State} (h : ∀ via, s.loop.echo ≠ .waiting via) : echoRefused s = s := by
  unfold echoRefused
  split
  next via hv => exact absurd hv (h via)
  next => rfl

/-! ## An awaited frame that does not come home (R137, R142) -/

/-- The awaited record has ended, the miss is counted, and its content and its panel have been dealt with. -/
def frameMissed (w : Awaited) (s : State) : State :=
  applyToPanel w (fun a => panelMiss a 1) (contentBack w false (countMiss (endAwait s)))

theorem applyToPanel_loop (w : Awaited) {f : Addr → State → State} (h : ∀ a s, (f a s).loop = s.loop)
    (s : State) : (applyToPanel w f s).loop = s.loop := by
  unfold applyToPanel
  split
  · split
    exacts [rfl, h _ s]
  · rfl

theorem frameMissed_loop (w : Awaited) (s : State) :
    (frameMissed w s).loop = { s.loop with awaited := none, misses := min (s.loop.misses + 1) 255 } := by
  unfold frameMissed
  rw [applyToPanel_loop _ fun a s => by rw [panelMiss_eq], contentBack_eq]
  rfl

/-- The third loop miss in a row takes a loop that is UP to BROKEN. -/
def Loop.breaks (l : Loop) : Bool := decide (l.state = .up) && decide (3 ≤ min (l.misses + 1) 255)

theorem timedOut_eq (w : Awaited) (s : State) :
    timedOut w s =
      if s.loop.breaks then
        echoRefused (echoLost w.carried (breakLoop w.carried.destination (frameMissed w s)))
      else echoLost w.carried (frameMissed w s) := by
  have hb : (decide ((frameMissed w s).loop.state = .up) && decide (3 ≤ (frameMissed w s).loop.misses)) =
      s.loop.breaks := by rw [frameMissed_loop]; rfl
  unfold frameMissed at hb
  unfold timedOut frameMissed
  simp only [hb]
  split <;> rfl

/-- A timeout ends the awaiting and counts the miss, and breaks a loop that is UP at the third in a row. -/
theorem timedOut_loop (w : Awaited) (s : State) :
    (timedOut w s).loop = { s.loop with
      awaited := none
      misses := min (s.loop.misses + 1) 255
      echo := (timedOut w s).loop.echo
      state := if s.loop.breaks then .broken else s.loop.state } := by
  rw [timedOut_eq]
  split
  · rw [echoRefused_eq, echoLost_eq]
    simp only [breakLoop, raise_frame, updLoop, frameMissed_loop]
  · rw [echoLost_eq]
    simp only [frameMissed_loop]

theorem timedOut_state_ne_down {w : Awaited} {s : State} (h : s.loop.state ≠ .down) :
    (timedOut w s).loop.state ≠ .down := by
  rw [timedOut_loop]
  dsimp only
  split
  exacts [nofun, h]

theorem abandonAwaited_eq (s : State) : abandonAwaited s = { s with
    loop := (abandonAwaited s).loop
    panels := (abandonAwaited s).panels
    composer := (abandonAwaited s).composer
    ports := (abandonAwaited s).ports } := by
  unfold abandonAwaited
  split
  · rw [echoLost_eq, contentBack_eq]; rfl
  · rfl

/-- The frame that is abandoned is awaited no more. -/
theorem abandonAwaited_loop (s : State) : (abandonAwaited s).loop = { s.loop with
    awaited := none, echo := (abandonAwaited s).loop.echo } := by
  unfold abandonAwaited
  split
  next w _ =>
    rw [echoLost_eq, contentBack_eq]
    rfl
  next h => rw [← h]

theorem goDown_eq (s : State) : goDown s = { s with
    loop := (goDown s).loop
    panels := (goDown s).panels
    composer := (goDown s).composer
    exceptions := (goDown s).exceptions
    ports := (goDown s).ports } := by
  unfold goDown
  dsimp only
  rw [echoRefused_eq, abandonAwaited_eq]
  rfl

theorem goDown_loop (s : State) : (goDown s).loop = { s.loop with
    state := .down, awaited := none, held := none, echo := (goDown s).loop.echo } := by
  unfold goDown
  dsimp only
  rw [echoRefused_eq]
  dsimp only
  rw [abandonAwaited_loop]
  rfl

end Sys2Proof.Machine
end

section
/-!
SUPPORT. What every command keeps of the panel loop: legal loop settings, a legal loop and legal panels stay so. The
blocks beside the Loop Controller leave all but the TICKET lists alone; of the Loop Controller's operations, those that
send or hold a frame back do so while the loop is not DOWN.
-/

namespace Sys2Proof.Machine

/-! ## Legality kept -/

/-- Legal loop settings with a legal loop stay so, and each legal panel. -/
def KeepsLoop (s t : State) : Prop :=
  (s.settings.Legal → s.loop.Legal → t.settings.Legal ∧ t.loop.Legal) ∧
    ∀ a, (s.panels.get a).Legal → (t.panels.get a).Legal

theorem KeepsLoop.refl (s : State) : KeepsLoop s s := ⟨fun hs hl => ⟨hs, hl⟩, fun _ h => h⟩

theorem KeepsLoop.trans {s t u : State} (h : KeepsLoop s t) (h' : KeepsLoop t u) : KeepsLoop s u := by
  refine ⟨fun hs hl => ?_, fun a ha => h'.2 a (h.2 a ha)⟩
  obtain ⟨hs, hl⟩ := h.1 hs hl
  exact h'.1 hs hl

theorem Panel.legal_congr {p q : Panel} (h : p.counted = q.counted) : p.Legal ↔ q.Legal := by
  obtain ⟨hp, hn⟩ := Prod.mk.inj h
  have hlegal (p : Panel) : p.Legal ↔ { p with replies := [] }.Legal ∧ p.replies.length ≤ 4 := by
    simp only [Panel.Legal, List.length_nil]
    tauto
  rw [hlegal p, hlegal q, hp, hn]

theorem KeepsLoop.of_loopSide {s t : State} (h : t.loopSide = s.loopSide) : KeepsLoop s t := by
  simp only [State.loopSide, Prod.mk.injEq] at h
  obtain ⟨hs, hl, hp⟩ := h
  refine ⟨fun hs' hl' => by rw [hs, hl]; exact ⟨hs', hl'⟩, fun a ha => ?_⟩
  have h := congrArg (fun t => t.get a) hp
  simp only [Tab.get_map] at h
  exact (Panel.legal_congr h).2 ha

/-- Operations one after another keep what each keeps. -/
theorem KeepsLoop.foldl {α : Type} {f : State → α → State} (h : ∀ s a, KeepsLoop s (f s a)) (l : List α) (s : State) :
    KeepsLoop s (l.foldl f s) := by
  induction l generalizing s with
  | nil => exact .refl s
  | cons a l ih => exact (h s a).trans (ih _)

theorem KeepsLoop.ite {p : Prop} [Decidable p] {s t u : State} (ht : p → KeepsLoop s t) (hu : ¬ p → KeepsLoop s u) :
    KeepsLoop s (if p then t else u) := by
  split
  exacts [ht ‹_›, hu ‹_›]

theorem KeepsLoop.whenTaking {s : State} {f : State → State} (h : KeepsLoop s (f s)) : KeepsLoop s (whenTaking s f) :=
  .ite (fun _ => h) fun _ => .refl s

theorem KeepsLoop.whenPowered {s : State} {f : State → State} (h : KeepsLoop s (f s)) :
    KeepsLoop s (whenPowered s f) := .ite (fun _ => h) fun _ => .refl s

theorem KeepsLoop.whenLive {s : State} {f : State → State} (h : KeepsLoop s (f s)) : KeepsLoop s (whenLive s f) :=
  .ite (fun _ => h) fun _ => .refl s

/-- A change of one panel. -/
theorem KeepsLoop.updPanel {s : State} {a : Addr} {f : Panel → Panel}
    (h : (s.panels.get a).Legal → (f (s.panels.get a)).Legal) : KeepsLoop s (updPanel a f s) := by
  refine ⟨fun hs hl => ⟨hs, hl⟩, fun b hb => ?_⟩
  simp only [Machine.updPanel, Tab.get_upd]
  split
  next hba => exact h (hba ▸ hb)
  next => exact hb

/-- A change of the Loop Controller's own state. -/
theorem KeepsLoop.updLoop {s : State} {f : Loop → Loop} (h : s.loop.Legal → (f s.loop).Legal) :
    KeepsLoop s (updLoop f s) := ⟨fun hs hl => ⟨hs, h hl⟩, fun _ ha => ha⟩

/-! ## TICKET frames handed over (R149) -/

theorem joinTickets_length (s : State) (a : Addr) (f : TicketFrame) {l : List TicketFrame} (h : l.length ≤ 12) :
    (joinTickets s a f l).length ≤ 12 := by
  unfold joinTickets Config.ticketPlaces
  dsimp only
  split
  · simpa
  · split
    · simp only [List.length_append, List.length_singleton]
      omega
    · have hkept := (List.length_filter_le (fun e => ticketInFlight s a e.booking || hasTicket s e.kitchen e.booking) l)
      split
      · simp only [List.length_append, List.length_singleton]
        omega
      · omega

theorem handTicket_keepsLoop (k : KitchenNo) (t : Ticket) (s : State) : KeepsLoop s (handTicket k t s) := by
  unfold handTicket
  split
  · exact .refl s
  next a _ =>
    refine .ite (fun _ => KeepsLoop.updPanel (a := a) (f := fun p => { p with tickets := _ }) fun h => ?_)
      fun _ => .refl s
    obtain ⟨hb, hm, hu, ha, hv, hmu, hc, hr, ht⟩ := h
    exact ⟨hb, hm, hu, ha, hv, hmu, hc, hr, joinTickets_length _ _ _ ht⟩

theorem dispatchOrder_keepsLoop (k : KitchenNo) (g : Nat) (r : Record) (o : Order) (s : State) :
    KeepsLoop s (dispatchOrder k g r o s) :=
  (KeepsLoop.of_loopSide (by simp [updOrder])).trans (handTicket_keepsLoop k _ _)

theorem considerOrder_keepsLoop (k : KitchenNo) (g : Nat) (s : State) (id : BookingId) :
    KeepsLoop s (considerOrder k g s id) := by
  unfold considerOrder
  split
  · exact .refl s
  next r _ =>
    split
    · exact .refl s
    next o _ =>
      have hlate : KeepsLoop s (if o.qd ≤ g ∧ ¬ o.lateMark then
          updOrder id (fun o => { o with lateMark := true }) (raiseFor .ticketLate r k.val s) else s) :=
        .of_loopSide (by simp [updOrder])
      exact .ite (fun _ => hlate.trans (dispatchOrder_keepsLoop k g r o _))
        fun _ => hlate.trans (.of_loopSide (by simp [updOrder]))

theorem passKitchen_keepsLoop (k : KitchenNo) (g : Nat) (s : State) : KeepsLoop s (passKitchen k g s) :=
  (KeepsLoop.foldl (considerOrder_keepsLoop k g) _ s).trans (.of_loopSide (foldl_loopSide (by simp) _ _))

theorem passPiece_keepsLoop (s : State) : KeepsLoop s (passPiece s) := by
  have hbegin : KeepsLoop s (beginPass s) := .of_loopSide (beginPass_loopSide s)
  unfold passPiece
  dsimp only
  split
  · exact hbegin
  · split
    next w _ _ k _ => exact (hbegin.trans (passKitchen_keepsLoop k w.grain _)).trans (.of_loopSide (by simp))
    · exact hbegin.trans (.of_loopSide (by simp))

theorem passPieces_keepsLoop (n : Nat) (s : State) : KeepsLoop s (passPieces n s) := by
  induction n generalizing s with
  | zero => exact .refl s
  | succ n ih => exact .ite (fun _ => passPiece_keepsLoop s) fun _ => (passPiece_keepsLoop s).trans (ih _)

theorem renameTicket_keepsLoop (k : KitchenNo) (id : BookingId) (name : Bytes) (s : State) :
    KeepsLoop s (renameTicket k id name s) := by
  unfold renameTicket
  dsimp only
  split
  · exact (KeepsLoop.of_loopSide (by simp)).trans (handTicket_keepsLoop k _ _)
  · exact .of_loopSide (by simp)

theorem settleMove_keepsLoop (id : BookingId) (alternate : RoomNo) (s : State) :
    KeepsLoop s (settleMove id alternate s) := by
  unfold settleMove
  dsimp only
  split
  · exact .refl s
  next r _ =>
    split
    · exact .refl s
    next o _ =>
      have hrename := renameTicket_keepsLoop o.kitchen id (s.rooms.get alternate).name s
      split
      case h_1 =>
        refine .of_loopSide ?_
        (repeat' split) <;> simp [updOrder]
      case h_2 | h_3 => exact .ite (fun _ => hrename) fun _ => hrename.trans (.of_loopSide (by simp))
      all_goals exact .refl s

theorem placeMove_keepsLoop (t : Trial) (sp : Span) (f : Flight) (s : State) : KeepsLoop s (placeMove t sp f s) := by
  unfold placeMove
  split
  next a r _ _ =>
    have hinsert : KeepsLoop s (insertRecord (r.placedIn a sp (placedState s a r.qs))
        (putRecord (r.placedIn a sp (placedState s a r.qs)) s)) := .of_loopSide (by simp)
    exact (hinsert.trans (settleMove_keepsLoop r.id a _)).trans (.of_loopSide (by simp))
  · exact .of_loopSide (by simp)

theorem moveStep_keepsLoop (s : State) : KeepsLoop s (moveStep s) := by
  unfold moveStep
  split
  · exact .refl s
  · split
    case h_4 => exact placeMove_keepsLoop _ _ _ s
    case h_1 => split <;> exact .of_loopSide (by simp)
    all_goals exact .of_loopSide (by simp)

theorem moveSteps_keepsLoop (n : Nat) (s : State) : KeepsLoop s (moveSteps n s) := by
  induction n generalizing s with
  | zero => exact .refl s
  | succ n ih => exact .ite (fun _ => (moveStep_keepsLoop s).trans (ih _)) fun _ => moveStep_keepsLoop s

theorem engineStep_keepsLoop {f : State → State} (h : ∀ s, KeepsLoop s (f s)) (s : State) :
    KeepsLoop s (engineStep f s) :=
  .whenPowered ((KeepsLoop.of_loopSide (by simp)).trans (h _))

/-! ## The panels (R143, R144, R147 to R149) -/

/-- A change of what a panel is to the loop keeps it legal, where its counts do. -/
theorem KeepsLoop.of_panel {s t : State} {a : Addr} {p : Panel} (hs : t.settings = s.settings) (hl : t.loop = s.loop)
    (hp : t.panels = s.panels.set a p) (h : (s.panels.get a).Legal → p.Legal) : KeepsLoop s t := by
  refine ⟨fun hs' hl' => by rw [hs, hl]; exact ⟨hs', hl'⟩, fun b hb => ?_⟩
  rw [hp, Tab.get_set]
  split
  next hba => exact h (hba ▸ hb)
  next => exact hb

theorem Panel.Legal.missed {p : Panel} (h : p.Legal) : p.missed.Legal := by
  obtain ⟨hb, hm, hu, ha, hv, hmu, hc, hr, ht⟩ := h
  unfold Panel.missed
  split
  · exact ⟨hb, hm, hu, ha, hv, hmu, hc, hr, ht⟩
  next hs =>
    have hstate : p.state = .unknown ∨ p.state = .present := by cases h : p.state <;> simp_all
    have hm2 := hu hstate
    have hv3 : p.violations ≠ 3 := fun h3 => hs (.inr (hmu.1 h3))
    refine ⟨hb, ?_, ?_, ?_, hv, ?_, hc, hr, ht⟩ <;> dsimp only
    · omega
    · split
      · simp
      · omega
    · split
      · omega
      · exact fun h => absurd (.inl h) hs
    · split
      · simpa
      · exact hmu

theorem Panel.Legal.present {p : Panel} (h : p.Legal) (hs : p.state ≠ .muted) :
    { p with state := .present, misses := 0 }.Legal := by
  obtain ⟨hb, -, -, -, hv, hmu, hc, hr, ht⟩ := h
  have hv3 : p.violations ≠ 3 := fun h3 => hs (hmu.1 h3)
  exact ⟨hb, by simp, by simp, by simp, hv, by simpa, hc, hr, ht⟩

theorem Panel.Legal.succeeded {p : Panel} (h : p.Legal) : p.succeeded.Legal := by
  unfold Panel.succeeded
  split
  exacts [h, h.present ‹_›]

theorem Panel.Legal.shown {p : Panel} (h : p.Legal) : p.shown.Legal := by
  unfold Panel.shown
  split
  next hs => exact h.present (by rintro hm; simp [hm] at hs)
  next => exact h

theorem repliesBack_length (serial : Nat) (taken : Bool) (l : List ReplyEntry) :
    (repliesBack serial taken l).length ≤ l.length := by
  unfold repliesBack
  split
  · exact List.length_filter_le ..
  · rw [List.length_map]

theorem ticketsBack_length (id : BookingId) (taken : Bool) (l : List TicketFrame) :
    (ticketsBack id taken l).length ≤ l.length := by
  unfold ticketsBack
  rw [List.length_map]
  split
  · exact List.length_filter_le ..
  · exact le_rfl

/-- Shorter queues stay within their bounds. -/
theorem Panel.Legal.queues {p q : Panel} (h : p.Legal) (hq : { p with replies := q.replies, tickets := q.tickets } = q)
    (hr : q.replies.length ≤ p.replies.length) (ht : q.tickets.length ≤ p.tickets.length) : q.Legal := by
  obtain ⟨hb, hm, hu, ha, hv, hmu, hc, hr', ht'⟩ := h
  rw [← hq]
  exact ⟨hb, hm, hu, ha, hv, hmu, hc, hr.trans hr', ht.trans ht'⟩

theorem Panel.Legal.queuesBack {p : Panel} (h : p.Legal) (w : Awaited) (taken : Bool) :
    (w.queuesBack taken p).Legal := by
  unfold Awaited.queuesBack
  split
  · split
    exacts [h, h.queues rfl (repliesBack_length ..) le_rfl]
  · split
    exacts [h, h.queues rfl le_rfl (ticketsBack_length ..)]
  all_goals exact h

theorem panelMiss_keepsLoop (a : Addr) (d : Nat) (s : State) : KeepsLoop s (panelMiss a d s) := by
  rw [panelMiss_eq]
  exact .of_panel (a := a) rfl rfl rfl fun h => h.missed

theorem panelSeen_keepsLoop (a : Addr) (s : State) : KeepsLoop s (panelSeen a s) := by
  rw [panelSeen_eq]
  exact .of_panel (a := a) rfl rfl rfl fun h => h.shown

theorem panelSuccess_keepsLoop (a : Addr) (s : State) : KeepsLoop s (panelSuccess a s) := by
  rw [panelSuccess_eq]
  exact .of_panel (a := a) rfl rfl rfl fun h => h.succeeded

theorem contentBack_keepsLoop (w : Awaited) (taken : Bool) (s : State) : KeepsLoop s (contentBack w taken s) := by
  cases h : w.carried.panel? with
  | none => rw [contentBack_of_none h]; exact .refl s
  | some a =>
    rw [contentBack_of_panel h]
    exact .of_panel (a := a) rfl rfl rfl fun h => h.queuesBack w taken

theorem applyToPanel_keepsLoop (w : Awaited) {f : Addr → State → State} (h : ∀ a s, KeepsLoop s (f a s)) (s : State) :
    KeepsLoop s (applyToPanel w f s) := by
  unfold applyToPanel
  split
  · exact .ite (fun _ => .refl s) fun _ => h _ s
  · exact .refl s

/-! ## The loop's own state (R135 to R138, R142) -/

/-- A change of the loop and of what has been sent or raised. -/
theorem KeepsLoop.of_loop {s t : State} (hs : t.settings = s.settings) (hp : t.panels = s.panels)
    (h : s.loop.Legal → t.loop.Legal) : KeepsLoop s t :=
  ⟨fun hs' hl => ⟨hs ▸ hs', h hl⟩, fun _ ha => hp ▸ ha⟩

/-- A loop that is DOWN awaits nothing and holds nothing back. -/
theorem Loop.Legal.idle {l : Loop} (h : l.Legal) (hd : l.state = .down) : l.awaited = none ∧ l.held = none := by
  obtain ⟨-, -, -, -, -, -, -, -, hidle⟩ := h
  exact hidle hd

/-- Nothing is awaited any more. -/
theorem Loop.Legal.ended {l : Loop} (h : l.Legal) : { l with awaited := none }.Legal := by
  have hidle := h.idle
  obtain ⟨h4, h16, hw, hc, hq, hm, hf, hs, -⟩ := h
  exact ⟨h4, h16, hw, hc, hq, hm, hf, hs, fun hd => ⟨rfl, (hidle hd).2⟩⟩

theorem sendOwn_keepsLoop {s : State} (h : s.loop.state ≠ .down) (c : Carried) (destination kind : Nat)
    (payload : Bytes) (now : Nat) : KeepsLoop s (sendOwn c destination kind payload now s) := by
  refine .of_loop rfl rfl ?_
  rintro ⟨h4, h16, hw, hc, -, hm, hf, hs, -⟩
  exact ⟨h4, h16, hw, hc, Nat.mod_lt _ (by omega), hm, hf, hs, fun hd => absurd hd h⟩

theorem echoLost_keepsLoop (c : Carried) (s : State) : KeepsLoop s (echoLost c s) := by
  rw [echoLost_eq]
  exact .of_loop rfl rfl fun h => h

theorem echoRefused_keepsLoop (s : State) : KeepsLoop s (echoRefused s) := by
  rw [echoRefused_eq]
  exact .of_loop rfl rfl fun h => h

theorem takeEcho_keepsLoop (via : Via) (s : State) : KeepsLoop s (takeEcho via s) := by
  unfold takeEcho
  refine .ite (fun _ => ?_) fun _ => .of_loopSide (by simp)
  split
  · exact .updLoop fun h => h
  · exact .of_loopSide (by simp)

theorem frameMissed_keepsLoop (w : Awaited) (s : State) : KeepsLoop s (frameMissed w s) := by
  have hended : KeepsLoop s (countMiss (endAwait s)) := by
    refine .of_loop rfl rfl fun h => ?_
    obtain ⟨h4, h16, hw, hc, hq, -, hf, hs, hidle⟩ := h.ended
    exact ⟨h4, h16, hw, hc, hq, Nat.min_le_right .., hf, hs, hidle⟩
  exact (hended.trans (contentBack_keepsLoop w false _)).trans
    (applyToPanel_keepsLoop w (fun _ _ => panelMiss_keepsLoop ..) _)

theorem breakLoop_keepsLoop (destination : Nat) (s : State) : KeepsLoop s (breakLoop destination s) := by
  refine .of_loop rfl rfl ?_
  rintro ⟨h4, h16, hw, hc, hq, hm, hf, hs, -⟩
  exact ⟨h4, h16, hw, hc, hq, hm, hf, hs, nofun⟩

theorem timedOut_keepsLoop (w : Awaited) (s : State) : KeepsLoop s (timedOut w s) := by
  rw [timedOut_eq]
  refine .ite (fun _ => ?_) fun _ => (frameMissed_keepsLoop w s).trans (echoLost_keepsLoop _ _)
  exact (((frameMissed_keepsLoop w s).trans (breakLoop_keepsLoop _ _)).trans (echoLost_keepsLoop _ _)).trans
    (echoRefused_keepsLoop _)

theorem returnTimeout_keepsLoop (s : State) : KeepsLoop s (returnTimeout s) := by
  unfold returnTimeout
  split
  exacts [timedOut_keepsLoop _ s, .refl s]

theorem beginSync_keepsLoop (s : State) : KeepsLoop s (beginSync s) := by
  refine .ite (fun _ => .updLoop ?_) fun _ => .refl s
  rintro ⟨h4, h16, hw, hc, hq, hm, hf, hs, -⟩
  exact ⟨h4, h16, hw, hc, hq, hm, hf, hs, nofun⟩

theorem signalPresent_keepsLoop (s : State) : KeepsLoop s (signalPresent s) :=
  (KeepsLoop.updLoop (f := fun l => { l with signal := true }) fun h => h).trans (.whenLive (beginSync_keepsLoop _))

theorem abandonAwaited_keepsLoop (s : State) : KeepsLoop s (abandonAwaited s) := by
  unfold abandonAwaited
  split
  next w _ =>
    have hended : KeepsLoop s (endAwait s) := .of_loop rfl rfl fun h => h.ended
    exact (hended.trans (contentBack_keepsLoop w false _)).trans (echoLost_keepsLoop _ _)
  next => exact .refl s

theorem goDown_keepsLoop (s : State) : KeepsLoop s (goDown s) := by
  refine ⟨fun hs hl => ⟨?_, ?_⟩, fun a ha => ?_⟩
  · rw [goDown_eq]
    exact hs
  · rw [goDown_loop]
    obtain ⟨h4, h16, hw, hc, hq, hm, hf, hs, -⟩ := hl
    exact ⟨h4, h16, hw, hc, hq, hm, hf, hs, fun _ => ⟨rfl, rfl⟩⟩
  · unfold goDown
    exact ((abandonAwaited_keepsLoop _).trans (echoRefused_keepsLoop _)).2 a ha

theorem signalAbsent_keepsLoop (s : State) : KeepsLoop s (signalAbsent s) := by
  have hlatch : KeepsLoop s (updLoop (fun l => { l with signal := false, lossLatch := true }) s) := .updLoop fun h => h
  exact .ite (fun _ => hlatch) fun _ => hlatch.trans (goDown_keepsLoop _)

/-! ## Windows and beacons (R136, R138) -/

theorem startCycle_keepsLoop (s : State) : KeepsLoop s (startCycle s) := by
  refine ⟨fun hs hl => ⟨hs, ?_⟩, fun a ha => ?_⟩
  · obtain ⟨-, -, -, hc, hq, hm, hf, hst, hidle⟩ := hl
    obtain ⟨h4, h16, -⟩ := hs
    exact ⟨h4, h16, Nat.lt_of_lt_of_le (Nat.succ_pos 3) h4, hc, hq, hm, hf, hst, hidle⟩
  · simp only [startCycle, Tab.get_map]
    exact ha

theorem nextWindow_keepsLoop (s : State) : KeepsLoop s (nextWindow s) := by
  refine .ite (fun _ => startCycle_keepsLoop s) fun _ => .ite (fun hw => .updLoop ?_) fun _ => .trans (.updLoop ?_)
    (startCycle_keepsLoop _)
  · rintro ⟨h4, h16, -, hc, hq, hm, hf, hst, hidle⟩
    exact ⟨h4, h16, hw, hc, hq, hm, hf, hst, hidle⟩
  · rintro ⟨h4, h16, hw, -, hq, hm, hf, hst, hidle⟩
    exact ⟨h4, h16, hw, Nat.mod_lt _ (by decide), hq, hm, hf, hst, hidle⟩

theorem freshWindow_keepsLoop (now : Nat) (s : State) : KeepsLoop s (freshWindow now s) := by
  refine ⟨fun hs hl => ⟨hs, hl⟩, fun a ha => ?_⟩
  obtain ⟨hb, hm, hu, hab, hv, hmu, -, hr, ht⟩ := ha
  simp only [freshWindow, Tab.get_map]
  exact ⟨hb, hm, hu, hab, hv, hmu, Nat.zero_le 2, hr, ht⟩

theorem lapseAwaited_keepsLoop (now : Nat) (s : State) : KeepsLoop s (lapseAwaited now s) := by
  unfold lapseAwaited
  split
  · exact .ite (fun _ => timedOut_keepsLoop _ s) fun _ => .refl s
  · exact .refl s

theorem dueBeacon_keepsLoop {s : State} (h : s.loop.state ≠ .down) : KeepsLoop s (dueBeacon s) := by
  refine .updLoop ?_
  rintro ⟨h4, h16, hw, hc, hq, hm, hf, hst, -⟩
  exact ⟨h4, h16, hw, hc, hq, hm, hf, hst, fun hd => absurd hd h⟩

theorem sendDue_keepsLoop {s : State} (h : s.loop.state ≠ .down) (now : Nat) : KeepsLoop s (sendDue now s) := by
  obtain ⟨hs, -⟩ | ⟨p, -, -, hs⟩ := sendDue_cases s now <;> rw [hs]
  · exact .refl s
  · refine .trans (.updLoop ?_) (sendOwn_keepsLoop (by exact h) ..)
    rintro ⟨h4, h16, hw, hc, hq, hm, hf, hst, -⟩
    exact ⟨h4, h16, hw, hc, hq, hm, hf, hst, fun hd => absurd hd h⟩

theorem nextWindow_state (s : State) : (nextWindow s).loop.state = s.loop.state := by
  unfold nextWindow
  (repeat' split) <;> rfl

theorem lapseAwaited_state_ne_down {s : State} (h : s.loop.state ≠ .down) (now : Nat) :
    (lapseAwaited now s).loop.state ≠ .down := by
  unfold lapseAwaited
  split
  · split
    exacts [timedOut_state_ne_down h, h]
  · exact h

theorem openWindow_keepsLoop {s : State} (h : s.loop.state ≠ .down) (now : Nat) : KeepsLoop s (openWindow now s) := by
  have hopened : (freshWindow now (nextWindow (lapseAwaited now s))).loop.state ≠ .down := by
    simpa [freshWindow, nextWindow_state] using lapseAwaited_state_ne_down h now
  exact ((((lapseAwaited_keepsLoop now s).trans (nextWindow_keepsLoop _)).trans (freshWindow_keepsLoop now _)).trans
    (dueBeacon_keepsLoop hopened)).trans (sendDue_keepsLoop (by exact hopened) now)

/-! ## Outbound service (R139) -/

theorem dropLapsed_keepsLoop (a : Addr) (s : State) : KeepsLoop s (dropLapsed a s) :=
  .ite (fun _ => .refl s) fun _ => .updPanel fun h =>
    h.queues rfl le_rfl (List.dropWhile_suffix _).length_le

theorem dropLapsed_loop (a : Addr) (s : State) : (dropLapsed a s).loop = s.loop := by
  unfold dropLapsed
  split <;> rfl

theorem sendChosen_keepsLoop {s : State} (h : s.loop.state ≠ .down) (c : Carried) (now : Nat) :
    KeepsLoop s (sendChosen c now s) := by
  unfold sendChosen
  split
  case h_1 a _ =>
    unfold sendReply
    split
    · exact .refl s
    · refine .trans (.updPanel fun hp => ?_) (sendOwn_keepsLoop (by exact h) ..)
      exact hp.queues rfl (by rw [List.length_map]) le_rfl
  case h_2 =>
    unfold sendTicket
    split
    · exact .refl s
    · exact sendOwn_keepsLoop (by exact h) ..
  case h_3 => exact KeepsLoop.trans (.of_loopSide (by simp)) (sendOwn_keepsLoop (by exact h) ..)
  all_goals exact .refl s

theorem visit_keepsLoop (now : Nat) (l : List Addr) {s : State} (h : s.loop.state ≠ .down) :
    KeepsLoop s (visit now l s) := by
  induction l generalizing s with
  | nil => exact .updLoop fun h => h
  | cons a l ih =>
    unfold visit
    dsimp only
    have hdrop := dropLapsed_keepsLoop a s
    have hstate : (dropLapsed a s).loop.state ≠ .down := by rwa [dropLapsed_loop]
    refine .ite (fun _ => ?_) fun _ => ih h
    split
    · refine hdrop.trans (.trans ?_ (sendChosen_keepsLoop (by exact hstate) _ now))
      exact .trans (.updPanel fun hp => hp) (.updLoop fun hl => hl)
    · exact hdrop.trans (ih hstate)

theorem mayStart_state {now : Nat} {s : State} (h : mayStart now s = true) : s.loop.state ≠ .down := by
  intro hd
  simp [mayStart, hd] at h

theorem serveNext_keepsLoop {s : State} (h : s.loop.state ≠ .down) (now : Nat) : KeepsLoop s (serveNext now s) := by
  unfold serveNext
  split
  · exact .trans (.updLoop fun hl => hl) (sendOwn_keepsLoop (by exact h) ..)
  · exact visit_keepsLoop now _ h

/-- A beacon is held back only while the loop is not DOWN. -/
theorem serveAt_keepsLoop (now : Nat) (s : State) : KeepsLoop s (serveAt now s) := by
  unfold serveAt
  refine .ite (fun hheld => ?_) fun _ => .ite (fun hm => serveNext_keepsLoop (mayStart_state hm) now) fun _ => .refl s
  by_cases hd : s.loop.state = .down
  · refine ⟨fun _ hl => ?_, fun a ha => ?_⟩
    · simp [(hl.idle hd).2] at hheld
    · obtain ⟨hs, -⟩ | ⟨p, -, -, hs⟩ := sendDue_cases s now <;> rw [hs] <;> exact ha
  · exact sendDue_keepsLoop hd now

/-! ## Frames that come home, and calls (R135, R141, R145 to R147) -/

theorem checkFailed_keepsLoop (s : State) : KeepsLoop s (checkFailed s) := by
  refine .updLoop ?_
  rintro ⟨h4, h16, hw, hc, hq, hm, -, hst, hidle⟩
  exact ⟨h4, h16, hw, hc, hq, hm, Nat.min_le_right .., hst, hidle⟩

theorem strip_keepsLoop (s : State) : KeepsLoop s (strip s) := by
  refine .updLoop ?_
  rintro ⟨h4, h16, hw, hc, hq, hm, hf, -, hidle⟩
  exact ⟨h4, h16, hw, hc, hq, hm, hf, Nat.min_le_right .., hidle⟩

theorem stripRogue_keepsLoop (subject detail : Nat) (s : State) : KeepsLoop s (stripRogue subject detail s) :=
  (strip_keepsLoop s).trans (.of_loopSide rfl)

theorem beaconHome_keepsLoop (s : State) : KeepsLoop s (beaconHome s) := by
  have hup : s.loop.Legal → { s.loop with state := .up }.Legal := by
    rintro ⟨h4, h16, hw, hc, hq, hm, hf, hst, -⟩
    exact ⟨h4, h16, hw, hc, hq, hm, hf, hst, nofun⟩
  unfold beaconHome
  split
  · exact .updLoop hup
  · exact .of_loop rfl rfl hup
  all_goals exact .refl s

theorem matched_keepsLoop (w : Awaited) (taken : Bool) (now : Nat) (s : State) :
    KeepsLoop s (matched w taken now s) := by
  have hended : KeepsLoop s (updLoop (fun l => { l with awaited := none, misses := 0 }) s) := by
    refine .updLoop fun h => ?_
    obtain ⟨h4, h16, hw, hc, hq, -, hf, hs, hidle⟩ := h.ended
    exact ⟨h4, h16, hw, hc, hq, Nat.zero_le _, hf, hs, hidle⟩
  unfold matched
  dsimp only
  split
  case h_1 => exact hended.trans (beaconHome_keepsLoop _)
  case h_2 => exact hended.trans (.trans (.updLoop fun h => h) (.of_loopSide (respond_loopSide ..)))
  all_goals
    refine hended.trans ((contentBack_keepsLoop w taken _).trans (applyToPanel_keepsLoop w (fun a s => ?_) _))
    split
    exacts [panelSuccess_keepsLoop a s, panelMiss_keepsLoop a 0 s]

theorem ownReturn_keepsLoop (f : LoopFrame) (now : Nat) (s : State) : KeepsLoop s (ownReturn f now s) := by
  unfold ownReturn
  split
  · exact .ite (fun _ => matched_keepsLoop _ _ now s) fun _ => stripRogue_keepsLoop 0 2 s
  · exact stripRogue_keepsLoop 0 2 s

/-- A violation is counted for a panel that is not MUTED, and mutes it at the third. -/
theorem windowViolation_keepsLoop {a : Addr} {s : State} (h : (s.panels.get a).state ≠ .muted) :
    KeepsLoop s (windowViolation a s) := by
  have hraised : KeepsLoop s (raisePanel .windowViolation (address a) s.loop.currentWindow (strip s)) :=
    (strip_keepsLoop s).trans (.of_loopSide rfl)
  have hcount : ∀ p : Panel, p.Legal → p.state ≠ .muted → p.violations ≤ 2 := by
    rintro p ⟨-, -, -, -, hv, hmu, -⟩ hp
    have h3 : p.violations ≠ 3 := fun h3 => hp (hmu.1 h3)
    omega
  unfold windowViolation
  dsimp only
  refine .ite (fun hn => hraised.trans (.updPanel fun hp => ?_))
    fun hn => hraised.trans (.trans (.updPanel fun hp => ?_) (.of_loopSide rfl))
  · obtain ⟨hb, hm, hu, hab, -, -, hc, hr, ht⟩ := hp
    exact ⟨hb, hm, hu, hab, Nat.le_of_lt hn, iff_of_false (Nat.ne_of_lt hn) h, hc, hr, ht⟩
  · have h2 := hcount _ hp h
    obtain ⟨hb, hm, hu, hab, -, -, hc, hr, ht⟩ := hp
    exact ⟨hb, hm, by simp, by simp, Nat.succ_le_succ h2,
      iff_of_true (Nat.le_antisymm (Nat.succ_le_succ h2) (Nat.not_lt.1 hn)) rfl, hc, hr, ht⟩

theorem handCall_loopSide (place : ReplyPlace) (payload : Bytes) (s : State) :
    (handCall place payload s).loopSide = s.loopSide := by
  have hoffer : ∀ r : Request, (offerPanel place r s).loopSide = s.loopSide := fun r => by simp [offerPanel]
  unfold handCall
  dsimp only
  split
  · unfold handDoorCall
    split <;> simp [hoffer]
  · unfold handPantryCall
    split <;> simp
  · simp

theorem makeReply_keepsLoop {a : Addr} {s : State} (h : (s.panels.get a).replies.length < 4) (sequence : Nat)
    (payload : Bytes) : KeepsLoop s (makeReply a sequence payload s) := by
  refine .trans (t := updPanel a _ s) (.updPanel fun hp => ?_) (.of_loopSide rfl)
  obtain ⟨hb, hm, hu, hab, hv, hmu, hc, -, ht⟩ := hp
  exact ⟨hb, hm, hu, hab, hv, hmu, hc, by rw [List.length_append]; exact h, ht⟩

/-- A call is taken of a panel that is not MUTED, and has had fewer than two in its window. -/
theorem takeCall_keepsLoop {a : Addr} {s : State} (h : (s.panels.get a).state ≠ .muted)
    (h2 : (s.panels.get a).callsInWindow < 2) (sequence : Nat) (payload : Bytes) :
    KeepsLoop s (takeCall a sequence payload s) := by
  have hcounted : KeepsLoop s
      (panelSeen a (updPanel a (fun p => { p with violations := 0, callsInWindow := p.callsInWindow + 1 }) s)) := by
    refine .trans (.updPanel fun hp => ?_) (panelSeen_keepsLoop a _)
    obtain ⟨hb, hm, hu, hab, -, -, -, hr, ht⟩ := hp
    exact ⟨hb, hm, hu, hab, Nat.zero_le 3, iff_of_false (by simp) h, h2, hr, ht⟩
  unfold takeCall
  dsimp only
  refine .ite (fun _ => hcounted.trans ((strip_keepsLoop _).trans (.of_loopSide rfl))) fun hr => hcounted.trans ?_
  exact (makeReply_keepsLoop (Nat.not_le.1 hr) sequence payload).trans (.of_loopSide (handCall_loopSide ..))

theorem judgeCall_keepsLoop (a : Addr) (sequence : Nat) (payload : Bytes) (s : State) :
    KeepsLoop s (judgeCall a sequence payload s) := by
  refine .ite (fun _ => strip_keepsLoop s) fun hup => ?_
  obtain ⟨-, hm⟩ := not_or.1 hup
  refine .ite (fun hw => ?_) fun _ => windowViolation_keepsLoop hm
  simp only [inWindow, Bool.and_eq_true, decide_eq_true_eq] at hw
  exact takeCall_keepsLoop hm hw.2 sequence payload

theorem judgeFrame_keepsLoop (f : LoopFrame) (now : Nat) (s : State) : KeepsLoop s (judgeFrame f now s) := by
  refine .ite (fun _ => ownReturn_keepsLoop f now s) fun _ => ?_
  unfold judgePanelFrame
  split
  · exact stripRogue_keepsLoop 0 4 s
  next a _ =>
    refine .ite (fun _ => stripRogue_keepsLoop _ 0 s) fun _ => .ite (fun _ => ?_) fun _ => ?_
    · exact .ite (fun _ => stripRogue_keepsLoop _ 1 s) fun _ => .of_loopSide rfl
    · exact .ite (fun _ => stripRogue_keepsLoop _ 3 s) fun _ => judgeCall_keepsLoop a _ _ s

theorem loopIn_keepsLoop (b : Bytes) (now : Nat) (s : State) : KeepsLoop s (loopIn b now s) := by
  unfold loopIn
  split
  exacts [checkFailed_keepsLoop s, judgeFrame_keepsLoop _ now s]

theorem callIn_keepsLoop (origin sequence : Nat) (payload : Bytes) (s : State) :
    KeepsLoop s (callIn origin sequence payload s) :=
  .ite (fun _ => checkFailed_keepsLoop s) fun _ => judgeFrame_keepsLoop _ _ s

/-! ## Writes of T0, T2 and T8 (R136, R137, R143) -/

theorem clamp_between {lo hi : Nat} (h : lo ≤ hi) (v : Nat) : lo ≤ clamp lo hi v ∧ clamp lo hi v ≤ hi := by
  unfold clamp
  omega

theorem LoopSettings.Legal.written {l : LoopSettings} (h : l.Legal) (w : SettingsWrite) : (l.written w).Legal := by
  have hbetween : ∀ (o : Option Nat) (lo hi v : Nat), lo ≤ hi → lo ≤ v ∧ v ≤ hi →
      lo ≤ (o.map (clamp lo hi)).getD v ∧ (o.map (clamp lo hi)).getD v ≤ hi := by
    intro o lo hi v hlh hv
    cases o with
    | none => exact hv
    | some n => exact clamp_between hlh n
  obtain ⟨h4, h16, h10, h100, h1, h15⟩ := h
  obtain ⟨hw4, hw16⟩ := hbetween w.windows 4 16 l.windows (by decide) ⟨h4, h16⟩
  obtain ⟨ht10, ht100⟩ := hbetween w.windowTime 10 100 l.windowTime (by decide) ⟨h10, h100⟩
  obtain ⟨ho1, ho15⟩ := hbetween w.timeout 1 15 l.timeout (by decide) ⟨h1, h15⟩
  exact ⟨hw4, hw16, ht10, ht100, ho1, ho15⟩

theorem writeSettings_keepsLoop (index : Nat) (w : SettingsWrite) (m : Nat) (s : State) :
    KeepsLoop s (writeSettings index w m s).state := by
  unfold writeSettings
  split
  · exact ⟨fun hs hl => ⟨hs.written w, hl⟩, fun _ ha => ha⟩
  · exact .refl s

/-- Binding 0 fits every kind. -/
theorem bindingFits_orZero (k : PanelKind) (n : Nat) :
    bindingFits k (if bindingFits k n then n else 0) = true := by
  split
  · assumption
  · cases k <;> rfl

/-- The binding that a write leaves fits the kind that it leaves. -/
theorem Panel.written_fits (p : Panel) (w : PanelWrite) :
    bindingFits (p.written w).kind (p.written w).binding = true := bindingFits_orZero ..

theorem Panel.Legal.written {p : Panel} (h : p.Legal) (w : PanelWrite) : (p.written w).Legal := by
  obtain ⟨-, hrest⟩ := h
  exact ⟨p.written_fits w, hrest⟩

theorem Panel.Legal.renewed {p : Panel} (h : p.Legal) : p.renewed.Legal := by
  obtain ⟨hb, -, -, -, -, -, hc, -, -⟩ := h
  exact ⟨hb, Nat.zero_le 3, fun _ => Nat.zero_le 2, nofun, Nat.zero_le 3, iff_of_false (Nat.succ_ne_zero 2).symm nofun,
    hc, Nat.zero_le 4, Nat.zero_le 12⟩

theorem markStale_keepsLoop (a : Addr) (s : State) : KeepsLoop s (markStale a s) := by
  refine .of_loop rfl rfl ?_
  rintro ⟨h4, h16, hw, hc, hq, hm, hf, hs, hidle⟩
  refine ⟨h4, h16, hw, hc, hq, hm, hf, hs, fun hd => ?_⟩
  obtain ⟨ha, hh⟩ := hidle hd
  exact ⟨by simp [markStale, ha], hh⟩

theorem writePanel_keepsLoop (index : Nat) (w : PanelWrite) (m : Nat) (s : State) :
    KeepsLoop s (writePanel index w m s).state := by
  unfold writePanel
  split
  · exact .refl s
  next a _ =>
    dsimp only
    have hwritten : KeepsLoop s { s with panels := s.panels.set a ((s.panels.get a).written w) } :=
      .of_panel (a := a) rfl rfl rfl fun h => h.written w
    refine .ite (fun _ => hwritten.trans ?_) fun _ => hwritten
    exact .trans (.updPanel (a := a) fun h => h.renewed) ((markStale_keepsLoop a _).trans (.of_loopSide rfl))

theorem writeTable_keepsLoop (table index m : Nat) (b : Bytes) (s : State) :
    KeepsLoop s (writeTable table index m b s).state := by
  unfold writeTable
  split
  case h_1 => exact writeSettings_keepsLoop _ _ _ s
  case h_3 => exact writePanel_keepsLoop _ _ _ s
  case h_9 =>
    unfold writeLoop
    split
    · exact .ite (fun _ => .of_loop rfl rfl fun h => h) fun _ => .refl s
    · exact .refl s
  all_goals exact .of_loopSide (by simp)

theorem answerWrite_keepsLoop {s : State} {w : Written} (h : KeepsLoop s w.state) (via : Via) (table index n : Nat) :
    KeepsLoop s (answerWrite via table index n w) := h.trans (.of_loopSide (answerWrite_loopSide ..))

/-! ## Requests at the uplink port (R162, R164) -/

theorem takeRequest_keepsLoop (i : Instr) (s : State) : KeepsLoop s (takeRequest i s) := by
  cases i
  case tableWrite => exact answerWrite_keepsLoop (writeTable_keepsLoop ..) ..
  case loopEcho via => exact takeEcho_keepsLoop via s
  all_goals exact .of_loopSide (by simp [takeRequest])

theorem uplinkFrame_keepsLoop (f : EthFrame) (s : State) : KeepsLoop s (uplinkFrame f s) := by
  unfold uplinkFrame
  refine .ite (fun _ => .refl s) fun _ => ?_
  split
  · exact .of_loopSide (by simp)
  · refine .ite (fun _ => .ite (fun _ => ?_) fun _ => ?_) fun _ => .of_loopSide (by simp)
    · refine .ite (fun _ => .of_loopSide (by simp)) fun _ => ?_
      split
      exacts [takeRequest_keepsLoop _ s, .of_loopSide (by simp)]
    · exact .of_loopSide (by simp)

/-! ## Resets (R151, R168, R169) -/

theorem Panel.lineReset_legal {p : Panel} (h : p.Legal) : p.lineReset.Legal := by
  obtain ⟨hb, -⟩ := h
  exact ⟨hb, by simp [Panel.lineReset, freshPanel]⟩

theorem resetBlocks_keepsLoop (s : State) : KeepsLoop s (resetBlocks s) := by
  refine ⟨fun hs hl => ⟨hs, ?_⟩, fun a ha => ?_⟩
  · obtain ⟨h4, h16, -, -, -, -, hf, hst, -⟩ := hl
    exact ⟨h4, h16, Nat.lt_of_lt_of_le (Nat.succ_pos 3) h4, Nat.succ_pos 255, Nat.succ_pos 15, Nat.zero_le 255, hf, hst,
      fun _ => ⟨rfl, rfl⟩⟩
  · simp only [resetBlocks, Tab.get_map]
    exact Panel.lineReset_legal ha

theorem lineReset_keepsLoop (straps : Fin 8) (s : State) : KeepsLoop s (lineReset straps s) := by
  have hsettled : KeepsLoop s (settleHolds (discardUnsent s)) := .of_loopSide (by simp)
  have hreset : KeepsLoop s (resetComposer (resetBlocks (settleHolds (discardUnsent s)))) :=
    (hsettled.trans (resetBlocks_keepsLoop _)).trans (.of_loopSide rfl)
  exact (hreset.trans (.whenLive (beginSync_keepsLoop _))).trans (.of_loopSide rfl)

theorem assertReset_keepsLoop (straps : Fin 8) (s : State) : KeepsLoop s (assertReset straps s) :=
  (KeepsLoop.of_loopSide rfl).trans (.whenPowered (lineReset_keepsLoop straps (setResetLine true s)))

theorem releaseReset_keepsLoop (straps : Fin 8) (s : State) : KeepsLoop s (releaseReset straps s) :=
  (KeepsLoop.of_loopSide rfl).trans
    (.whenPowered (s := setResetLine false s) ((beginSync_keepsLoop _).trans (.of_loopSide rfl)))

theorem powerOn_keepsLoop (straps : Fin 8) (s : State) : KeepsLoop s (powerOn straps s) := by
  refine .trans ⟨fun _ _ => ⟨?_, ?_⟩, fun a _ => ?_⟩ (.whenLive (beginSync_keepsLoop _))
  · simp [State.reset, defaultSettings, LoopSettings.Legal]
  · simp [Loop.Legal, downLoop, defaultSettings]
  · simp [State.reset, freshPanel, Panel.Legal, bindingFits]

theorem powerOff_keepsLoop (s : State) : KeepsLoop s (powerOff s) := by
  refine .of_loop rfl rfl ?_
  rintro ⟨h4, h16, hw, hc, hq, hm, hf, hst, -⟩
  exact ⟨h4, h16, hw, hc, hq, hm, hf, hst, fun _ => ⟨rfl, rfl⟩⟩

/-! ## Every command -/

theorem exec_keepsLoop (c : Instr) {s t : State} (h : exec c s = .next t) : KeepsLoop s t := by
  cases c <;> cases h
  case dispatchPass => exact .whenPowered (passPieces_keepsLoop _ s)
  case moveFramePop => exact engineStep_keepsLoop (moveSteps_keepsLoop _) s
  case uplinkFrame => exact .whenTaking (uplinkFrame_keepsLoop _ s)
  case tableWrite => exact .whenTaking (answerWrite_keepsLoop (writeTable_keepsLoop ..) ..)
  case panelKindBindingWrite => exact .whenTaking (answerWrite_keepsLoop (writePanel_keepsLoop ..) ..)
  case loopSettingsWrite => exact .whenTaking (answerWrite_keepsLoop (writeSettings_keepsLoop ..) ..)
  case signalLossLatchClear =>
    exact .whenTaking (answerWrite_keepsLoop (w := writeLoop 0 (some 1) 0 s) (.of_loop rfl rfl fun h => h) ..)
  case loopEcho => exact .whenTaking (takeEcho_keepsLoop _ s)
  case lineReset => exact .whenPowered (lineReset_keepsLoop _ s)
  case resetLineAssert => exact assertReset_keepsLoop _ s
  case resetLineRelease => exact releaseReset_keepsLoop _ s
  case powerOnReset => exact powerOn_keepsLoop _ s
  case powerGoodFall => exact powerOff_keepsLoop s
  case signalPresent => exact signalPresent_keepsLoop s
  case signalAbsent => exact .ite (fun _ => signalAbsent_keepsLoop s) fun _ => .updLoop fun h => h
  case windowOpen => exact .whenLive (.ite (fun _ => .refl s) fun hd => openWindow_keepsLoop hd _)
  case ownFrameSend => exact .whenLive (serveAt_keepsLoop _ s)
  case ownFrameReturn | panelFrame => exact .whenLive (loopIn_keepsLoop _ _ s)
  case returnTimeout => exact .whenLive (returnTimeout_keepsLoop s)
  case call => exact .whenLive (callIn_keepsLoop _ _ _ s)
  all_goals exact .of_loopSide (by simp)

theorem step_keepsLoop {s t : State} (h : step s = .next t) : KeepsLoop s t := by
  unfold step at h
  split at h
  · cases h
    exact .refl s
  next c rest _ => exact .trans (t := { s with pending := rest }) (.of_loopSide rfl) (exec_keepsLoop c h)

/-- Settles O6: every command keeps the settings and the loop legal, by `exec_keepsLoop`. -/
theorem stepKeepsTheLoopLegal : Obligations.StepKeepsTheLoopLegal :=
  fun _ _ hs hl h => (step_keepsLoop h).1 hs hl

/-- Settles O7: every command keeps each panel legal, by `exec_keepsLoop`. -/
theorem stepKeepsThePanelsLegal : Obligations.StepKeepsThePanelsLegal :=
  fun _ _ hp h a => (step_keepsLoop h).2 a (hp a)

end Sys2Proof.Machine
end

section
/-!
SUPPORT. The return timeout (R142): what a frame that does not come home does to its content, its panel, the loop and
the echo that waits.
-/

namespace Sys2Proof.Machine

/-! ## The content and the panel -/

/-- What an occurrence does does not hang on the queues and faces that a frame's content comes back to. -/
theorem raisePanel_contentBack (c : ExcClass) (n d : Nat) (w : Awaited) (taken : Bool) (s : State) :
    (raisePanel c n d (contentBack w taken s)).exceptions = (raisePanel c n d s).exceptions := by
  refine raise_exceptions_congr _ _ _ _ (by rw [contentBack_eq]) (by rw [contentBack_eq])
    (by rw [contentBack_eq]; rfl) (holdTarget_congr (fun b => ?_) _ _)
  cases h : w.carried.panel? with
  | none => rw [contentBack_of_none h]; exact ⟨rfl, rfl⟩
  | some a =>
    obtain ⟨hk, hb, -⟩ := w.queuesBack_standing taken (s.panels.get a)
    rw [contentBack_of_panel h]
    simp only [Tab.get_set]
    split
    next hba =>
      subst hba
      exact ⟨hk, hb⟩
    next => exact ⟨rfl, rfl⟩

theorem Awaited.queuesBack_of_stale {w : Awaited} (h : w.stale = true) (taken : Bool) (p : Panel) :
    w.queuesBack taken p = p := by
  unfold queuesBack
  split <;> simp [h]

/-- An own frame that was not taken: its content waits again, and its panel has missed (R126, R144, R148, R149). -/
theorem missed_of_panel {w : Awaited} {a : Addr} (h : w.carried.panel? = some a) (d : Nat) (s : State) :
    applyToPanel w (fun a => panelMiss a d) (contentBack w false s) = { s with
      panels := s.panels.set a
        (if w.stale then s.panels.get a else (w.queuesBack false (s.panels.get a)).missed)
      composer := { s.composer with
        faces := s.composer.faces.set a (w.faceBack false (s.composer.faces.get a)) }
      exceptions :=
        if w.stale = false ∧ (s.panels.get a).state = .present ∧ 2 ≤ (s.panels.get a).misses then
          (raisePanel .panelSilent (address a) d s).exceptions
        else s.exceptions } := by
  rw [applyToPanel_of_panel h]
  by_cases hs : w.stale = true
  · rw [contentBack_of_panel h]
    simp [hs, Awaited.queuesBack_of_stale]
  · obtain ⟨-, -, hstate, hmisses⟩ := w.queuesBack_standing false (s.panels.get a)
    rw [if_neg hs, panelMiss_eq, raisePanel_contentBack, contentBack_of_panel h]
    simp [hs, hstate, hmisses]

theorem frameMissed_of_none {w : Awaited} (h : w.carried.panel? = none) (s : State) :
    frameMissed w s = countMiss (endAwait s) := by
  rw [frameMissed, contentBack_of_none h, applyToPanel_of_none h]

theorem frameMissed_of_panel {w : Awaited} {a : Addr} (h : w.carried.panel? = some a) (s : State) :
    frameMissed w s = { s with
      loop := { s.loop with awaited := none, misses := min (s.loop.misses + 1) 255 }
      panels := s.panels.set a
        (if w.stale then s.panels.get a else (w.queuesBack false (s.panels.get a)).missed)
      composer := { s.composer with
        faces := s.composer.faces.set a (w.faceBack false (s.composer.faces.get a)) }
      exceptions :=
        if w.stale = false ∧ (s.panels.get a).state = .present ∧ 2 ≤ (s.panels.get a).misses then
          (raisePanel .panelSilent (address a) 1 s).exceptions
        else s.exceptions } := by
  rw [frameMissed, missed_of_panel h]
  rfl

/-- A missed frame changes the loop, its panel, its face and the Exception Unit alone. -/
theorem frameMissed_eq (w : Awaited) (s : State) : frameMissed w s = { s with
    loop := (frameMissed w s).loop
    panels := (frameMissed w s).panels
    composer := (frameMissed w s).composer
    exceptions := (frameMissed w s).exceptions } := by
  cases h : w.carried.panel? with
  | none => rw [frameMissed_of_none h]; rfl
  | some a => rw [frameMissed_of_panel h]

/-! ## The loop that breaks, and the echo (R142, R150) -/

/-- A timeout changes what the missed frame does, and then the loop, the Exception Unit and the ports alone. -/
theorem timedOut_frame (w : Awaited) (s : State) : timedOut w s = { frameMissed w s with
    loop := (timedOut w s).loop
    exceptions := if s.loop.breaks then
        (raise .loopBreak .none none (BitVec.ofNat 32 w.carried.destination) (frameMissed w s)).exceptions
      else (frameMissed w s).exceptions
    ports := (timedOut w s).ports } := by
  rw [timedOut_eq]
  split
  · rw [echoRefused_eq, echoLost_eq]
    rfl
  · rw [echoLost_eq]

/-- An echo that was on the ring is answered TIMEOUT, and none waits then. -/
theorem timedOut_of_echo {w : Awaited} {via : Via} (h : w.carried = .echo via) (s : State) :
    (timedOut w s).loop.echo = .none ∧
      Answered via .loopEcho (.done (echoContents true 0)) s (timedOut w s) := by
  have hlost : ∀ u : State, u.ports = s.ports → (echoLost w.carried u).loop.echo = .none ∧
      Answered via .loopEcho (.done (echoContents true 0)) s (echoLost w.carried u) := by
    intro u hu
    rw [h, echoLost_of_echo]
    exact ⟨by rw [respond_eq]; rfl, respond_answered_of _ _ _ hu⟩
  have hports : (frameMissed w s).ports = s.ports := by rw [frameMissed_eq]
  rw [timedOut_eq]
  split
  · have hbroken := hlost (breakLoop w.carried.destination (frameMissed w s)) hports
    rw [echoRefused_of_not (by simp [hbroken.1])]
    exact hbroken
  · exact hlost _ hports

theorem frameMissed_echo (w : Awaited) (s : State) : (frameMissed w s).loop.echo = s.loop.echo := by
  rw [frameMissed_loop]

/-- An echo that waits is refused where the loop breaks. -/
theorem timedOut_of_waiting {w : Awaited} {s : State} {via : Via} (h : ∀ v, w.carried ≠ .echo v)
    (hb : s.loop.breaks = true) (he : s.loop.echo = .waiting via) :
    (timedOut w s).loop.echo = .none ∧ Answered via .loopEcho (.refused .loopNotUp) s (timedOut w s) := by
  have hwaits : (breakLoop w.carried.destination (frameMissed w s)).loop.echo = .waiting via :=
    (frameMissed_echo w s).trans he
  rw [timedOut_eq, if_pos hb, echoLost_of_not h, echoRefused_of_waiting hwaits]
  refine ⟨by rw [respond_eq]; rfl, respond_answered_of _ _ _ ?_⟩
  change (frameMissed w s).ports = s.ports
  rw [frameMissed_eq]

/-- Else no echo is answered. -/
theorem timedOut_of_neither {w : Awaited} {s : State} (h : ∀ v, w.carried ≠ .echo v)
    (hb : s.loop.breaks = false ∨ ∀ v, s.loop.echo ≠ .waiting v) :
    (timedOut w s).loop.echo = s.loop.echo ∧ (timedOut w s).ports = s.ports := by
  have hports : (frameMissed w s).ports = s.ports := by rw [frameMissed_eq]
  rw [timedOut_eq, echoLost_of_not h, echoLost_of_not h]
  split
  next hbreaks =>
    have hwaits : ∀ v, s.loop.echo ≠ .waiting v := hb.resolve_left (by simp [hbreaks])
    have hnone : ∀ v, (breakLoop w.carried.destination (frameMissed w s)).loop.echo ≠ .waiting v :=
      fun v hv => hwaits v ((frameMissed_echo w s).symm.trans hv)
    rw [echoRefused_of_not hnone]
    exact ⟨frameMissed_echo w s, hports⟩
  next => exact ⟨frameMissed_echo w s, hports⟩

theorem Carried.destination_of_none {c : Carried} (h : c.panel? = none) : c.destination = 0 := by
  simp [Carried.destination, h]

theorem Carried.destination_of_panel {c : Carried} {a : Addr} (h : c.panel? = some a) :
    c.destination = a.val + 1 := by
  simp [Carried.destination, h, address]

/-! ## RETURN_TIMEOUT (R142) -/

/-- The own frame's end is judged of this panel: it is addressed to it, and its record is not stale (R140). -/
def Awaited.judges (w : Awaited) (a : Addr) : Bool := !w.stale && w.carried.destination == a.val + 1

theorem Awaited.judges_of_none {w : Awaited} (h : w.carried.panel? = none) (a : Addr) : w.judges a = false := by
  simp [judges, Carried.destination_of_none h]

theorem Awaited.judges_of_panel {w : Awaited} {a : Addr} (h : w.carried.panel? = some a) (b : Addr) :
    w.judges b = (!w.stale && decide (b = a)) := by
  rw [judges, Carried.destination_of_panel h]
  congr 1
  rw [Bool.eq_iff_iff, beq_iff_eq, decide_eq_true_eq, Fin.ext_iff]
  omega

theorem frameMissed_panels (w : Awaited) (s : State) (a : Addr) : (frameMissed w s).panels.get a =
    if w.judges a then (w.queuesBack false (s.panels.get a)).missed else s.panels.get a := by
  cases h : w.carried.panel? with
  | none =>
    rw [frameMissed_of_none h, Awaited.judges_of_none h]
    rfl
  | some b =>
    rw [frameMissed_of_panel h, Awaited.judges_of_panel h]
    simp only [Tab.get_set]
    by_cases hab : a = b
    · subst hab
      cases w.stale <;> simp
    · simp [hab]

theorem frameMissed_composer (w : Awaited) (s : State) :
    (∀ a row, w.carried = .face a row →
      (frameMissed w s).composer = { s.composer with
        faces := s.composer.faces.set a { s.composer.faces.get a with
          inFlight := (s.composer.faces.get a).inFlight.set row false
          dirty := (s.composer.faces.get a).dirty.set row true } }) ∧
    ((∀ a row, w.carried ≠ .face a row) → (frameMissed w s).composer = s.composer) := by
  refine ⟨fun a row h => ?_, fun h => ?_⟩
  · rw [frameMissed_of_panel (a := a) (by rw [h]; rfl)]
    simp only [Awaited.faceBack, h, Bool.false_eq_true, if_false]
  · cases hp : w.carried.panel? with
    | none => rw [frameMissed_of_none hp]; rfl
    | some a =>
      rw [frameMissed_of_panel hp]
      have hface : w.faceBack false (s.composer.faces.get a) = s.composer.faces.get a := by
        unfold Awaited.faceBack
        split
        next b row hc => exact absurd hc (h b row)
        all_goals rfl
      simp [hface]

/-- What a missed frame raises: PANEL_SILENT, where the panel that it is judged of has become ABSENT. -/
theorem frameMissed_exceptions (w : Awaited) (s : State) :
    ∃ silenced : State, (frameMissed w s).exceptions = silenced.exceptions ∧
      silenced = { s with exceptions := silenced.exceptions } ∧
      (∀ a, w.judges a = true → (s.panels.get a).state = .present → 2 ≤ (s.panels.get a).misses →
        silenced = raisePanel .panelSilent (address a) 1 s) ∧
      ((∀ a, ¬ (w.judges a = true ∧ (s.panels.get a).state = .present ∧ 2 ≤ (s.panels.get a).misses)) →
        silenced = s) := by
  cases h : w.carried.panel? with
  | none =>
    rw [frameMissed_of_none h]
    exact ⟨s, rfl, rfl, fun a ha => by simp [Awaited.judges_of_none h] at ha, fun _ => rfl⟩
  | some a =>
    rw [frameMissed_of_panel h]
    simp only [Awaited.judges_of_panel h, Bool.and_eq_true, Bool.not_eq_true', decide_eq_true_eq]
    split
    next hsilent =>
      obtain ⟨hs, hp⟩ := hsilent
      exact ⟨_, rfl, rfl, fun b hb _ _ => hb.2 ▸ rfl, fun hn => absurd ⟨⟨hs, rfl⟩, hp⟩ (hn a)⟩
    next hsilent =>
      refine ⟨s, rfl, rfl, fun b hb hpresent h2 => absurd ⟨hb.1, ?_⟩ hsilent, fun _ => rfl⟩
      obtain ⟨-, rfl⟩ := hb
      exact ⟨hpresent, h2⟩

/-- Settles O56: what the missed frame does by `frameMissed_panels`, `frameMissed_composer` and
`frameMissed_exceptions`, the loop by `timedOut_loop`, and the echo by its three cases. -/
theorem returnTimeoutCountsTheMiss : Obligations.ReturnTimeoutCountsTheMiss := by
  intro s hp hr
  have hexec : exec .returnTimeout s = .next (returnTimeout s) :=
    congrArg Host.Outcome.next (whenLive_of_live hp hr returnTimeout)
  refine ⟨fun h => by rw [hexec, returnTimeout, h], fun w hw => ?_⟩
  intro misses breaks destination addressed judged back fellSilent
  have hdest : destination = w.carried.destination := by
    cases w with | mk c => cases c <;> rfl
  have haddressed : addressed = w.judges := by
    funext a
    simp only [addressed, hdest, Awaited.judges]
  have hback : ∀ p, w.stale = false → judged (back p) = (w.queuesBack false p).missed := by
    intro p hs
    have hq : back p = w.queuesBack false p := by
      cases w with | mk c => cases c <;> simp_all [back, Awaited.queuesBack, repliesBack, ticketsBack]
    rw [hq]
    rfl
  obtain ⟨silenced, hexc, hsil, hfell, hnone⟩ := frameMissed_exceptions w s
  obtain ⟨hface, hnoface⟩ := frameMissed_composer w s
  have hframe := timedOut_frame w s
  have hpanels : (timedOut w s).panels = (frameMissed w s).panels := by rw [hframe]
  have hcomposer : (timedOut w s).composer = (frameMissed w s).composer := by rw [hframe]
  refine ⟨timedOut w s, silenced, by rw [hexec, returnTimeout, hw], ?_, timedOut_loop w s, fun a => ?_,
    fun a row hc => hcomposer.trans (hface a row hc), fun hc => hcomposer.trans (hnoface hc), fun a ha => ?_,
    fun hn => hnone fun a ha => ?_, ?_, fun via hc => timedOut_of_echo hc s,
    fun hc => ⟨fun via hb he => timedOut_of_waiting hc hb he, fun hn => timedOut_of_neither hc hn⟩⟩
  · rw [hframe, frameMissed_eq]
  · rw [hpanels, frameMissed_panels, haddressed]
    split
    next ha =>
      rw [Awaited.judges, Bool.and_eq_true, Bool.not_eq_true'] at ha
      exact (hback _ ha.1).symm
    next => rfl
  · simp only [fellSilent, haddressed, Bool.and_eq_true, decide_eq_true_eq] at ha
    exact hfell a ha.1.1 ha.1.2 ha.2
  · have hf := hn a
    simp [fellSilent, haddressed, ha] at hf
  · rw [hframe, hdest]
    dsimp only
    change (if s.loop.breaks = true then _ else _) = (if s.loop.breaks = true then _ else _)
    rw [hexc]
    congr 1
    refine raise_exceptions_congr _ _ _ _ ?_ hexc ?_ rfl
    · rw [frameMissed_eq, hsil]
    · rw [frameMissed_eq, hsil]; rfl

end Sys2Proof.Machine
end

section
/-!
SUPPORT. The echo requests and the two reports of the loop signal (R137, R150).
-/

namespace Sys2Proof.Machine

/-! ## The content of a frame that is abandoned -/

theorem echoLost_panels (c : Carried) (s : State) : (echoLost c s).panels = s.panels := by rw [echoLost_eq]

/-- An abandoned frame is no miss: its panel's state and count stand (R142). -/
theorem abandonAwaited_panels (s : State) (a : Addr) :
    ((abandonAwaited s).panels.get a).misses = (s.panels.get a).misses ∧
      ((abandonAwaited s).panels.get a).state = (s.panels.get a).state := by
  unfold abandonAwaited
  split
  case h_2 => exact ⟨rfl, rfl⟩
  case h_1 w _ =>
    rw [echoLost_panels]
    cases h : w.carried.panel? with
    | none => rw [contentBack_of_none h]; exact ⟨rfl, rfl⟩
    | some b =>
      obtain ⟨-, -, hstate, hmisses⟩ := w.queuesBack_standing false (s.panels.get b)
      rw [contentBack_of_panel h]
      simp only [endAwait, updLoop, Tab.get_set]
      split
      next hab =>
        subst hab
        exact ⟨hmisses, hstate⟩
      next => exact ⟨rfl, rfl⟩

theorem abandonAwaited_of_none {s : State} (h : s.loop.awaited = none) : abandonAwaited s = s := by
  simp [abandonAwaited, h]

/-! ## The loop that goes DOWN (R137) -/

/-- The loop is DOWN and LOOP_SIGNAL_LOST has been raised; what was awaited is not yet abandoned. -/
def signalLost (s : State) : State :=
  raise .loopSignalLost .none none (BitVec.ofNat 32 s.loop.state.detail)
    (updLoop (fun l => { l with state := .down, held := none }) s)

theorem goDown_signalLost (s : State) : goDown s = echoRefused (abandonAwaited (signalLost s)) := rfl

theorem goDown_exceptions (s : State) : (goDown s).exceptions =
    (raise .loopSignalLost .none none (BitVec.ofNat 32 s.loop.state.detail) s).exceptions := by
  rw [goDown_signalLost, echoRefused_eq, abandonAwaited_eq]
  rfl

theorem goDown_panels (s : State) (a : Addr) : ((goDown s).panels.get a).misses = (s.panels.get a).misses ∧
    ((goDown s).panels.get a).state = (s.panels.get a).state := by
  rw [goDown_signalLost, echoRefused_eq]
  exact abandonAwaited_panels (signalLost s) a

theorem goDown_of_none {s : State} (h : s.loop.awaited = none) : goDown s = echoRefused (signalLost s) := by
  rw [goDown_signalLost, abandonAwaited_of_none (by exact h)]

/-- With nothing awaited, the echo that waits is all that is left to answer. -/
theorem goDown_echo {s : State} (h : s.loop.awaited = none) :
    (goDown s).panels = s.panels ∧ (goDown s).composer = s.composer ∧
      (∀ v, s.loop.echo = .waiting v → (goDown s).loop.echo = .none ∧
        Answered v .loopEcho (.refused .loopNotUp) s (goDown s)) ∧
      ((∀ v, s.loop.echo ≠ .waiting v) → (goDown s).ports = s.ports) := by
  rw [goDown_of_none h]
  refine ⟨by rw [echoRefused_eq]; rfl, by rw [echoRefused_eq]; rfl, fun v hv => ?_, fun hn => ?_⟩
  · rw [echoRefused_of_waiting (via := v) (by exact hv)]
    exact ⟨by rw [respond_eq]; rfl, respond_answered_of _ _ _ rfl⟩
  · rw [echoRefused_of_not (by exact hn)]
    rfl

theorem LoopState.detail_eq_code (l : LoopState) : l.detail = l.code := by
  cases l <;> rfl

/-! ## The commands -/

theorem takeEcho_outcomes (via : Via) (s : State) :
    (s.loop.state ≠ .up → takeEcho via s = respond via .loopEcho (.refused .loopNotUp) s) ∧
    (s.loop.state = .up → s.loop.echo = .none → takeEcho via s = setEcho (.waiting via) s) ∧
    (s.loop.state = .up → s.loop.echo ≠ .none → takeEcho via s = respond via .loopEcho .busy s) := by
  refine ⟨fun h => ?_, fun h he => ?_, fun h he => ?_⟩
  · rw [takeEcho, if_neg h]
  · rw [takeEcho, if_pos h, he]
  · rw [takeEcho, if_pos h]
    cases he' : s.loop.echo
    case none => exact absurd he' he
    all_goals rfl

theorem signalPresent_of_live {s : State} (hp : s.ports.powerGood = true) (hr : s.ports.resetAsserted = false) :
    signalPresent s = { s with loop := { s.loop with
      signal := true
      state := if s.loop.state = .down then .syncing else s.loop.state
      fresh := decide (s.loop.state = .down) || s.loop.fresh } } := by
  unfold signalPresent
  rw [whenLive_of_live (by exact hp) (by exact hr)]
  by_cases h : s.loop.state = .down <;> simp [beginSync, updLoop, h]

/-- Settles O52: the requests by `takeEcho_outcomes`, the loop that goes DOWN by the parts of `goDown`. -/
theorem echoRequestsAndSignalReports : Obligations.EchoRequestsAndSignalReports := by
  intro via s
  obtain ⟨hrefused, hwaits, hbusy⟩ := takeEcho_outcomes via s
  have habsent : s.ports.powerGood = true → exec .signalAbsent s = .next (signalAbsent s) :=
    fun hp => congrArg Host.Outcome.next (if_pos hp)
  refine ⟨fun ht => ?_, fun hp hr => congrArg Host.Outcome.next (signalPresent_of_live hp hr), fun hp hd => ?_,
    fun hp hd => ?_⟩
  · have hecho : exec (.loopEcho via) s = .next (takeEcho via s) :=
      congrArg Host.Outcome.next (whenTaking_of_taking ht _)
    rw [hecho]
    exact ⟨fun h => congrArg _ (hrefused h), fun h he => congrArg _ (hwaits h he), fun h he => congrArg _ (hbusy h he)⟩
  · rw [habsent hp]
    exact congrArg _ (if_pos hd)
  · have hdown : signalAbsent s = goDown (updLoop (fun l => { l with signal := false, lossLatch := true }) s) :=
      if_neg hd
    rw [habsent hp, hdown]
    refine ⟨_, rfl, goDown_eq _, goDown_loop _, ?_, goDown_panels _, fun hn => goDown_echo hn⟩
    rw [goDown_exceptions, LoopState.detail_eq_code]
    rfl

end Sys2Proof.Machine
end

section
/-!
SUPPORT. A frame of the part's own that comes home (R135, R141): the record it is matched with, and what its return
does by its kind and its taken mark.
-/

namespace Sys2Proof.Machine

theorem updLoop_loop (f : Loop → Loop) (s : State) : (updLoop f s).loop = f s.loop := rfl

theorem raisePanel_updLoop (c : ExcClass) (n d : Nat) (f : Loop → Loop) (s : State) :
    (raisePanel c n d (updLoop f s)).exceptions = (raisePanel c n d s).exceptions := rfl

/-! ## A frame for a panel, taken or not (R126, R140, R141, R144) -/

/-- The panel as the return is judged of it. -/
def Awaited.judged (w : Awaited) (taken : Bool) (p : Panel) : Panel :=
  if w.stale then p else if taken then p.succeeded else p.missed

/-- The return brings an ABSENT panel back. -/
def Awaited.returns (w : Awaited) (taken : Bool) (p : Panel) : Bool := !w.stale && taken && decide (p.state = .absent)

/-- The return makes a PRESENT panel ABSENT. -/
def Awaited.silences (w : Awaited) (taken : Bool) (p : Panel) : Bool :=
  !w.stale && !taken && decide (p.state = .present) && decide (2 ≤ p.misses)

/-- An own frame that was taken: its content leaves its queue, and its panel has succeeded. -/
theorem taken_of_panel {w : Awaited} {a : Addr} (h : w.carried.panel? = some a) (s : State) :
    applyToPanel w panelSuccess (contentBack w true s) = { s with
      panels := s.panels.set a
        (if w.stale then s.panels.get a else (w.queuesBack true (s.panels.get a)).succeeded)
      composer := { s.composer with
        faces := s.composer.faces.set a
          (if w.stale = false ∧ (s.panels.get a).state = .absent then
            (w.faceBack true (s.composer.faces.get a)).wholeMark
          else w.faceBack true (s.composer.faces.get a)) }
      exceptions :=
        if w.stale = false ∧ (s.panels.get a).state = .absent then
          (raisePanel .panelReturned (address a) 0 s).exceptions
        else s.exceptions } := by
  rw [applyToPanel_of_panel h]
  by_cases hs : w.stale = true
  · rw [contentBack_of_panel h]
    simp [hs, Awaited.queuesBack_of_stale]
  · obtain ⟨-, -, hstate, -⟩ := w.queuesBack_standing true (s.panels.get a)
    rw [if_neg hs, panelSuccess_eq, raisePanel_contentBack, contentBack_of_panel h]
    by_cases ha : (s.panels.get a).state = .absent <;> simp [hs, ha, hstate]

theorem matched_of_panel {w : Awaited} {a : Addr} (h : w.carried.panel? = some a) (taken : Bool) (now : Nat)
    (s : State) : matched w taken now s = { s with
      loop := { s.loop with awaited := none, misses := 0 }
      panels := s.panels.set a (w.judged taken (w.queuesBack taken (s.panels.get a)))
      composer := { s.composer with
        faces := s.composer.faces.set a
          (if w.returns taken (s.panels.get a) then
            (w.faceBack taken (s.composer.faces.get a)).wholeMark
          else w.faceBack taken (s.composer.faces.get a)) }
      exceptions :=
        if w.returns taken (s.panels.get a) then (raisePanel .panelReturned (address a) 0 s).exceptions
        else if w.silences taken (s.panels.get a) then (raisePanel .panelSilent (address a) 0 s).exceptions
        else s.exceptions } := by
  have hmatched : matched w taken now s =
      applyToPanel w (fun a => if taken then panelSuccess a else panelMiss a 0)
        (contentBack w taken (updLoop (fun l => { l with awaited := none, misses := 0 }) s)) := by
    unfold matched
    cases hc : w.carried
    case beacon | echo => simp [hc, Carried.panel?] at h
    all_goals rfl
  rw [hmatched]
  cases taken
  · refine (missed_of_panel h 0 _).trans ?_
    by_cases hs : w.stale = true <;>
      simp [hs, Awaited.judged, Awaited.returns, Awaited.silences, Awaited.queuesBack_of_stale, updLoop_loop,
        raisePanel_updLoop]
  · refine (taken_of_panel h _).trans ?_
    by_cases hs : w.stale = true <;>
      simp [hs, Awaited.judged, Awaited.returns, Awaited.silences, Awaited.queuesBack_of_stale, updLoop_loop,
        raisePanel_updLoop]

/-! ## OWN_FRAME_RETURN (R141) -/

theorem exec_ownFrameReturn {s : State} (hp : s.ports.powerGood = true) (hr : s.ports.resetAsserted = false)
    (b : Bytes) (now : Nat) : exec (.ownFrameReturn b now) s = .next (loopIn b now s) :=
  congrArg Host.Outcome.next (whenLive_of_live hp hr (loopIn b now))

theorem loopIn_of_none {b : Bytes} (h : readLoop b = none) (now : Nat) (s : State) :
    loopIn b now s = checkFailed s := by simp [loopIn, h]

theorem loopIn_of_some {b : Bytes} {f : LoopFrame} (h : readLoop b = some f) (now : Nat) (s : State) :
    loopIn b now s = judgeFrame f now s := by simp [loopIn, h]

/-- A frame that comes home in time with the awaited sequence. -/
theorem matchedBy_iff (s : State) (f : LoopFrame) (now : Nat) (w : Awaited) : matchedBy s f now w = true ↔
    f.flags.toNat % 16 = w.sequence ∧ now ≤ w.sentAt + 1000 * s.loop.active.timeout := by
  simp [matchedBy, LoopFrame.sequence, and_comm]

/-- A frame of origin 0 that is not matched is stripped. -/
theorem ownReturn_of_not {f : LoopFrame} {now : Nat} {s : State}
    (h : ∀ w, s.loop.awaited = some w → matchedBy s f now w = false) : ownReturn f now s = stripRogue 0 2 s := by
  unfold ownReturn
  split
  next w hw => simp [h w hw]
  next => rfl

theorem ownReturn_of_matched {f : LoopFrame} {now : Nat} {s : State} {w : Awaited} (hw : s.loop.awaited = some w)
    (h : matchedBy s f now w = true) : ownReturn f now s = matched w f.taken now s := by
  simp [ownReturn, hw, h]

/-- A beacon is home: the loop is UP, and, where it was BROKEN, every face is wholly marked (R137). -/
theorem beaconHome_eq (s : State) : beaconHome s = { s with
    loop := { s.loop with
      state := if s.loop.state = .syncing ∨ s.loop.state = .broken then .up else s.loop.state }
    composer := if s.loop.state = .broken then (updFaces (fun _ f => f.wholeMark) s).composer else s.composer } := by
  unfold beaconHome
  cases h : s.loop.state
  case syncing | broken => rfl
  all_goals
    simp only [reduceCtorEq, or_self, if_false]
    rw [← h]

theorem Awaited.queuesBack_reply {w : Awaited} {a : Addr} {serial : Nat} (h : w.carried = .reply a serial)
    (taken : Bool) (p : Panel) : w.queuesBack taken p = { p with
      replies := if w.stale then p.replies
        else if taken then p.replies.filter fun e => e.serial != serial
        else p.replies.map fun e => if e.serial = serial then e.back else e } := by
  simp only [queuesBack, h, repliesBack, beq_iff_eq]
  cases w.stale <;> rfl

theorem Awaited.queuesBack_ticket {w : Awaited} {a : Addr} {id : BookingId} (h : w.carried = .ticket a id)
    (taken : Bool) (p : Panel) : w.queuesBack taken p = { p with
      tickets := if w.stale then p.tickets
        else (if taken then p.tickets.filter fun e => e.booking != id || e.replaced else p.tickets).map fun e =>
          if e.booking = id then { e with replaced := false } else e } := by
  simp only [queuesBack, h, ticketsBack, beq_iff_eq]
  cases w.stale <;> rfl

/-- Settles O55: a frame for a panel by `matched_of_panel`, a beacon by `beaconHome_eq`. -/
theorem ownFrameReturnEndsTheAwaiting : Obligations.OwnFrameReturnEndsTheAwaiting := by
  intro bytes now s hp hr i
  have hexec : exec i s = .next (loopIn bytes now s) := exec_ownFrameReturn hp hr bytes now
  refine ⟨fun h => by rw [hexec, loopIn_of_none h]; rfl, fun f hf ho => ?_⟩
  have hown : exec i s = .next (ownReturn f now s) := by
    rw [hexec, loopIn_of_some hf, judgeFrame, if_pos ho]
  intro home l
  refine ⟨fun hnot => ?_, fun w hw => ?_⟩
  · rw [hown, ownReturn_of_not]
    · exact ⟨_, rfl, rfl, rfl⟩
    · intro w hw
      rw [← Bool.not_eq_true, matchedBy_iff]
      exact fun hm => hnot w ⟨hw, hm⟩
  obtain ⟨haw, hmatch⟩ := hw
  have hmatched : exec i s = .next (matched w f.taken now s) := by
    rw [hown, ownReturn_of_matched haw ((matchedBy_iff ..).2 hmatch)]
  rw [hmatched]
  refine ⟨fun hc => ?_, fun via hc => ?_, fun a => ?_⟩
  · have hbeacon : matched w f.taken now s = beaconHome { s with loop := l } := by
      simp only [matched, hc]
      rfl
    rw [hbeacon, beaconHome_eq]
    refine ⟨_, rfl, rfl, rfl, ?_, fun a => ?_⟩
    · split <;> rfl
    · simp only
      split
      · simp [updFaces, Face.wholeMark]
      · rfl
  · have hecho : matched w f.taken now s =
        echoHome via (now - w.sentAt) { s with loop := l } := by
      simp only [matched, hc]
      rfl
    rw [hecho, echoHome]
    refine ⟨_, rfl, ?_, respond_answered_of _ _ _ rfl⟩
    rw [respond_eq]
    rfl
  · intro p taken returned silent judged ends face shows
    have hjudged : judged = w.judged taken := by
      funext q
      simp only [judged, Awaited.judged, Panel.succeeded, Panel.missed]
      cases w.stale
      · by_cases hm : q.state = .muted
        · simp [hm]
        · simp [hm]
      · rfl
    have hend : ∀ p' face', w.carried.panel? = some a → p' = w.queuesBack taken p → face' = w.faceBack taken face →
        ∃ t, Host.Outcome.next (φ := Fault) (ρ := Refusal) (matched w f.taken now s) = .next t ∧ ends p' t ∧
          shows face' t := by
      rintro p' face' hc rfl rfl
      rw [matched_of_panel hc]
      exact ⟨_, rfl, ⟨rfl, by rw [hjudged]; rfl, rfl⟩, rfl⟩
    refine ⟨fun row hc => ?_, fun serial hc => ?_, fun id hc => ?_⟩
    · exact hend _ _ (by rw [hc]; rfl) (by simp only [Awaited.queuesBack, hc]) (by simp only [Awaited.faceBack, hc])
    · have hq := Awaited.queuesBack_reply hc taken p
      obtain ⟨t, ht, hends, hshows⟩ := hend _ face (by rw [hc]; rfl) hq.symm (by simp only [Awaited.faceBack, hc])
      exact ⟨t, ht, hshows, hends⟩
    · have hq := Awaited.queuesBack_ticket hc taken p
      obtain ⟨t, ht, hends, hshows⟩ := hend _ face (by rw [hc]; rfl) hq.symm (by simp only [Awaited.faceBack, hc])
      exact ⟨t, ht, hshows, hends⟩

end Sys2Proof.Machine
end

section
/-!
SUPPORT. A panel's frame at loop-in (R145), and how a CALL by its fields is the same as the frame that carries them.
-/

namespace Sys2Proof.Machine

/-! ## Frames as read (R135, R172) -/

/-- A frame that is read has the payload that its kind requires. -/
theorem readLoop_payload {b : Bytes} {f : LoopFrame} (h : readLoop b = some f) :
    requiredPayload f.kind f.payload ≤ f.payload.length := by
  unfold readLoop at h
  dsimp only at h
  split at h
  · cases h
  · split at h
    · cases h
    · split at h
      · cases h
      next hlen =>
        cases h
        exact Nat.not_lt.1 hlen

theorem byte_toNat (n : Nat) : (byte n).toNat = n % 256 := BitVec.toNat_ofNat n 8

/-- The frame of a CALL by its fields. -/
def callFrame (origin sequence : Nat) (payload : Bytes) : LoopFrame :=
  { destination := 0, origin := origin, kind := callKind, flags := byte (sequence % 16), payload := payload }

theorem callFrame_sequence (origin sequence : Nat) (payload : Bytes) :
    (callFrame origin sequence payload).sequence = sequence % 16 := by
  simp only [callFrame, LoopFrame.sequence, byte_toNat]
  omega

/-- A CALL of no marks is the frame of its fields. -/
theorem callFrame_eq {f : LoopFrame} (ho : f.origin = 0) (hd : f.destination = 0) (hk : f.kind = 6)
    (h : f.flags.toNat < 16) : callFrame 0 f.flags.toNat f.payload = f := by
  obtain ⟨destination, origin, kind, flags, payload⟩ := f
  obtain rfl : origin = 0 := ho
  obtain rfl : destination = 0 := hd
  obtain rfl : kind = 6 := hk
  have hflags : byte (flags.toNat % 16) = flags := by
    rw [Nat.mod_eq_of_lt h, byte, BitVec.ofNat_toNat, BitVec.setWidth_eq]
  simp only [callFrame, hflags]
  rfl

theorem callIn_of_required {origin sequence : Nat} {payload : Bytes} {s : State}
    (h : requiredPayload 6 payload ≤ payload.length) :
    callIn origin sequence payload s = judgeFrame (callFrame origin sequence payload) (callMoment s) s :=
  if_neg (Nat.not_lt.2 h)

theorem exec_call {s : State} (hp : s.ports.powerGood = true) (hr : s.ports.resetAsserted = false)
    (origin sequence : Nat) (payload : Bytes) :
    exec (.call origin sequence payload) s = .next (callIn origin sequence payload s) :=
  congrArg Host.Outcome.next (whenLive_of_live hp hr (callIn origin sequence payload))

/-! ## The lines of R145 -/

theorem judgeFrame_of_panel {f : LoopFrame} {a : Addr} (h : f.origin = a.val + 1) (now : Nat) (s : State) :
    judgeFrame f now s =
      if (s.panels.get a).kind = .unbound then stripRogue f.origin 0 s else judgeBound a f now s := by
  rw [judgeFrame, if_neg (by omega), judgePanelFrame, h, addr?_val_succ]

theorem judgeFrame_of_noPanel {f : LoopFrame} (h : 112 < f.origin) (now : Nat) (s : State) :
    judgeFrame f now s = stripRogue 0 4 s := by
  rw [judgeFrame, if_neg (by omega), judgePanelFrame, addr?_eq_none.2 (.inr h)]

/-- A frame for the part that is a CALL is judged by its origin, sequence and payload. -/
theorem judgeFrame_call {f : LoopFrame} (ho : f.origin ≠ 0) (hd : f.destination = 0) (hk : f.kind = 6) (now now' : Nat)
    (s : State) :
    judgeFrame f now s = judgeFrame (callFrame f.origin (f.flags.toNat % 16) f.payload) now' s := by
  have hseq : (callFrame f.origin (f.flags.toNat % 16) f.payload).sequence = f.sequence := by
    rw [callFrame_sequence, Nat.mod_mod, LoopFrame.sequence]
  have hbound : ∀ a, judgeBound a f now s =
      judgeBound a (callFrame f.origin (f.flags.toNat % 16) f.payload) now' s := by
    intro a
    unfold judgeBound
    rw [hseq]
    simp [callFrame, hd, hk, callKind]
  rw [judgeFrame, judgeFrame, if_neg ho, if_neg (by exact ho)]
  unfold judgePanelFrame
  simp only [hbound]
  rfl

/-- Settles O57, line by line. -/
theorem panelFrameIsStrippedOrSentOn : Obligations.PanelFrameIsStrippedOrSentOn := by
  intro bytes now s hp hr i rogue
  have hexec : exec i s = .next (loopIn bytes now s) :=
    congrArg Host.Outcome.next (whenLive_of_live hp hr (loopIn bytes now))
  refine ⟨fun h => by rw [hexec, loopIn_of_none h]; rfl, fun f hf => ?_⟩
  have hframe : exec i s = .next (judgeFrame f now s) := by rw [hexec, loopIn_of_some hf]
  have hrogue : ∀ subject detail, judgeFrame f now s = stripRogue subject detail s → rogue subject detail :=
    fun subject detail h => ⟨_, hframe.trans (congrArg _ h), rfl, rfl⟩
  refine ⟨fun _ => rfl, fun ho hd hk hflags => ?_, fun ho hd hk => ?_,
    fun ho => hrogue 0 4 (judgeFrame_of_noPanel ho now s), fun a ho => ⟨fun hu => ?_, fun hb => ?_⟩⟩
  · have hlen : requiredPayload 6 f.payload ≤ f.payload.length := hk ▸ readLoop_payload hf
    rw [exec_call hp hr, exec_ownFrameReturn hp hr, loopIn_of_some hf, callIn_of_required hlen,
      callFrame_eq ho hd hk hflags]
    rfl
  · have hlen : requiredPayload 6 f.payload ≤ f.payload.length := hk ▸ readLoop_payload hf
    rw [hframe, exec_call hp hr, callIn_of_required hlen, judgeFrame_call ho hd hk now]
  · exact hrogue f.origin 0 (by rw [judgeFrame_of_panel ho, if_pos hu])
  · have hbound : judgeFrame f now s = judgeBound a f now s := by rw [judgeFrame_of_panel ho, if_neg hb]
    refine ⟨fun hd hs => hrogue f.origin 1 ?_, fun hd hs => ?_, fun hd hk => hrogue f.origin 3 ?_⟩
    · rw [hbound, judgeBound, if_pos hd]
      exact if_pos hs
    · rw [hframe, hbound, judgeBound, if_pos hd, if_neg (by simpa [LoopFrame.seen] using hs)]
      rfl
    · rw [hbound, judgeBound, if_neg (by simpa using hd)]
      exact if_pos hk

end Sys2Proof.Machine
end

section
/-!
SUPPORT. A CALL of a bound panel (R144, R146, R147): the violation of its window, the panel that a call taken in leaves,
its place among the replies, and the block that it is handed to.
-/

namespace Sys2Proof.Machine

/-! ## A call by its fields -/

theorem exec_call_of_bound {a : Addr} {sequence : Nat} {payload : Bytes} {s : State}
    (hp : s.ports.powerGood = true) (hr : s.ports.resetAsserted = false) (hk : (s.panels.get a).kind ≠ .unbound)
    (hs : sequence < 16) (hlen : requiredPayload 6 payload ≤ payload.length) :
    exec (.call (a.val + 1) sequence payload) s = .next (judgeCall a sequence payload s) := by
  have hbound : judgeBound a (callFrame (a.val + 1) sequence payload) (callMoment s) s =
      judgeCall a (callFrame (a.val + 1) sequence payload).sequence payload s := rfl
  rw [exec_call hp hr, callIn_of_required hlen, judgeFrame_of_panel (a := a) rfl, if_neg hk, hbound,
    callFrame_sequence, Nat.mod_eq_of_lt hs]

theorem judgeCall_of_closed {a : Addr} {s : State} (h : s.loop.state ≠ .up ∨ (s.panels.get a).state = .muted)
    (sequence : Nat) (payload : Bytes) : judgeCall a sequence payload s = strip s := if_pos h

theorem inWindow_iff (s : State) (a : Addr) : inWindow s a = true ↔
    (s.panels.get a).cycleWindow.getD (a.val + 1) % s.loop.active.windows = s.loop.currentWindow ∧
      (s.panels.get a).callsInWindow < 2 := by
  simp [inWindow, windowOf, address, Config.callsPerWindow]

theorem judgeCall_of_open {a : Addr} {s : State} (hu : s.loop.state = .up) (hm : (s.panels.get a).state ≠ .muted)
    (sequence : Nat) (payload : Bytes) : judgeCall a sequence payload s =
      if inWindow s a then takeCall a sequence payload s else windowViolation a s :=
  if_neg (by simp [hu, hm])

/-! ## A violation (R144, R146) -/

theorem raise_counters (c : ExcClass) (u : Subject) (r : Option RoomNo) (d : BitVec 32) (s : State) (i : Fin 22) :
    (raise c u r d s).exceptions.counters.get i =
      if i = c.number then min (s.exceptions.counters.get i + 1) 65535 else s.exceptions.counters.get i := by
  rw [raise_exceptions]
  simp only [Tab.get_upd]
  split
  next h => rw [h]
  next => rfl

theorem raisePanel_eq (c : ExcClass) (n d : Nat) (s : State) :
    raisePanel c n d s = { s with exceptions := (raisePanel c n d s).exceptions } := rfl

/-- A violation is stripped and counted; the third in a row mutes the panel. -/
theorem windowViolation_eq (a : Addr) (s : State) : windowViolation a s = { s with
    loop := { s.loop with strays := min (s.loop.strays + 1) 65535 }
    panels := s.panels.set a { s.panels.get a with
      violations := (s.panels.get a).violations + 1
      state := if (s.panels.get a).violations + 1 < 3 then (s.panels.get a).state else .muted }
    exceptions := (windowViolation a s).exceptions } := by
  unfold windowViolation
  dsimp only
  by_cases h : (s.panels.get a).violations + 1 < 3
  · rw [if_pos (by exact h)]
    simp only [h, if_true]
    rfl
  · rw [if_neg (by exact h)]
    simp only [h, if_false]
    rfl

theorem windowViolation_counters (a : Addr) (s : State) :
    (windowViolation a s).exceptions.counters.get 14 = min (s.exceptions.counters.get 14 + 1) 65535 ∧
    (windowViolation a s).exceptions.counters.get 13 =
      if (s.panels.get a).violations + 1 < 3 then s.exceptions.counters.get 13
      else min (s.exceptions.counters.get 13 + 1) 65535 := by
  have hstrip : (strip s).exceptions = s.exceptions := rfl
  unfold windowViolation raisePanel
  dsimp only
  by_cases h : (s.panels.get a).violations + 1 < 3
  · rw [if_pos (by exact h)]
    simp [hstrip, raise_counters, ExcClass.number, h]
  · rw [if_neg (by exact h)]
    simp [hstrip, raise_counters, ExcClass.number, h]

/-! ## A call taken in (R144, R146, step 4) -/

/-- A panel that is not MUTED, as a call taken in leaves it. -/
def Panel.called (p : Panel) : Panel :=
  { p with violations := 0, callsInWindow := p.callsInWindow + 1, state := .present,
           misses := if p.state = .present then p.misses else 0 }

/-- What a call taken in does beside: an ABSENT panel is back, with its face wholly marked. -/
def callSeen (a : Addr) (s : State) : State :=
  if (s.panels.get a).state = .absent then
    { s with
      exceptions := (raise .panelReturned (.panel (a.val + 1)) none 0#32 s).exceptions
      composer := { s.composer with
        faces := s.composer.faces.set a { s.composer.faces.get a with dirty := Tab.fill 8 true } } }
  else s

theorem callSeen_eq (a : Addr) (s : State) :
    callSeen a s = { s with exceptions := (callSeen a s).exceptions, composer := (callSeen a s).composer } := by
  unfold callSeen
  split <;> rfl

theorem panelSeen_of_call {a : Addr} {s : State} (h : (s.panels.get a).state ≠ .muted) :
    panelSeen a (updPanel a (fun p => { p with violations := 0, callsInWindow := p.callsInWindow + 1 }) s) =
      updPanel a Panel.called (callSeen a s) := by
  rw [panelSeen_eq, raisePanel_updPanel _ _ _ _ _ ?_]
  · cases hs : (s.panels.get a).state
    case muted => exact absurd hs h
    all_goals
      simp [hs, updPanel, Tab.upd_eq_set, callSeen, Panel.called, Panel.shown, raisePanel, address, Face.wholeMark]
  · exact fun _ => ⟨rfl, rfl⟩

/-- A call that finds four replies unanswered is an overrun. -/
theorem takeCall_overrun {a : Addr} {s : State} (hm : (s.panels.get a).state ≠ .muted)
    (hr : 4 ≤ (s.panels.get a).replies.length) (sequence : Nat) (payload : Bytes) :
    takeCall a sequence payload s = { callSeen a s with
      loop := { s.loop with strays := min (s.loop.strays + 1) 65535 }
      panels := s.panels.set a (s.panels.get a).called
      exceptions := (raise .callOverrun (.panel (a.val + 1)) none (BitVec.ofNat 32 (byteAt payload 0))
        (callSeen a s)).exceptions } := by
  have hpanels : (callSeen a s).panels = s.panels := by rw [callSeen_eq]
  have hloop : (callSeen a s).loop = s.loop := by rw [callSeen_eq]
  have hreplies : Config.replyPlaces ≤ ((updPanel a Panel.called (callSeen a s)).panels.get a).replies.length := by
    simpa [updPanel, hpanels, Panel.called, Config.replyPlaces] using hr
  unfold takeCall
  dsimp only
  rw [panelSeen_of_call hm, if_pos hreplies, raisePanel_eq, strip, raisePanel_updLoop, raisePanel_updPanel _ _ _ _ _ ?_]
  · simp only [updLoop, updPanel, Tab.upd_eq_set, hpanels, hloop]
    rfl
  · exact fun _ => ⟨rfl, rfl⟩

/-! ## Its place among the replies (R147) -/

/-- A call taken in has its place among the replies, in some state. -/
def callMade (a : Addr) (sequence : Nat) (payload : Bytes) (st : ReplyState) (s : State) : State :=
  { callSeen a s with
    panels := s.panels.set a { (s.panels.get a).called with
      replies := (s.panels.get a).replies ++ [⟨s.deliveries.nextSerial, byteAt payload 0, sequence, st⟩] }
    deliveries := { s.deliveries with nextSerial := s.deliveries.nextSerial + 1 } }

theorem takeCall_made {a : Addr} {s : State} (hm : (s.panels.get a).state ≠ .muted)
    (hr : (s.panels.get a).replies.length < 4) (sequence : Nat) (payload : Bytes) :
    takeCall a sequence payload s =
      handCall ⟨a, s.deliveries.nextSerial⟩ payload (callMade a sequence payload .waiting s) := by
  have hpanels : (callSeen a s).panels = s.panels := by rw [callSeen_eq]
  have hdeliveries : (callSeen a s).deliveries = s.deliveries := by rw [callSeen_eq]
  have hreplies : ¬ Config.replyPlaces ≤ ((updPanel a Panel.called (callSeen a s)).panels.get a).replies.length := by
    simpa [updPanel, hpanels, Panel.called, Config.replyPlaces] using hr
  unfold takeCall
  dsimp only
  rw [panelSeen_of_call hm, if_neg hreplies]
  simp [makeReply, callMade, updPanel, Tab.upd_eq_set, hpanels, hdeliveries, Panel.called]

/-- An answer given at once is found in that place. -/
theorem answerCall_made {a : Addr} {s : State}
    (hn : ∀ e, e ∈ (s.panels.get a).replies → e.serial ≠ s.deliveries.nextSerial) (sequence : Nat) (payload : Bytes)
    (x : CallAnswer) :
    answerCall ⟨a, s.deliveries.nextSerial⟩ x (callMade a sequence payload .waiting s) =
      callMade a sequence payload (.ready x) s := by
  have hothers : (s.panels.get a).replies.map (fun e => if e.serial = s.deliveries.nextSerial then
      { e with state := .ready x } else e) = (s.panels.get a).replies :=
    (List.map_congr_left fun e he => if_neg (hn e he)).trans (List.map_id _)
  simp [answerCall, callMade, Tab.upd_eq_set, hothers]

/-! ## The block that it is handed to (R48, R49, R146) -/

theorem handCall_of_door {place : ReplyPlace} {r : RoomNo} {s : State} (hk : (s.panels.get place.panel).kind = .door)
    (hb : (s.panels.get place.panel).binding = r.val) (payload : Bytes) :
    handCall place payload s = handDoorCall place r payload s := by
  have hroom : (s.panels.get place.panel).room? = some r := by
    rw [Panel.room?, hk, hb]
    exact dif_pos r.isLt
  simp only [handCall, hroom]

theorem handCall_of_pantry {place : ReplyPlace} {k : KitchenNo} {s : State}
    (hk : (s.panels.get place.panel).kind = .pantry) (hb : (s.panels.get place.panel).binding = k.val)
    (payload : Bytes) : handCall place payload s = handPantryCall place k payload s := by
  have hroom : (s.panels.get place.panel).room? = none := by
    rw [Panel.room?, hk]
    rfl
  have hkitchen : (s.panels.get place.panel).kitchen? = some k := by
    rw [Panel.kitchen?, hk, hb]
    exact dif_pos k.isLt
  simp only [handCall, hroom, hkitchen]

theorem callMade_bound (a : Addr) (sequence : Nat) (payload : Bytes) (st : ReplyState) (s : State) :
    ((callMade a sequence payload st s).panels.get a).kind = (s.panels.get a).kind ∧
      ((callMade a sequence payload st s).panels.get a).binding = (s.panels.get a).binding := by
  simp [callMade, Panel.called]

theorem callMade_engine (a : Addr) (sequence : Nat) (payload : Bytes) (st : ReplyState) (s : State) :
    (callMade a sequence payload st s).engine = s.engine := by
  have h : (callSeen a s).engine = s.engine := by rw [callSeen_eq]
  exact h

/-- A door panel's request joins the queue, or its place holds BUSY. -/
theorem offerPanel_made {a : Addr} {s : State}
    (hn : ∀ e, e ∈ (s.panels.get a).replies → e.serial ≠ s.deliveries.nextSerial) (q : Request)
    (sequence : Nat) (payload : Bytes) :
    offerPanel ⟨a, s.deliveries.nextSerial⟩ q (callMade a sequence payload .waiting s) =
      if s.engine.queue.length < 16 then
        { callMade a sequence payload .waiting s with engine := (joinQueue q s).engine }
      else callMade a sequence payload (.ready (.bare .busy)) s := by
  simp only [offerPanel, queueFull, callMade_engine, Config.queuePlaces, decide_eq_true_eq, answerCall_made hn]
  by_cases hq : s.engine.queue.length < 16
  · rw [if_neg (Nat.not_le.2 hq), if_pos hq, joinQueue, callMade_engine]
    rfl
  · rw [if_pos (Nat.not_lt.1 hq), if_neg hq]

/-- The same, as the state that it leaves. -/
theorem offerPanel_made_leaves {a : Addr} {s : State}
    (hn : ∀ e, e ∈ (s.panels.get a).replies → e.serial ≠ s.deliveries.nextSerial) (q : Request)
    (sequence : Nat) (payload : Bytes) :
    ∃ t, offerPanel ⟨a, s.deliveries.nextSerial⟩ q (callMade a sequence payload .waiting s) = t ∧
      t = { callSeen a s with
        panels := t.panels
        engine := t.engine
        deliveries := { s.deliveries with nextSerial := s.deliveries.nextSerial + 1 } } ∧
      (s.engine.queue.length < 16 →
        t.panels = (callMade a sequence payload .waiting s).panels ∧ t.engine = (joinQueue q s).engine) ∧
      (16 ≤ s.engine.queue.length →
        t.panels = (callMade a sequence payload (.ready (.bare .busy)) s).panels ∧ t.engine = s.engine) := by
  refine ⟨_, offerPanel_made hn q sequence payload, ?_, fun hq => ?_, fun hq => ?_⟩
  · split <;> rfl
  · rw [if_pos hq]
    exact ⟨rfl, rfl⟩
  · rw [if_neg (Nat.not_lt.2 hq)]
    exact ⟨rfl, callMade_engine ..⟩

theorem handDoorCall_tap {payload : Bytes} (h : byteAt payload 0 = 1) (place : ReplyPlace) (r : RoomNo) (s : State) :
    handDoorCall place r payload s = { s with deliveries := { s.deliveries with
      taps := s.deliveries.taps ++ [⟨place, r, BitVec.ofNat 32 (word32At payload 1)⟩] } } := by
  simp only [handDoorCall, h]

theorem handDoorCall_bookNow {payload : Bytes} (h : byteAt payload 0 = 2)
    (hchoice : 1 ≤ byteAt payload 1 ∧ byteAt payload 1 ≤ 4) (place : ReplyPlace) (r : RoomNo) (s : State) :
    handDoorCall place r payload s = offerPanel place (.bookNow place r (byteAt payload 1)) s := by
  simp only [handDoorCall, h, if_pos hchoice]

theorem handDoorCall_extend {payload : Bytes} (h : byteAt payload 0 = 3) (place : ReplyPlace) (r : RoomNo) (s : State) :
    handDoorCall place r payload s = offerPanel place (.extend place r) s := by
  simp only [handDoorCall, h]

theorem handDoorCall_endNow {payload : Bytes} (h : byteAt payload 0 = 4) (place : ReplyPlace) (r : RoomNo) (s : State) :
    handDoorCall place r payload s = offerPanel place (.endNow place r) s := by
  simp only [handDoorCall, h]

theorem handDoorCall_malformed {payload : Bytes}
    (h : (byteAt payload 0 = 2 ∧ ¬ (1 ≤ byteAt payload 1 ∧ byteAt payload 1 ≤ 4)) ∨ byteAt payload 0 = 0 ∨
      5 ≤ byteAt payload 0) (place : ReplyPlace) (r : RoomNo) (s : State) :
    handDoorCall place r payload s = answerCall place (.bare .malformed) s := by
  unfold handDoorCall
  split
  case h_2 h2 => exact if_neg (by omega)
  case h_5 => rfl
  all_goals omega

theorem handPantryCall_malformed {payload : Bytes} (h : byteAt payload 0 < 5 ∨ 6 < byteAt payload 0)
    (place : ReplyPlace) (k : KitchenNo) (s : State) :
    handPantryCall place k payload s = answerCall place (.bare .malformed) s := by
  unfold handPantryCall
  dsimp only
  split
  case h_3 => rfl
  all_goals omega

theorem handPantryCall_of_call {payload : Bytes} (h : byteAt payload 0 = 5 ∨ byteAt payload 0 = 6)
    (place : ReplyPlace) (k : KitchenNo) (s : State) :
    handPantryCall place k payload s = { s with deliveries := { s.deliveries with
      pantryCalls := s.deliveries.pantryCalls ++
        [⟨place, k, BitVec.ofNat 16 (word16At payload 1), byteAt payload 0 == 6⟩] } } := by
  obtain h | h := h <;> simp only [handPantryCall, h] <;> rfl

/-- Settles O58, by the step of R146 that the call comes to; one taken in has its place made before it is handed on. -/
theorem callIsTakenInItsPanelsWindow : Obligations.CallIsTakenInItsPanelsWindow := by
  intro a sequence payload s hp hr hk hs hlen i p stripped mine
  have hexec : exec i s = .next (judgeCall a sequence payload s) := exec_call_of_bound hp hr hk hs hlen
  refine ⟨fun h => by rw [hexec, judgeCall_of_closed h]; rfl, fun hu hm hw => ?_, fun hu hm hw => ?_⟩
  · rw [hexec, judgeCall_of_open hu hm, if_neg (mt (inWindow_iff s a).1 hw)]
    refine ⟨_, rfl, ?_, ?_, windowViolation_counters a s⟩
    · rw [windowViolation_eq]
    · rw [windowViolation_eq]
  · rw [hexec, judgeCall_of_open hu hm, if_pos ((inWindow_iff s a).2 hw)]
    refine ⟨fun hr => ⟨_, congrArg _ (takeCall_overrun hm hr sequence payload), rfl, rfl⟩, fun hr hn => ?_⟩
    rw [takeCall_made hm hr]
    obtain ⟨hkind, hbinding⟩ := callMade_bound a sequence payload .waiting s
    refine ⟨fun r hdoor hroom => ?_, fun k hpantry hkitchen => ?_⟩
    · rw [handCall_of_door (hkind.trans hdoor) (hbinding.trans hroom)]
      refine ⟨fun h => ⟨_, congrArg _ (handDoorCall_tap h ..), rfl, rfl⟩, fun h hlo hhi => ?_, fun h => ?_,
        fun h => ?_, fun h => ?_⟩
      · rw [handDoorCall_bookNow h ⟨hlo, hhi⟩]
        obtain ⟨t, ht, hleft⟩ := offerPanel_made_leaves hn _ sequence payload
        exact ⟨t, congrArg _ ht, hleft⟩
      · rw [handDoorCall_extend h]
        obtain ⟨t, ht, hleft⟩ := offerPanel_made_leaves hn _ sequence payload
        exact ⟨t, congrArg _ ht, hleft⟩
      · rw [handDoorCall_endNow h]
        obtain ⟨t, ht, hleft⟩ := offerPanel_made_leaves hn _ sequence payload
        exact ⟨t, congrArg _ ht, hleft⟩
      · rw [handDoorCall_malformed h, answerCall_made hn]
        exact ⟨_, rfl, rfl, rfl⟩
    · rw [handCall_of_pantry (hkind.trans hpantry) (hbinding.trans hkitchen)]
      refine ⟨fun h => ⟨_, congrArg _ (handPantryCall_of_call h ..), rfl, rfl⟩, fun h => ?_⟩
      rw [handPantryCall_malformed h, answerCall_made hn]
      exact ⟨_, rfl, rfl, rfl⟩

end Sys2Proof.Machine
end

section
/-!
SUPPORT. A window opens (R138): what a return timeout that has run out leaves of it, the window, the settings and the
panels that it opens with, and its beacon.
-/

namespace Sys2Proof.Machine

/-! ## An own frame that has timed out before (R142) -/

theorem respond_loopLive (via : Via) (k : Kind) (x : Answer) (s : State) :
    loopLive (respond via k x s) = loopLive s := by rw [respond_eq]; rfl

theorem echoLost_loopLive (c : Carried) (s : State) : loopLive (echoLost c s) = loopLive s := by
  unfold echoLost
  split
  · exact respond_loopLive ..
  · rfl

theorem echoRefused_loopLive (s : State) : loopLive (echoRefused s) = loopLive s := by
  unfold echoRefused
  split
  · exact respond_loopLive ..
  · rfl

theorem timedOut_loopLive (w : Awaited) (s : State) : loopLive (timedOut w s) = loopLive s := by
  have hmissed : ∀ u : State, u.ports = s.ports → loopLive u = loopLive s := fun u hu => by rw [loopLive, hu]; rfl
  rw [timedOut_eq]
  split
  · rw [echoRefused_loopLive, echoLost_loopLive]
    exact hmissed _ (by rw [frameMissed_eq]; rfl)
  · rw [echoLost_loopLive]
    exact hmissed _ (by rw [frameMissed_eq])

theorem exec_windowOpen {s : State} (h : loopLive s = true) (hd : s.loop.state ≠ .down) (now : Nat) :
    exec (.windowOpen now) s = .next (openWindow now s) :=
  congrArg Host.Outcome.next ((if_pos h).trans (if_neg hd))

theorem lapseAwaited_of_lapsed {now : Nat} {w : Awaited} {s : State} (hw : s.loop.awaited = some w)
    (h : w.sentAt + 1000 * s.loop.active.timeout ≤ now) : lapseAwaited now s = timedOut w s := by
  simp only [lapseAwaited, hw, if_pos h]

theorem lapseAwaited_of_running {now : Nat} {s : State}
    (h : ∀ w, s.loop.awaited = some w → now < w.sentAt + 1000 * s.loop.active.timeout) : lapseAwaited now s = s := by
  unfold lapseAwaited
  split
  case h_1 w hw => exact if_neg (Nat.not_le.2 (h w hw))
  case h_2 => rfl

/-- A window that opens times the frame out itself, where it has not been before. -/
theorem openWindow_timedOut {now : Nat} {w : Awaited} {s : State} (hw : s.loop.awaited = some w)
    (h : w.sentAt + 1000 * s.loop.active.timeout ≤ now) : openWindow now (timedOut w s) = openWindow now s := by
  have hnone : (timedOut w s).loop.awaited = none := by rw [timedOut_loop]
  have hstays : lapseAwaited now (timedOut w s) = timedOut w s :=
    lapseAwaited_of_running fun v hv => by rw [hnone] at hv; cases hv
  rw [openWindow, openWindow, lapseAwaited_of_lapsed hw h, hstays]

/-! ## The window that opens (R136, R138, R143) -/

/-- The window after this one is the first of a new cycle. -/
abbrev Loop.cycleEnds (l : Loop) : Prop := l.fresh = false ∧ l.active.windows ≤ l.currentWindow + 1

/-- The window that opens is the first of a cycle. -/
abbrev Loop.cycleStarts (l : Loop) : Prop := l.fresh = true ∨ l.cycleEnds

/-- The loop and the panels with the next window open. -/
def openedWindow (now : Nat) (s : State) : State :=
  { s with
    loop := { s.loop with
      active := if s.loop.cycleStarts then s.settings.activated else s.loop.active
      currentWindow := if s.loop.cycleStarts then 0 else s.loop.currentWindow + 1
      cycleCount := if s.loop.cycleEnds then (s.loop.cycleCount + 1) % 256 else s.loop.cycleCount
      fresh := false
      openedAt := now
      cursor := 0 }
    panels := s.panels.map fun p => { p with
      callsInWindow := 0, served := false, cycleWindow := if s.loop.cycleStarts then p.window else p.cycleWindow } }

theorem freshWindow_nextWindow (now : Nat) (s : State) : freshWindow now (nextWindow s) = openedWindow now s := by
  cases hf : s.loop.fresh with
  | true =>
    have hs : s.loop.cycleStarts := .inl hf
    have he : ¬ s.loop.cycleEnds := fun h => by simp [h.1] at hf
    simp [freshWindow, nextWindow, hf, startCycle, openedWindow, hs, he, Tab.map_map, Function.comp_def]
  | false =>
    by_cases hw : s.loop.currentWindow + 1 < s.loop.active.windows
    · have he : ¬ s.loop.cycleEnds := fun h => absurd h.2 (Nat.not_le.2 hw)
      have hs : ¬ s.loop.cycleStarts := fun h => h.elim (fun h => by simp [h] at hf) he
      simp [freshWindow, nextWindow, hf, hw, updLoop, openedWindow, hs, he]
    · have he : s.loop.cycleEnds := ⟨hf, Nat.not_lt.1 hw⟩
      have hs : s.loop.cycleStarts := .inr he
      simp [freshWindow, nextWindow, hf, hw, updLoop, startCycle, openedWindow, hs, he, Tab.map_map,
        Function.comp_def]

/-! ## Its beacon (R138, R145) -/

theorem sendDue_dueBeacon (now : Nat) (s : State) :
    sendDue now (dueBeacon s) =
      if outFree now s then
        sendOwn .beacon 0 beaconKind (beaconPayload s) now (updLoop (fun l => { l with held := none }) s)
      else dueBeacon s := rfl

theorem Clock.flagCode_valid (c : Clock) : byte (flagCode c.valid) = if c.state = .running then 1#8 else 0#8 := by
  cases h : c.state <;> simp [Clock.valid, h, flagCode] <;> rfl

/-- Settles O53: an own frame that lapses is timed out before, and the window then opens as `openedWindow` says. -/
theorem windowOpenSendsTheBeacon : Obligations.WindowOpenSendsTheBeacon := by
  intro now s hp hr
  have hlive : loopLive s = true := by simp [loopLive, hp, hr]
  refine ⟨fun hd => congrArg Host.Outcome.next ((if_pos hlive).trans (if_pos hd)), fun w u hd hw hl hu => ?_,
    fun hd hrun => ?_⟩
  · have htimed : exec .returnTimeout s = .next (timedOut w s) := by
      refine (congrArg Host.Outcome.next (whenLive_of_live hp hr returnTimeout)).trans ?_
      rw [returnTimeout, hw]
    obtain rfl : timedOut w s = u := by simpa using htimed.symm.trans hu
    rw [exec_windowOpen hlive hd, exec_windowOpen ((timedOut_loopLive w s).trans hlive) (timedOut_state_ne_down hd),
      openWindow_timedOut hw hl]
  · intro l free last first active w count served payload
    have hpayload : beaconPayload (openedWindow now s) = payload := by
      simp only [beaconPayload, servedPanels, windowOf, openedWindow, Tab.get_map, Clock.flagCode_valid]
      rfl
    rw [exec_windowOpen hlive hd, openWindow, lapseAwaited_of_running hrun, freshWindow_nextWindow,
      sendDue_dueBeacon]
    by_cases hfree : free
    · rw [if_pos ((outFree_iff (s := openedWindow now s) now).2 (by exact hfree)), hpayload]
      simp only [hfree, if_true]
      rfl
    · rw [if_neg (mt (outFree_iff (s := openedWindow now s) now).1 (by exact hfree)), dueBeacon, hpayload]
      simp only [hfree, if_false]
      rfl

end Sys2Proof.Machine
end

section
/-!
SUPPORT. The outbound service (R139): the panel that is visited next, what a visit finds to send it, and the panels
passed by on the way.
-/

namespace Sys2Proof.Machine

/-! ## What a panel would be sent (R126, R148, R149) -/

def ReplyEntry.isReady (e : ReplyEntry) : Bool :=
  match e.state with
  | .ready _ => true
  | _ => false

theorem readyReply_of_find {p : Panel} {e : ReplyEntry} {x : CallAnswer}
    (h : p.replies.find? ReplyEntry.isReady = some e) (hx : e.state = .ready x) : readyReply p = some (e, x) := by
  obtain ⟨-, before, after, hl, hbefore⟩ := List.find?_eq_some_iff_append.1 h
  refine List.findSome?_eq_some_iff.2 ⟨before, e, after, hl, by rw [hx], fun y hy => ?_⟩
  have := hbefore y hy
  unfold ReplyEntry.isReady at this
  split <;> simp_all

theorem readyReply_of_none {p : Panel} (h : p.replies.find? ReplyEntry.isReady = none) : readyReply p = none := by
  refine List.findSome?_eq_none_iff.2 fun e he => ?_
  have := List.find?_eq_none.1 h e he
  unfold ReplyEntry.isReady at this
  split <;> simp_all

/-- Row `i` of a face is dirty and not in flight (R126). -/
abbrev Face.offers (f : Face) (i : Fin 8) : Prop := f.dirty.get i = true ∧ f.inFlight.get i = false

theorem offeredRow_eq_some {f : Face} {i : Fin 8} (h : f.offers i ∧ ∀ j, j < i → ¬ f.offers j) :
    offeredRow f = some i := by
  rw [offeredRow, ← Fin.find?_eq_find?_finRange, Fin.find?_eq_some_iff]
  simpa [Face.offers] using h

theorem offeredRow_eq_none {f : Face} (h : ∀ i, ¬ f.offers i) : offeredRow f = none := by
  rw [offeredRow, ← Fin.find?_eq_find?_finRange, Fin.find?_eq_none_iff]
  simpa [Face.offers] using h

/-- A panel has nothing to be sent. -/
def Idle (s : State) (a : Addr) : Prop :=
  (s.panels.get a).state ≠ .absent ∧ (∀ i, ¬ (s.composer.faces.get a).offers i) ∧
    (∀ e, e ∈ (s.panels.get a).replies → e.isReady = false) ∧
    ∀ k, k ∈ (s.panels.get a).tickets → hasTicket s k.kitchen k.booking = false

/-- The TICKET frames of a panel from the first one whose ticket still stands. -/
def standingTickets (s : State) (a : Addr) : List TicketFrame :=
  (s.panels.get a).tickets.dropWhile fun k => !hasTicket s k.kitchen k.booking

/-- A panel with something to be sent that has no READY reply, no standing TICKET frame and no row is ABSENT. -/
theorem absent_of_not_idle {s : State} {a : Addr} (h : ¬ Idle s a)
    (hr : (s.panels.get a).replies.find? ReplyEntry.isReady = none) (hk : standingTickets s a = [])
    (hrows : ∀ i, ¬ (s.composer.faces.get a).offers i) : (s.panels.get a).state = .absent :=
  Classical.byContradiction fun habsent => h ⟨habsent, hrows,
    fun e he => Bool.eq_false_iff.2 (List.find?_eq_none.1 hr e he),
    fun k hm => (Bool.not_eq_true' _).mp (List.dropWhile_eq_nil_iff.1 hk k hm)⟩

theorem dropLapsed_of_none {s : State} {a : Addr} (h : readyReply (s.panels.get a) = none) :
    dropLapsed a s = updPanel a (fun p => { p with tickets := standingTickets s a }) s := by
  simp [dropLapsed, h, standingTickets, updPanel, Tab.upd_eq_set]

/-- What a panel with no READY reply and no TICKET frame would be sent. -/
theorem nextFor_of_empty {s : State} {a : Addr} (hr : readyReply (s.panels.get a) = none)
    (hk : (s.panels.get a).tickets = []) :
    nextFor s a = (offeredRow (s.composer.faces.get a)).elim
      (if (s.panels.get a).state = .absent then some (.face a 0) else none) fun i => some (.face a i) := by
  simp only [nextFor, hr, hk]
  cases offeredRow (s.composer.faces.get a) <;> rfl

/-! ## A panel left with no TICKET frame (R149) -/

def emptied (a : Addr) (s : State) : State := updPanel a (fun p => { p with tickets := [] }) s

theorem emptied_get (a : Addr) (s : State) (x : Addr) : (emptied a s).panels.get x =
    if x = a then { s.panels.get x with tickets := [] } else s.panels.get x := by
  simp only [emptied, updPanel, Tab.get_upd]
  split
  next h => rw [h]
  next => rfl

theorem readyReply_emptied (a : Addr) (s : State) (x : Addr) :
    readyReply ((emptied a s).panels.get x) = readyReply (s.panels.get x) := by
  rw [emptied_get]
  split <;> rfl

theorem mayServe_emptied (a : Addr) (s : State) (x : Addr) : mayServe (emptied a s) x = mayServe s x := by
  rw [mayServe, mayServe, emptied_get]
  split <;> rfl

theorem Idle.emptied {s : State} {x : Addr} (h : Idle s x) (a : Addr) : Idle (emptied a s) x := by
  obtain ⟨hstate, hrows, hreplies, htickets⟩ := h
  by_cases hx : x = a
  · rw [Idle, emptied_get, if_pos hx]
    exact ⟨hstate, hrows, hreplies, fun k hk => nomatch hk⟩
  · rw [Idle, emptied_get, if_neg hx]
    exact ⟨hstate, hrows, hreplies, htickets⟩

theorem nextFor_emptied {s : State} {a : Addr} (hr : readyReply (s.panels.get a) = none) :
    nextFor (emptied a s) a = (offeredRow (s.composer.faces.get a)).elim
      (if (s.panels.get a).state = .absent then some (.face a 0) else none) fun i => some (.face a i) := by
  have hstate : ((emptied a s).panels.get a).state = (s.panels.get a).state := by rw [emptied_get, if_pos rfl]
  rw [nextFor_of_empty ((readyReply_emptied a s a).trans hr) (by rw [emptied_get, if_pos rfl]), hstate]
  rfl

/-! ## A visit -/

theorem visit_skips {s : State} {a : Addr} (h : mayServe s a = false) (now : Nat) (as : List Addr) :
    visit now (a :: as) s = visit now as s := by
  simp [visit, h]

/-- A panel with nothing to be sent is passed by; the TICKET frames that it held have all lapsed. -/
theorem visit_passes {s : State} {a : Addr} (h : mayServe s a = true) (hi : Idle s a) (now : Nat) (as : List Addr) :
    visit now (a :: as) s = visit now as (emptied a s) := by
  obtain ⟨hstate, hrows, hreplies, htickets⟩ := hi
  have hnone := readyReply_of_none (List.find?_eq_none.2 fun e he => Bool.eq_false_iff.1 (hreplies e he))
  have hleft : standingTickets s a = [] := List.dropWhile_eq_nil_iff.2 fun k hk => by rw [htickets k hk]; rfl
  have hdrop : dropLapsed a s = emptied a s := by rw [dropLapsed_of_none hnone, hleft]; rfl
  have hnext : nextFor (emptied a s) a = none := by
    rw [nextFor_emptied hnone, offeredRow_eq_none hrows]
    exact if_neg hstate
  simp only [visit, h, if_true, hdrop, hnext]

theorem visit_reply {s : State} {a : Addr} {e : ReplyEntry} {x : CallAnswer} (h : mayServe s a = true)
    (hr : readyReply (s.panels.get a) = some (e, x)) (now : Nat) (as : List Addr) :
    visit now (a :: as) s = sendOwn (.reply a e.serial) (address a) replyKind (replyPayload e x) now { s with
      loop := { s.loop with cursor := a.val + 1 }
      panels := s.panels.set a { s.panels.get a with
        served := true
        replies := (s.panels.get a).replies.map fun q =>
          if q.serial = e.serial then { q with state := .inFlight x } else q } } := by
  have hserved : readyReply { s.panels.get a with served := true } = some (e, x) := hr
  simp [visit, h, dropLapsed, hr, nextFor, sendChosen, sendReply, updLoop, updPanel, Tab.upd_eq_set, hserved, address]

theorem visit_ticket {s : State} {a : Addr} {k : TicketFrame} {ks : List TicketFrame} (h : mayServe s a = true)
    (hr : readyReply (s.panels.get a) = none) (hk : standingTickets s a = k :: ks) (now : Nat) (as : List Addr) :
    visit now (a :: as) s = sendOwn (.ticket a k.booking) (address a) ticketKind (ticketPayload k) now { s with
      loop := { s.loop with cursor := a.val + 1 }
      panels := s.panels.set a { s.panels.get a with served := true, tickets := k :: ks } } := by
  have hready : readyReply { s.panels.get a with tickets := k :: ks } = none := hr
  simp [visit, h, dropLapsed_of_none hr, hk, nextFor, sendChosen, sendTicket, updLoop, updPanel, Tab.upd_eq_set,
    hready, address]

/-- The lowest offered row is sent, or row 0 where an ABSENT panel offers none. -/
theorem visit_row {s : State} {a : Addr} {i : Fin 8} (h : mayServe s a = true)
    (hr : readyReply (s.panels.get a) = none) (hk : standingTickets s a = [])
    (hrow : offeredRow (s.composer.faces.get a) = some i ∨
      offeredRow (s.composer.faces.get a) = none ∧ (s.panels.get a).state = .absent ∧ i = 0)
    (now : Nat) (as : List Addr) :
    visit now (a :: as) s = sendOwn (.face a i) (address a) faceKind (facePayload s a i) now { s with
      loop := { s.loop with cursor := a.val + 1 }
      panels := s.panels.set a { s.panels.get a with served := true, tickets := [] }
      composer := { s.composer with
        faces := s.composer.faces.upd a fun f => { f with
          dirty := f.dirty.set i false, inFlight := f.inFlight.set i true } } } := by
  have hdrop : dropLapsed a s = emptied a s := by rw [dropLapsed_of_none hr, hk]; rfl
  have hnext : nextFor (emptied a s) a = some (.face a i) := by
    rw [nextFor_emptied hr]
    obtain ho | ⟨ho, habsent, rfl⟩ := hrow
    · rw [ho]
      rfl
    · rw [ho]
      exact if_pos habsent
  simp only [visit, h, if_true, hdrop, hnext, sendChosen, sendRow]
  simp [emptied, updLoop, updPanel, updFace, facePayload, Tab.upd_eq_set, address]

/-! ## The panels passed by -/

/-- A visit passes by each panel that may be served and has nothing to be sent, and by each that may not be. -/
theorem visit_append (now : Nat) (l : List Addr) {s : State} (h : ∀ x, x ∈ l → mayServe s x = true → Idle s x) :
    ∃ panels : Tab Panel 112, (∀ rest, visit now (l ++ rest) s = visit now rest { s with panels := panels }) ∧
      ∀ x, panels.get x =
        if x ∈ l ∧ mayServe s x = true then { s.panels.get x with tickets := [] } else s.panels.get x := by
  induction l generalizing s with
  | nil => exact ⟨s.panels, fun _ => rfl, fun x => by simp⟩
  | cons a l ih =>
    cases hm : mayServe s a with
    | false =>
      obtain ⟨panels, hvisit, hget⟩ := ih fun x hx => h x (List.mem_cons_of_mem _ hx)
      refine ⟨panels, fun rest => (visit_skips hm now _).trans (hvisit rest), fun x => ?_⟩
      rw [hget]
      refine if_congr ⟨fun ⟨hx, hs⟩ => ⟨List.mem_cons_of_mem _ hx, hs⟩, fun ⟨hx, hs⟩ => ⟨?_, hs⟩⟩ rfl rfl
      exact (List.mem_cons.1 hx).resolve_left fun hxa => by simp [hxa, hm] at hs
    | true =>
      obtain ⟨panels, hvisit, hget⟩ := ih (s := emptied a s)
        fun x hx hs => (h x (List.mem_cons_of_mem _ hx) (by rwa [mayServe_emptied] at hs)).emptied a
      refine ⟨panels, fun rest => (visit_passes hm (h a List.mem_cons_self hm) now _).trans (hvisit rest),
        fun x => ?_⟩
      rw [hget, mayServe_emptied, emptied_get]
      by_cases hx : x = a
      · simp [hx, hm]
      · simp [hx]

/-! ## The order of the visits -/

/-- A panel's place in the round: those after the one last served first, and then from the lowest on. -/
def visitRank (s : State) (x : Addr) : Nat := if s.loop.cursor ≤ x.val then x.val else x.val + 112

theorem mem_visitOrder {s : State} {x : Addr} : x ∈ visitOrder s ↔
    (s.panels.get x).kind ≠ .unbound ∧
      (s.panels.get x).cycleWindow.getD (x.val + 1) % s.loop.active.windows = s.loop.currentWindow := by
  have hserved : x ∈ servedPanels s ↔ (s.panels.get x).kind ≠ .unbound ∧
      (s.panels.get x).cycleWindow.getD (x.val + 1) % s.loop.active.windows = s.loop.currentWindow := by
    simp [servedPanels, windowOf, address]
  have hsplit : s.loop.cursor < address x ∨ address x ≤ s.loop.cursor := Nat.lt_or_ge _ _
  simp only [visitOrder, List.mem_append, List.mem_filter, decide_eq_true_eq, ← and_or_left, hsplit, and_true, hserved]

theorem visitOrder_pairwise (s : State) : (visitOrder s).Pairwise fun x y => visitRank s x < visitRank s y := by
  have hserved : (servedPanels s).Pairwise (· < ·) := ((List.sortedLT_finRange 112).pairwise).filter _
  have hlater : ∀ x ∈ (servedPanels s).filter (fun x => decide (s.loop.cursor < address x)),
      visitRank s x = x.val := fun x hx => if_pos (Nat.lt_succ_iff.1 (of_decide_eq_true (List.mem_filter.1 hx).2))
  have hearlier : ∀ x ∈ (servedPanels s).filter (fun x => decide (address x ≤ s.loop.cursor)),
      visitRank s x = x.val + 112 := fun x hx => if_neg (Nat.not_le.2 (of_decide_eq_true (List.mem_filter.1 hx).2))
  refine List.pairwise_append.2 ⟨(hserved.filter _).imp_of_mem fun hx hy hlt => ?_,
    (hserved.filter _).imp_of_mem fun hx hy hlt => ?_, fun x hx y hy => ?_⟩
  · rw [hlater _ hx, hlater _ hy]
    exact hlt
  · rw [hearlier _ hx, hearlier _ hy]
    exact Nat.add_lt_add_right hlt 112
  · rw [hlater _ hx, hearlier _ hy]
    omega

/-- The panels visited before one of the round are those of a lower place. -/
theorem visitOrder_split {s : State} {a : Addr} (h : a ∈ visitOrder s) : ∃ before after,
    visitOrder s = before ++ a :: after ∧ ∀ x, x ∈ before ↔ x ∈ visitOrder s ∧ visitRank s x < visitRank s a := by
  obtain ⟨before, after, hl⟩ := List.append_of_mem h
  have hrank := visitOrder_pairwise s
  rw [hl, List.pairwise_append, List.pairwise_cons] at hrank
  obtain ⟨-, ⟨hafter, -⟩, hbefore⟩ := hrank
  refine ⟨before, after, hl, fun x => ⟨fun hx => ⟨by simp [hl, hx], hbefore x hx a List.mem_cons_self⟩, ?_⟩⟩
  rintro ⟨hx, hlt⟩
  rw [hl, List.mem_append, List.mem_cons] at hx
  obtain hx | rfl | hx := hx
  · exact hx
  · exact absurd hlt (lt_irrefl _)
  · exact absurd hlt (hafter x hx).not_gt

/-- The visits come to the first panel of the round that has something to be sent; those before it that may be served
are left with no TICKET frame. -/
theorem visit_reaches {s : State} {a : Addr} (ha : a ∈ visitOrder s)
    (h : ∀ x, x ∈ visitOrder s → mayServe s x = true → visitRank s x < visitRank s a → Idle s x) (now : Nat) :
    ∃ (panels : Tab Panel 112) (after : List Addr),
      visit now (visitOrder s) s = visit now (a :: after) { s with panels := panels } ∧
      panels.get a = s.panels.get a ∧
      ∀ x, panels.get x =
        if (x ∈ visitOrder s ∧ mayServe s x = true) ∧ visitRank s x < visitRank s a then
          { s.panels.get x with tickets := [] }
        else s.panels.get x := by
  obtain ⟨before, after, horder, hmem⟩ := visitOrder_split ha
  obtain ⟨panels, hvisit, hget⟩ := visit_append now before (s := s)
    fun x hx hs => h x ((hmem x).1 hx).1 hs ((hmem x).1 hx).2
  have hbefore : ∀ x, panels.get x =
      if (x ∈ visitOrder s ∧ mayServe s x = true) ∧ visitRank s x < visitRank s a then
        { s.panels.get x with tickets := [] }
      else s.panels.get x := fun x => (hget x).trans (if_congr (by rw [hmem, and_right_comm]) rfl rfl)
  refine ⟨panels, after, by rw [horder, hvisit], ?_, hbefore⟩
  rw [hbefore, if_neg fun hlt => lt_irrefl _ hlt.2]

/-! ## Loop-out is offered (R139) -/

theorem mayStart_iff (now : Nat) (s : State) : mayStart now s = true ↔
    s.loop.state = .up ∧ (s.loop.awaited = none ∧ s.ports.loopBusyUntil ≤ now) ∧
      now + 1000 * s.loop.active.timeout ≤ s.loop.openedAt + 1000 * s.loop.active.windowTime := by
  simp [mayStart, outFree_iff, and_assoc]

theorem serveAt_of_held {s : State} {payload : Bytes} (h : s.loop.held = some payload) (now : Nat) :
    serveAt now s = if outFree now s then
      sendOwn .beacon 0 beaconKind payload now (updLoop (fun l => { l with held := none }) s) else s := by
  simp [serveAt, sendDue, h]

theorem serveAt_of_not {now : Nat} {s : State} (hh : s.loop.held = none) (h : mayStart now s = false) :
    serveAt now s = s := by
  simp [serveAt, hh, h]

/-- Nothing is sent while loop-out is not free. -/
theorem serveAt_of_busy {now : Nat} {s : State} (h : outFree now s = false) : serveAt now s = s := by
  cases hh : s.loop.held with
  | some payload => rw [serveAt_of_held hh, h]; rfl
  | none => exact serveAt_of_not hh (by simp [mayStart, h])

theorem serveAt_of_start {now : Nat} {s : State} (hh : s.loop.held = none) (h : mayStart now s = true) :
    serveAt now s = serveNext now s := by
  simp [serveAt, hh, h]

theorem serveNext_of_not {s : State} (h : ∀ via, s.loop.echo ≠ .waiting via) (now : Nat) :
    serveNext now s = visit now (visitOrder s) s := by
  unfold serveNext
  split
  case h_1 via he => exact absurd he (h via)
  case h_2 => rfl

theorem serveNext_of_waiting {s : State} {via : Via} (h : s.loop.echo = .waiting via) (now : Nat) :
    serveNext now s = sendOwn (.echo via) 0 echoKind [] now (setEcho (.inFlight via) s) := by
  simp only [serveNext, h]

/-- Settles O54: `visit_reaches` brings the round to the panel that is served, and the visit of that panel sends it the
frame that it has. -/
theorem ownFrameSendServesTheNextPanel : Obligations.OwnFrameSendServesTheNextPanel := by
  intro now s hp hr free start sent ready live offered mine rank idle
  have hexec : exec (.ownFrameSend now) s = .next (serveAt now s) :=
    congrArg Host.Outcome.next (whenLive_of_live hp hr (serveAt now))
  have hmine : ∀ x, mine x = true ↔ x ∈ visitOrder s ∧ mayServe s x = true := by
    intro x
    rw [mem_visitOrder]
    simp only [mine, mayServe, Bool.and_eq_true, decide_eq_true_eq]
    rfl
  rw [hexec]
  refine ⟨fun hstart hno => ?_, fun hfree _ payload hh => ?_, fun ⟨hfree, hh, hup, htime⟩ via he => ?_,
    fun ⟨hfree, hh, hup, htime⟩ he => ?_⟩
  · refine congrArg Host.Outcome.next (Classical.byCases (p := free) (fun hfree => ?_) fun hbusy => ?_)
    · have hh := hno.resolve_left (not_not.2 hfree)
      refine serveAt_of_not hh (Bool.eq_false_iff.2 fun h => hstart ?_)
      obtain ⟨hup, -, htime⟩ := (mayStart_iff now s).1 h
      exact ⟨hfree, hh, hup, htime⟩
    · exact serveAt_of_busy (Bool.eq_false_iff.2 (mt (outFree_iff (s := s) now).1 hbusy))
  · rw [serveAt_of_held hh, if_pos ((outFree_iff (s := s) now).2 hfree)]
    exact ⟨_, rfl, rfl, rfl, rfl⟩
  · rw [serveAt_of_start hh ((mayStart_iff now s).2 ⟨hup, hfree, htime⟩), serveNext_of_waiting he]
    exact ⟨_, rfl, rfl, rfl, rfl⟩
  · rw [serveAt_of_start hh ((mayStart_iff now s).2 ⟨hup, hfree, htime⟩), serveNext_of_not he]
    refine ⟨fun hidle => ?_, fun a ha hbusy hbefore => ?_⟩
    · obtain ⟨panels, hvisit, hget⟩ := visit_append now (visitOrder s) (s := s)
        fun x hx hs => hidle x ((hmine x).2 ⟨hx, hs⟩)
      have hend := hvisit []
      rw [List.append_nil] at hend
      refine ⟨_, congrArg _ hend, rfl, fun x => ?_⟩
      exact (hget x).trans (if_congr (hmine x).symm rfl rfl)
    · obtain ⟨hin, hserve⟩ := (hmine a).1 ha
      obtain ⟨panels, after, hvisit, hself, hget⟩ := visit_reaches hin
        (fun x hx hs hlt => hbefore x ((hmine x).2 ⟨hx, hs⟩) hlt) now
      let u : State := { s with panels := panels }
      have hmay : mayServe u a = true := by
        rw [mayServe, hself]
        exact hserve
      rw [hvisit]
      intro p face served left l
      have hserved : ∀ p' t, t.panels = panels.set a { p' with served := true } → served p' t := by
        intro p' t ht x
        rw [ht, Tab.get_set, hget]
        refine if_congr Iff.rfl rfl (if_congr ?_ rfl rfl)
        rw [Bool.and_eq_true, decide_eq_true_eq, hmine]
        rfl
      have hleft : standingTickets u a = left := by
        rw [standingTickets, hself]
        rfl
      have hunready : p.replies.find? ready = none → readyReply (u.panels.get a) = none := fun h => by
        rw [hself]
        exact readyReply_of_none h
      refine ⟨fun e x he hx => ?_, fun hnone => ⟨fun k ks hk => ?_, fun hk i hi => ?_⟩⟩
      · have hready : readyReply (u.panels.get a) = some (e, x) := by
          rw [hself]
          exact readyReply_of_find he hx
        refine ⟨_, congrArg _ (visit_reply hmay hready now after), rfl, hserved _ _ ?_, rfl, rfl⟩
        rw [hself]
        rfl
      · refine ⟨_, congrArg _ (visit_ticket hmay (hunready hnone) (hleft.trans hk) now after), rfl, hserved _ _ ?_,
          rfl, rfl⟩
        rw [hself, hk]
        rfl
      · have hrow : offeredRow (u.composer.faces.get a) = some i ∨
            offeredRow (u.composer.faces.get a) = none ∧ (u.panels.get a).state = .absent ∧ i = 0 := by
          obtain hlowest | ⟨hi, hrows⟩ := hi
          · exact .inl (offeredRow_eq_some hlowest)
          · exact .inr ⟨offeredRow_eq_none hrows, hself ▸ absent_of_not_idle hbusy hnone hk hrows, hi⟩
        refine ⟨_, congrArg _ (visit_row hmay (hunready hnone) (hleft.trans hk) hrow now after), rfl,
          hserved _ _ ?_, rfl, rfl, rfl⟩
        rw [hself]
        rfl

end Sys2Proof.Machine
end

section
/-!
SUPPORT. A write of a panel's kind and binding (R133, R140, R143): the entry that it leaves, and the panel renewed where
either has changed.
-/

namespace Sys2Proof.Machine

theorem panelKind?_eq : ∀ n, panelKind? n =
    if n = 0 then some .unbound else if n = 1 then some .door else if n = 2 then some .pantry else none
  | 0 => rfl
  | 1 => rfl
  | 2 => rfl
  | _ + 3 => rfl

/-- The kind that a write leaves. -/
def Panel.keptKind (p : Panel) (kind : Option Nat) : PanelKind := (kind.bind panelKind?).getD p.kind

/-- The binding that a write leaves, before it is judged against a kind that the write has changed. -/
def Panel.keptBinding (p : Panel) (kind binding : Option Nat) : Nat :=
  binding.elim p.binding fun n => if bindingFits (p.keptKind kind) n then n else p.binding

theorem Panel.written_bound (p : Panel) (kind binding : Option Nat) :
    p.written { kind := kind, binding := binding } = { p with
      kind := p.keptKind kind
      binding := if bindingFits (p.keptKind kind) (p.keptBinding kind binding) then p.keptBinding kind binding
        else 0 } := by
  cases binding <;> rfl

/-- A write of a panel's entry, by what it comes to (R143). -/
theorem writePanel_state (a : Addr) (w : PanelWrite) (m : Nat) (s : State) :
    (writePanel (a.val + 1) w m s).state =
      if ((s.panels.get a).written w).kind ≠ (s.panels.get a).kind ∨
          ((s.panels.get a).written w).binding ≠ (s.panels.get a).binding then
        panelRenewed a { s with panels := s.panels.set a ((s.panels.get a).written w) }
      else { s with panels := s.panels.set a ((s.panels.get a).written w) } := by
  simp only [writePanel, addr?_val_succ]

theorem writePanel_clamped (a : Addr) (kind binding : Option Nat) (m : Nat) (s : State) :
    (writePanel (a.val + 1) { kind := kind, binding := binding } m s).clamped =
      bits [false, !bindingFits ((s.panels.get a).keptKind kind) ((s.panels.get a).keptBinding kind binding),
        false] := by
  simp only [writePanel, addr?_val_succ]
  cases binding <;> rfl

theorem writePanel_ignored (a : Addr) (kind binding : Option Nat) (s : State) :
    (writePanel (a.val + 1) { kind := kind, binding := binding } 0 s).ignored =
      bits [kind.isSome && (kind.bind panelKind?).isNone,
        binding.any fun n => !bindingFits ((s.panels.get a).keptKind kind) n] := by
  have hkind : namedWith kind (fun n => (panelKind? n).isNone) = (kind.isSome && (kind.bind panelKind?).isNone) := by
    cases kind <;> rfl
  simp only [writePanel, addr?_val_succ, hkind]
  exact bits_append_false [_, _] 4

/-- A panel renewed: its fresh state, its awaited frame stale, and its face composed anew. -/
theorem panelRenewed_eq (a : Addr) (p : Panel) (s : State) :
    panelRenewed a { s with panels := s.panels.set a p } = { s with
      panels := s.panels.set a p.renewed
      loop := { s.loop with
        awaited := s.loop.awaited.map fun w => if w.carried.panel? = some a then { w with stale := true } else w }
      composer := { s.composer with
        faces := s.composer.faces.set a { s.composer.faces.get a with
          own := composedRows { s with panels := s.panels.set a p.renewed } a
          dirty := Tab.fill 8 true
          area := freshArea
          server := none
          auto := autoChoice { s with panels := s.panels.set a p.renewed } a } } } := by
  simp only [panelRenewed, markStale, refreshFace, updFace, Tab.upd_eq_set, Tab.set_set, Tab.get_set_self,
    beq_iff_eq]
  rfl

/-- A write of a panel's entry is answered with its masks, of 1 byte, and the entry as it now stands (R167). -/
theorem answerWrite_panel {s : State} {r : Written} (hp : r.state.ports = s.ports) (via : Via) (a : Addr) :
    ∃ t, answerWrite via 2 (a.val + 1) 1 r = t ∧ t = { r.state with ports := t.ports } ∧
      Answered via .tableWrite
        (.done ([1#8, byte r.clamped, byte r.ignored] ++ panelImage (t.panels.get a))) s t := by
  have himage : tableImage r.state 2 (a.val + 1) = panelImage (r.state.panels.get a) := by
    rw [tableImage, addr?_val_succ]
  have hpanels : (answerWrite via 2 (a.val + 1) 1 r).panels = r.state.panels := by rw [answerWrite, respond_eq]
  refine ⟨_, rfl, by rw [answerWrite, respond_eq], ?_⟩
  rw [hpanels, ← himage]
  exact respond_answered_of _ _ _ hp

/-- Settles O25: the entry by `Panel.written`, and what a change of it does by `panelRenewed_eq`. -/
theorem panelKindBindingWriteRenewsAChangedPanel : Obligations.PanelKindBindingWriteRenewsAChangedPanel := by
  intro via a kind binding s hs p named k fits taken b changed
  have hnamed : named = kind.bind panelKind? := by
    rw [funext panelKind?_eq]
  have hk : k = p.keptKind kind := congrArg (·.getD p.kind) hnamed
  have hfits : ∀ n, fits n = bindingFits (p.keptKind kind) n := by
    intro n
    rw [← hk]
    simp only [fits]
    generalize k = k'
    cases k' <;> rfl
  have htaken : taken = p.keptBinding kind binding := by
    cases binding with
    | none => rfl
    | some n => exact if_congr (by rw [hfits]) rfl rfl
  have hwritten : p.written { kind := kind, binding := binding } = { p with kind := k, binding := b } := by
    rw [Panel.written_bound, ← hfits, ← htaken, ← hk]
  let w := writePanel (a.val + 1) { kind := kind, binding := binding } 0 s
  have hstate : w.state = if changed then
      panelRenewed a { s with panels := s.panels.set a { p with kind := k, binding := b } }
      else { s with panels := s.panels.set a { p with kind := k, binding := b } } := by
    refine (writePanel_state ..).trans ?_
    rw [show s.panels.get a = p from rfl, hwritten]
  have hclamped : byte w.clamped = if fits taken then 0#8 else 2#8 := by
    rw [show w.clamped = _ from writePanel_clamped .., hfits, htaken]
    cases bindingFits (p.keptKind kind) (p.keptBinding kind binding) <;> rfl
  have hignored : byte w.ignored = byte (bits [kind.isSome && named.isNone, binding.any fun n => !fits n]) := by
    rw [show w.ignored = _ from writePanel_ignored .., hnamed, funext hfits]
  have hports : w.state.ports = s.ports := by
    rw [hstate]
    split <;> rfl
  obtain ⟨t, ht, heq, hans⟩ := answerWrite_panel hports via a
  rw [hclamped, hignored] at hans
  rw [hstate] at heq
  refine ⟨t, congrArg Host.Outcome.next ((whenTaking_of_taking hs _).trans ht), fun hsame => ?_, fun hdiff => ?_, hans⟩
  · obtain ⟨hkind, hbinding⟩ := not_or.1 hsame
    have hp : ({ p with kind := k, binding := b } : Panel) = p := by rw [not_not.1 hkind, not_not.1 hbinding]
    rw [if_neg hsame, hp, Tab.set_get] at heq
    exact heq
  · rw [if_pos hdiff, panelRenewed_eq] at heq
    rw [heq]
    refine ⟨?_, rfl, Tab.get_set_self ..⟩
    simp only [Tab.get_set_self]
    rfl

end Sys2Proof.Machine
end
